-- ==== Sys2Proof/Word.lean ====
section
/-! DEFINITION. The words of the Ralwa RX9: every register is 64 bits wide (spec 00, Conventions). -/

namespace Sys2Proof

/-- A register of the part: 64 bits (each register is introduced as "64 bits"). -/
abbrev Word := BitVec 64

/-- One byte of DRAM, of the SRAM buffer or of a core's tightly coupled memory. -/
abbrev Byte := BitVec 8

end Sys2Proof
end

