-- ==== Sys2Proof/Machine/Maps.lean ====
section
/-! DEFINITION. Finite maps as plain data: lists of (key, value) pairs with strictly rising keys.
Every sparse piece of state (registers, memory bytes, tags, zones, ...) is held in this one form. -/

namespace Sys2Proof.Machine

/-- A finite map from numbers, kept with strictly rising keys. -/
abbrev PMap (α : Type) := List (Nat × α)

/-- The value a map lists for a key. -/
def pget {α : Type} : PMap α → Nat → Option α
  | [], _ => none
  | (k', v) :: t, k => if k = k' then some v else pget t k

/-- Put a value at a key, keeping the keys rising. -/
def pset {α : Type} : PMap α → Nat → α → PMap α
  | [], k, v => [(k, v)]
  | (k', v') :: t, k, v =>
    if k < k' then (k, v) :: (k', v') :: t
    else if k = k' then (k, v) :: t
    else (k', v') :: pset t k v

/-- Remove a key. -/
def pdel {α : Type} : PMap α → Nat → PMap α
  | [], _ => []
  | (k', v') :: t, k => if k = k' then pdel t k else (k', v') :: pdel t k

/-- Read a map in which an unlisted key holds `d`. -/
def mget {α : Type} (d : α) (m : PMap α) (k : Nat) : α := (pget m k).getD d

/-- Write a map in which an unlisted key holds `d`: writing `d` removes the entry, so equal maps are equal data. -/
def mset {α : Type} [DecidableEq α] (d : α) (m : PMap α) (k : Nat) (v : α) : PMap α :=
  if v = d then pdel m k else pset m k v

/-- The keys of a map rise strictly. -/
def keysRise {α : Type} : PMap α → Bool
  | [] => true
  | [_] => true
  | (k, _) :: (k', v') :: t => decide (k < k') && keysRise ((k', v') :: t)

/-- Change the value listed at a key, if there is one. -/
def pmod {α : Type} (m : PMap α) (k : Nat) (f : α → α) : PMap α :=
  match pget m k with
  | some v => pset m k (f v)
  | none => m

/-- The first entry whose value meets a test. -/
def pfind {α : Type} (m : PMap α) (p : Nat → α → Bool) : Option (Nat × α) := m.find? fun e => p e.1 e.2

/-- The lowest number not listed. -/
def plowest {α : Type} (m : PMap α) : Nat → Nat → Option Nat
  | 0, _ => none
  | n + 1, k => match pget m k with
    | none => some k
    | some _ => plowest m n (k + 1)

end Sys2Proof.Machine
end

