-- ==== Sys2Proof/Machine/HostTypes.lean ====
section
/-! DEFINITION. What the host sees of the part and what it sends: statuses, submission entries, asynchronous events,
data pointers, queues, functions and the records the part sends out. -/

namespace Sys2Proof.Machine

/-- The completion statuses the manual names (R58, R68, R79, R88 to R92, R101, R106, R109, R117, R119, R120, R420, R530, ...).
The manual gives numbers only for the four vendor statuses of R120. -/
inductive Status where
  | success | invalidField | invalidOpcode | dataTransferError | abortRequested | invalidNamespaceOrFormat
  | commandSequenceError | invalidSglSegment | invalidSglCount | dataSglLength | metadataSglLength | sglType | prpOffset
  | invalidQueueId | invalidQueueSize | abortLimit | asyncLimit | asymPersistentLoss | asymInaccessible | asymTransition
  | namespaceNotReady | namespaceWriteProtected | lbaOutOfRange | capacityExceeded | reservationConflict
  | nsInsufficientCapacity | nsIdUnavailable | nsAlreadyAttached | nsNotAttached | nsAttachLimit | controllerListInvalid
  | zoneFull | zoneReadOnly | zoneOffline | zoneInvalidWrite | zoneBoundary | tooManyActive | tooManyOpen
  | invalidZoneTransition | unrecoveredRead | deallocatedRead | compareFailure | guardError | appTagError | refTagError
  | writeFault | invalidLogPage | accessDenied | invalidFirmwareSlot | invalidFirmwareImage | activationTimeViolation
  | overlappingRange | firmwareNeedsReset | firmwareProhibited | featureNotSaveable | featureNotChangeable | sanitizeFailed | internalError
  | invalidPlacement | sealMismatch | functionFrozen | energyTimeout | rowLost
  deriving DecidableEq, Repr

/-- A 64-byte submission entry as its sixteen 32-bit words (R78). -/
abbrev Sqe := List Nat

/-- An SGL descriptor of R90: its type and subtype, its address and its length. -/
structure SglDesc where
  ty   : Nat
  sub  : Nat
  addr : Nat
  len  : Nat
  deriving DecidableEq, Repr

/-- The data pointers of a command, with the list pages and segments fetched from host memory (R92). -/
inductive DataPtr where
  /-- PRP1, the entries after it, and the pointers to list pages. -/
  | prp (prp1 : Nat) (rest listPtrs : List Nat)
  /-- The SGL segments in order, and the metadata SGL. -/
  | sgl (segs : List (List SglDesc)) (mdSgl : List SglDesc)
  deriving DecidableEq, Repr

/-- An NVMe controller register of BAR0 (R49) that a host writes. -/
inductive NvmeReg where
  | cc | aqa | asq | acq | intms | intmc
  | msix (vec : Nat) (mask : Bool) (addr : Nat)
  | reserved (off : Nat)
  deriving DecidableEq, Repr

/-- What a configuration request asks for (R44, R57, R61). -/
inductive CfgAction where
  | read
  | vfEnable (on : Bool)
  | pasidEnable (on : Bool)
  | write (off value : Nat)
  deriving DecidableEq, Repr

/-- A clock of R28. -/
inductive Clock where
  | hclk (n : Nat) | fclk | cclk | xclk | dclk (n : Nat) | aclk | sclk
  deriving DecidableEq, Repr

/-- The kind of a core's access (R33). -/
inductive AccessKind where
  | load | store | fetch
  deriving DecidableEq, Repr

/-- What a failed DMA read of host memory was for (R74). -/
inductive DmaRead where
  | sqFetch (fn qid : Nat)
  | command (tag : Nat)
  deriving DecidableEq, Repr

/-- The asynchronous events of the manual (R50, R67, R146, R154, R159, R374). -/
inductive AsyncEvent where
  | invalidDoorbell
  | anaChange
  | zoneDescriptorChanged (nsid : Nat)
  | namespaceChanged (nsid : Nat)
  | lbaStatus (nsid : Nat)
  | fdpEvent (handle : Nat)
  | criticalWarning (bits : Nat)
  | reservationLog (nsid : Nat)
  | firmwareActivation
  deriving DecidableEq, Repr

/-- A submission queue of a function (R78, R80). -/
structure SqRec where
  base : Nat
  size : Nat
  head : Nat
  tail : Nat
  cqid : Nat
  prio : Nat
  deriving DecidableEq, Repr

/-- A completion entry (R78, R103, R431): 16 bytes of command result, queue head, identifiers, phase and status. -/
structure Cqe where
  dw0    : Nat
  gen    : Nat
  sqHead : Nat
  sqid   : Nat
  cid    : Nat
  phase  : Bool
  status : Status
  deriving DecidableEq, Repr

/-- A completion waiting for its queue, for D0 or for Thaw (R48, R104, R432): the command's tag, status and result. -/
structure HeldCpl where
  tag    : Nat
  sqid   : Nat
  cqid   : Nat
  cid    : Nat
  status : Status
  dw0    : Nat
  gen    : Nat
  deriving DecidableEq, Repr

/-- A completion queue of a function (R78, R103 to R105). -/
structure CqRec where
  base  : Nat
  size  : Nat
  head  : Nat
  tail  : Nat
  phase : Bool
  ien   : Bool
  iv    : Nat
  held  : List HeldCpl
  stalled : Bool
  deriving DecidableEq, Repr

/-- An entry of the MSI-X table (R49). -/
structure MsixEntry where
  mask : Bool
  addr : Nat
  deriving DecidableEq, Repr

/-- The resources in force for a function (R52, R61). -/
structure Assign where
  iopq   : Nat
  vec    : Nat
  tagMin : Nat
  tagMax : Nat
  nsMax  : Nat
  pasidEn : Bool
  pasid  : Nat
  deriving DecidableEq, Repr

/-- A trailing write of a COMPAT function (R432). -/
structure Trail where
  sqid : Nat
  cid  : Nat
  cqid : Nat
  tag  : Nat
  /-- The generation it carries (R431, R432). -/
  gen  : Nat
  deriving DecidableEq, Repr

/-- The migration state of a function (R421). -/
inductive MState where
  | active | freezing | frozen | saved | restored
  deriving DecidableEq, Repr

/-- One entry of a range set by Seal Query (R389): namespace, first zone and zone count, verify flag. -/
structure QueryRange where
  nsid  : Nat
  first : Nat
  count : Nat
  verify : Bool
  deriving DecidableEq, Repr

/-- Everything the part keeps for one PCIe function (R46 to R61, R78 to R86, R105, R112 to R115, R416 to R432). -/
structure FnRec where
  /-- D3hot instead of D0 (R48). -/
  d3hot  : Bool
  /-- VF Enable, held for a PF (R57, R114). -/
  vfe    : Bool
  /-- PASID enabled in the capability (R61). -/
  pasidCap : Bool
  /-- CC of BAR0; EN is bit 0, SHN bits 15:14, AMS bits 13:11 (log 6). -/
  cc     : Nat
  /-- CSTS.RDY, CSTS.SHST (R112, R115); CSTS.CFS is computed (R75). -/
  rdy    : Bool
  shst   : Nat
  aqa    : Nat
  asq    : Nat
  acq    : Nat
  intms  : Nat
  /-- A controller reset is under way since the given time (R112). -/
  resetAt : Option Nat
  /-- It held no tag when its reset began (R417 cause 0x2). -/
  cleanReset : Bool
  /-- A shutdown has stopped fetch; it is abrupt: completions are discarded (R115). -/
  shutdown : Bool
  abrupt : Bool
  sqs    : PMap SqRec
  cqs    : PMap CqRec
  msix   : PMap MsixEntry
  /-- Vectors with a pending bit (R49). -/
  pba    : List Nat
  /-- Features the host set (R79), by identifier. -/
  feats  : PMap Nat
  /-- Vectors with Coalescing Disable (R105). -/
  coalDis : List Nat
  /-- Entries posted and not yet signalled, per vector (R105). -/
  coal   : PMap Nat
  hostId : Nat
  /-- Tags of outstanding Asynchronous Event Requests (R159), oldest first. -/
  aers   : List Nat
  pendEv : List AsyncEvent
  /-- Completions held in D3hot, in completion order (R48). -/
  d3Held : List HeldCpl
  asg    : Assign
  /-- Namespaces attached. -/
  nsids  : List Nat
  /-- The IDE stream the function is bound to (R64). -/
  stream : Option Nat
  /-- The fence and its cause (R417). -/
  fence  : Option Nat
  mstate : MState
  saveGen : Nat
  gen    : Nat
  trail  : List Trail
  trailHeld : List HeldCpl
  /-- CIDs of the Asynchronous Event Requests a Freeze squashed (R421). -/
  aerCids : List Nat
  /-- The Freeze under way: the tag of the command that waits for FROZEN, 65536 where none waits, and its start time (R421, R422). -/
  freeze : Option (Nat × Nat)
  query  : Option QueryRange
  /-- Index of the I/O queue the next turn starts with (R81). -/
  ioNext : Nat
  /-- Changed Zone List (R159): zones of a namespace whose descriptor changed. -/
  changed : List (Nat × Nat)
  deriving DecidableEq, Repr

/-- The direct record of what the part sends out, newest first: what hosts, cores, bridges and pins observe. -/
inductive Out where
  /-- Data of a command written to its host buffer (R102). -/
  | hostData (tag unit : Nat) (bytes : List Byte)
  /-- Values of a returned structure, in the order its rule lists them. -/
  | hostValues (tag : Nat) (vals : List Nat)
  /-- A completion entry written at a slot of a queue (R103). -/
  | cqe (fn cqid slot : Nat) (e : Cqe)
  | msix (fn vec : Nat)
  /-- An error signalled through AER (R74, R75). -/
  | aer (fn : Nat) (uncorrectableInternal : Bool) (poison : Bool)
  /-- Request Retry Status, or a normal answer, to a configuration request (R44). -/
  | cfgReply (fn : Nat) (retry : Bool)
  /-- Unsupported Request (R64). -/
  | unsupported (fn : Nat)
  | atsDone (port : Nat)
  /-- A DMA read issued for host memory (R81, R99). -/
  | dmaRead (fn addr len : Nat)
  /-- A value returned to a host that reads a register of BAR0 or BAR2. -/
  | hostRead (fn value : Nat)
  /-- A value returned to a core, or an access fault (R33). -/
  | coreData (core value : Nat)
  | coreFault (core : Nat)
  /-- An interrupt to firmware from a source of R517. -/
  | fwIrq (src : Nat)
  /-- A frame handed to a Binor port for its bridge: type, tag and bytes (R251). -/
  | frame (port ftype tag : Nat) (body : List Nat)
  /-- An ordered set or flit sent on a Binor port (R234 to R247). -/
  | link (port what arg : Nat)
  /-- A host port's lanes driven to electrical idle (R76, R73). -/
  | lanesIdle (port : Nat)
  /-- A core held in reset or started at an entry (R540, R548). -/
  | coreStart (core entry : Nat)
  /-- An NVMe-MI message handed to firmware: 0 SMBus, 1 I3C, 2 PCIe VDM. -/
  | miMessage (via : Nat) (bytes : List Byte)
  /-- A command on a DRAM channel: code and argument (R441 to R454). -/
  | dram (chan what arg : Nat)
  deriving DecidableEq, Repr

end Sys2Proof.Machine
end

