-- ==== Sys2Proof/Machine/RegId.lean ====
section
/-! DEFINITION. The names of the registers the manual introduces, one constructor per register table,
and the classes of register fields (R8) and of reset domains (R9). -/

namespace Sys2Proof.Machine

/-- A register of the manual. A register the manual repeats (per port, per core, per entry) is one name with an index. -/
inductive RegId where
  | sysId  -- SYS_ID, 01_architecture
  | sysCap  -- SYS_CAP, 01_architecture
  | sysClkstat  -- SYS_CLKSTAT, 01_architecture
  | sysAccerr  -- SYS_ACCERR, 01_architecture
  | sysScratch  -- SYS_SCRATCH, 01_architecture
  | bar2WinId  -- BAR2_WIN_ID, 02_host_ports_and_functions
  | bar2AsgCmd  -- BAR2_ASG_CMD, 02_host_ports_and_functions
  | bar2AsgStat  -- BAR2_ASG_STAT, 02_host_ports_and_functions
  | bar2MbxDb  -- BAR2_MBX_DB, 02_host_ports_and_functions
  | bar2AsgQt  -- BAR2_ASG_QT, 02_host_ports_and_functions
  | bar2AsgVn  -- BAR2_ASG_VN, 02_host_ports_and_functions
  | bar2AsgPasid  -- BAR2_ASG_PASID, 02_host_ports_and_functions
  | hpAnast  -- HP_ANAST, 02_host_ports_and_functions
  | hpCtl  -- HP_CTL, 02_host_ports_and_functions
  | hpLstat  -- HP_LSTAT, 02_host_ports_and_functions
  | hpFault  -- HP_FAULT, 02_host_ports_and_functions
  | hpIdestat  -- HP_IDESTAT, 02_host_ports_and_functions
  | intakeCtl  -- INTAKE_CTL, 03_command_intake_and_completion
  | intakeTagstat  -- INTAKE_TAGSTAT, 03_command_intake_and_completion
  | intakeTmo  -- INTAKE_TMO, 03_command_intake_and_completion
  | intakeFwact  -- INTAKE_FWACT, 03_command_intake_and_completion
  | intakeErrcnt  -- INTAKE_ERRCNT, 03_command_intake_and_completion
  | intakeAbortcnt  -- INTAKE_ABORTCNT, 03_command_intake_and_completion
  | confSlstat  -- CONF_SLSTAT, 03_command_intake_and_completion
  | confSeq  -- CONF_SEQ, 03_command_intake_and_completion
  | confCtl  -- CONF_CTL, 03_command_intake_and_completion
  | zmapCtl  -- ZMAP_CTL, 04_zones_and_placement
  | zmapPoolres  -- ZMAP_POOLRES, 04_zones_and_placement
  | zmapPoolstat  -- ZMAP_POOLSTAT, 04_zones_and_placement
  | zmapActstat  -- ZMAP_ACTSTAT, 04_zones_and_placement
  | zmapConv  -- ZMAP_CONV, 04_zones_and_placement
  | zmapConvcap  -- ZMAP_CONVCAP, 04_zones_and_placement
  | zmapZtbase  -- ZMAP_ZTBASE, 04_zones_and_placement
  | zmapCkpt  -- ZMAP_CKPT, 04_zones_and_placement
  | zmapCkptlow  -- ZMAP_CKPTLOW, 04_zones_and_placement
  | zmapNsz  -- ZMAP_NSZ, 04_zones_and_placement
  | ledgerCtl  -- LEDGER_CTL, 05_write_commit_and_atomicity
  | ledgerFixed  -- LEDGER_FIXED, 05_write_commit_and_atomicity
  | ledgerChg0  -- LEDGER_CHG0, 05_write_commit_and_atomicity
  | ledgerChg1  -- LEDGER_CHG1, 05_write_commit_and_atomicity
  | ledgerEnergy  -- LEDGER_ENERGY, 05_write_commit_and_atomicity
  | ledgerStat  -- LEDGER_STAT, 05_write_commit_and_atomicity
  | ledgerWait  -- LEDGER_WAIT, 05_write_commit_and_atomicity
  | ledgerPf  -- LEDGER_PF, 05_write_commit_and_atomicity
  | zmapLand  -- ZMAP_LAND, 05_write_commit_and_atomicity
  | zmapBasin  -- ZMAP_BASIN, 05_write_commit_and_atomicity
  | zmapBasinstat  -- ZMAP_BASINSTAT, 05_write_commit_and_atomicity
  | stripeJcfg  -- STRIPE_JCFG, 05_write_commit_and_atomicity
  | stripeJsn  -- STRIPE_JSN, 05_write_commit_and_atomicity
  | stripeJstat  -- STRIPE_JSTAT, 05_write_commit_and_atomicity
  | stripeRetry  -- STRIPE_RETRY, 05_write_commit_and_atomicity
  | schedCtl  -- SCHED_CTL, 06_read_path_and_tail_latency
  | schedDl  -- SCHED_DL, 06_read_path_and_tail_latency
  | schedSusp  -- SCHED_SUSP, 06_read_path_and_tail_latency
  | schedRun  -- SCHED_RUN, 06_read_path_and_tail_latency
  | schedSpill  -- SCHED_SPILL, 06_read_path_and_tail_latency
  | schedStat  -- SCHED_STAT, 06_read_path_and_tail_latency
  | schedCnt  -- SCHED_CNT, 06_read_path_and_tail_latency
  | schedCnt2  -- SCHED_CNT2, 06_read_path_and_tail_latency
  | schedLatctl  -- SCHED_LATCTL, 06_read_path_and_tail_latency
  | schedD0en  -- SCHED_D0EN, 06_read_path_and_tail_latency
  | schedLatbin  -- SCHED_LATBIN, 06_read_path_and_tail_latency
  | schedDiestat  -- SCHED_DIESTAT, 06_read_path_and_tail_latency
  | binorCtl  -- BINOR_CTL, 07_binor_link_and_bridge
  | binorStat  -- BINOR_STAT, 07_binor_link_and_bridge
  | binorBrid  -- BINOR_BRID, 07_binor_link_and_bridge
  | binorBrcap  -- BINOR_BRCAP, 07_binor_link_and_bridge
  | binorErr  -- BINOR_ERR, 07_binor_link_and_bridge
  | binorErr2  -- BINOR_ERR2, 07_binor_link_and_bridge
  | binorCred  -- BINOR_CRED, 07_binor_link_and_bridge
  | binorCmdq  -- BINOR_CMDQ, 07_binor_link_and_bridge
  | binorEq  -- BINOR_EQ, 07_binor_link_and_bridge
  | binorTemp  -- BINOR_TEMP, 07_binor_link_and_bridge
  | seqCtl  -- SEQ_CTL, 08_media_sequencer_and_rom_routines
  | seqProf  -- SEQ_PROF, 08_media_sequencer_and_rom_routines
  | seqFdq  -- SEQ_FDQ, 08_media_sequencer_and_rom_routines
  | seqFdqPtr  -- SEQ_FDQ_PTR, 08_media_sequencer_and_rom_routines
  | seqFcq  -- SEQ_FCQ, 08_media_sequencer_and_rom_routines
  | seqFcqPtr  -- SEQ_FCQ_PTR, 08_media_sequencer_and_rom_routines
  | seqBst  -- SEQ_BST, 08_media_sequencer_and_rom_routines
  | seqBstcmd  -- SEQ_BSTCMD, 08_media_sequencer_and_rom_routines
  | seqTmo  -- SEQ_TMO, 08_media_sequencer_and_rom_routines
  | seqStat  -- SEQ_STAT, 08_media_sequencer_and_rom_routines
  | seqDieclr  -- SEQ_DIECLR, 08_media_sequencer_and_rom_routines
  | seqCnt  -- SEQ_CNT, 08_media_sequencer_and_rom_routines
  | seqCnt2  -- SEQ_CNT2, 08_media_sequencer_and_rom_routines
  | ldpcCtl  -- LDPC_CTL, 09_media_ecc_patrol_and_reclaim
  | ldpcEsc  -- LDPC_ESC, 09_media_ecc_patrol_and_reclaim
  | ldpcThr  -- LDPC_THR, 09_media_ecc_patrol_and_reclaim
  | ldpcCnt  -- LDPC_CNT, 09_media_ecc_patrol_and_reclaim
  | ldpcCnt2  -- LDPC_CNT2, 09_media_ecc_patrol_and_reclaim
  | ldpcSoftstat  -- LDPC_SOFTSTAT, 09_media_ecc_patrol_and_reclaim
  | ldpcHint  -- LDPC_HINT, 09_media_ecc_patrol_and_reclaim
  | patrolCtl  -- PATROL_CTL, 09_media_ecc_patrol_and_reclaim
  | patrolLap  -- PATROL_LAP, 09_media_ecc_patrol_and_reclaim
  | patrolStat  -- PATROL_STAT, 09_media_ecc_patrol_and_reclaim
  | patrolCnt  -- PATROL_CNT, 09_media_ecc_patrol_and_reclaim
  | patrolScan  -- PATROL_SCAN, 09_media_ecc_patrol_and_reclaim
  | reclaimCtl  -- RECLAIM_CTL, 09_media_ecc_patrol_and_reclaim
  | reclaimW  -- RECLAIM_W, 09_media_ecc_patrol_and_reclaim
  | reclaimStat  -- RECLAIM_STAT, 09_media_ecc_patrol_and_reclaim
  | reclaimCnt  -- RECLAIM_CNT, 09_media_ecc_patrol_and_reclaim
  | reclaimCmd  -- RECLAIM_CMD, 09_media_ecc_patrol_and_reclaim
  | stripeCtl  -- STRIPE_CTL, 10_stripe_redundancy_and_rebuild
  | stripePt  -- STRIPE_PT, 10_stripe_redundancy_and_rebuild
  | stripePtcnt  -- STRIPE_PTCNT, 10_stripe_redundancy_and_rebuild
  | stripeLayout  -- STRIPE_LAYOUT, 10_stripe_redundancy_and_rebuild
  | stripePtcmd  -- STRIPE_PTCMD, 10_stripe_redundancy_and_rebuild
  | stripeRbcmd  -- STRIPE_RBCMD, 10_stripe_redundancy_and_rebuild
  | stripeRbrate  -- STRIPE_RBRATE, 10_stripe_redundancy_and_rebuild
  | stripeRbstat  -- STRIPE_RBSTAT, 10_stripe_redundancy_and_rebuild
  | stripeRbprog  -- STRIPE_RBPROG, 10_stripe_redundancy_and_rebuild
  | stripeCrit  -- STRIPE_CRIT, 10_stripe_redundancy_and_rebuild
  | stripeMemstat  -- STRIPE_MEMSTAT, 10_stripe_redundancy_and_rebuild
  | stripeCnt  -- STRIPE_CNT, 10_stripe_redundancy_and_rebuild
  | stripeJmir  -- STRIPE_JMIR, 10_stripe_redundancy_and_rebuild
  | digestAlloc  -- DIGEST_ALLOC, 11_fixity_digest_and_keys
  | digestCtxmap  -- DIGEST_CTXMAP, 11_fixity_digest_and_keys
  | digestCtxuse  -- DIGEST_CTXUSE, 11_fixity_digest_and_keys
  | digestSealstat  -- DIGEST_SEALSTAT, 11_fixity_digest_and_keys
  | digestSealcnt  -- DIGEST_SEALCNT, 11_fixity_digest_and_keys
  | digestCtl  -- DIGEST_CTL, 11_fixity_digest_and_keys
  | digestLen  -- DIGEST_LEN, 11_fixity_digest_and_keys
  | digestData  -- DIGEST_DATA, 11_fixity_digest_and_keys
  | digestStat  -- DIGEST_STAT, 11_fixity_digest_and_keys
  | digestSrc  -- DIGEST_SRC, 11_fixity_digest_and_keys
  | digestResult  -- DIGEST_RESULT, 11_fixity_digest_and_keys
  | keysStage  -- KEYS_STAGE, 11_fixity_digest_and_keys
  | keysCmd  -- KEYS_CMD, 11_fixity_digest_and_keys
  | keysWtbl  -- KEYS_WTBL, 11_fixity_digest_and_keys
  | keysCache  -- KEYS_CACHE, 11_fixity_digest_and_keys
  | keysSlotinfo  -- KEYS_SLOTINFO, 11_fixity_digest_and_keys
  | xtsNscfg  -- XTS_NSCFG, 11_fixity_digest_and_keys
  | tenantPfcap  -- TENANT_PFCAP, 12_tenants_isolation_and_migration
  | tenantMig  -- TENANT_MIG, 12_tenants_isolation_and_migration
  | tenantCnt  -- TENANT_CNT, 12_tenants_isolation_and_migration
  | tenantFncmd  -- TENANT_FNCMD, 12_tenants_isolation_and_migration
  | tenantMigcmd  -- TENANT_MIGCMD, 12_tenants_isolation_and_migration
  | tenantEpoch  -- TENANT_EPOCH, 12_tenants_isolation_and_migration
  | tenantFncfg  -- TENANT_FNCFG, 12_tenants_isolation_and_migration
  | tenantFnstat  -- TENANT_FNSTAT, 12_tenants_isolation_and_migration
  | tenantNscfg  -- TENANT_NSCFG, 12_tenants_isolation_and_migration
  | drcGeom  -- DRC_GEOM, 13_dram_subsystem
  | drcQos  -- DRC_QOS, 13_dram_subsystem
  | drcRef  -- DRC_REF, 13_dram_subsystem
  | drcTrain  -- DRC_TRAIN, 13_dram_subsystem
  | drcOp  -- DRC_OP, 13_dram_subsystem
  | drcPar  -- DRC_PAR, 13_dram_subsystem
  | drcEcc  -- DRC_ECC, 13_dram_subsystem
  | drcUeaddr  -- DRC_UEADDR, 13_dram_subsystem
  | drcScrub  -- DRC_SCRUB, 13_dram_subsystem
  | drcRet  -- DRC_RET, 13_dram_subsystem
  | drcRetcmd  -- DRC_RETCMD, 13_dram_subsystem
  | drcSelftest  -- DRC_SELFTEST, 13_dram_subsystem
  | drcSpare  -- DRC_SPARE, 13_dram_subsystem
  | drcRemap  -- DRC_REMAP, 13_dram_subsystem
  | resvPflvl  -- RESV_PFLVL, 14_reservoir_power_and_thermal
  | resvPfstat  -- RESV_PFSTAT, 14_reservoir_power_and_thermal
  | resvRcfg  -- RESV_RCFG, 14_reservoir_power_and_thermal
  | resvCtl  -- RESV_CTL, 14_reservoir_power_and_thermal
  | resvRcfg2  -- RESV_RCFG2, 14_reservoir_power_and_thermal
  | resvTres  -- RESV_TRES, 14_reservoir_power_and_thermal
  | resvTtime  -- RESV_TTIME, 14_reservoir_power_and_thermal
  | resvRstat  -- RESV_RSTAT, 14_reservoir_power_and_thermal
  | resvTlim  -- RESV_TLIM, 14_reservoir_power_and_thermal
  | resvFan  -- RESV_FAN, 14_reservoir_power_and_thermal
  | resvHeat  -- RESV_HEAT, 14_reservoir_power_and_thermal
  | resvDiff  -- RESV_DIFF, 14_reservoir_power_and_thermal
  | resvDts  -- RESV_DTS, 14_reservoir_power_and_thermal
  | sluiceBudget  -- SLUICE_BUDGET, 14_reservoir_power_and_thermal
  | sluiceCost  -- SLUICE_COST, 14_reservoir_power_and_thermal
  | sluiceCost2  -- SLUICE_COST2, 14_reservoir_power_and_thermal
  | sluiceCtl  -- SLUICE_CTL, 14_reservoir_power_and_thermal
  | sluiceStat  -- SLUICE_STAT, 14_reservoir_power_and_thermal
  | pwrDom  -- PWR_DOM, 15_power_domains
  | pwrTimer  -- PWR_TIMER, 15_power_domains
  | pwrEdge  -- PWR_EDGE, 15_power_domains
  | pwrRetstat  -- PWR_RETSTAT, 15_power_domains
  | pwrCnt  -- PWR_CNT, 15_power_domains
  | pwrPins  -- PWR_PINS, 15_power_domains
  | evwCur  -- EVW_CUR, 16_event_recorder
  | evwStat  -- EVW_STAT, 16_event_recorder
  | evwNext  -- EVW_NEXT, 16_event_recorder
  | evrecCtl  -- EVREC_CTL, 16_event_recorder
  | evrecCfg  -- EVREC_CFG, 16_event_recorder
  | evrecAuth  -- EVREC_AUTH, 16_event_recorder
  | evrecNonce  -- EVREC_NONCE, 16_event_recorder
  | evrecStat  -- EVREC_STAT, 16_event_recorder
  | evrecRsn  -- EVREC_RSN, 16_event_recorder
  | evrecTime  -- EVREC_TIME, 16_event_recorder
  | evrecClrcmd  -- EVREC_CLRCMD, 16_event_recorder
  | evrecPost  -- EVREC_POST, 16_event_recorder
  | evrecPdata  -- EVREC_PDATA, 16_event_recorder
  | sysRstcause  -- SYS_RSTCAUSE, 17_boot_firmware_and_fault_guarantees
  | sysBoot  -- SYS_BOOT, 17_boot_firmware_and_fault_guarantees
  | sysWdog  -- SYS_WDOG, 17_boot_firmware_and_fault_guarantees
  | sysLockstep  -- SYS_LOCKSTEP, 17_boot_firmware_and_fault_guarantees
  | sysFwact  -- SYS_FWACT, 17_boot_firmware_and_fault_guarantees
  | sysRst  -- SYS_RST, 17_boot_firmware_and_fault_guarantees
  | sysSvn  -- SYS_SVN, 17_boot_firmware_and_fault_guarantees
  | sysCwdog  -- SYS_CWDOG, 17_boot_firmware_and_fault_guarantees
  deriving DecidableEq, Repr

/-- The field types of R8. -/
inductive FieldType where
  | ro | rw | rw1c | rw1s | wo | rc | rwl
  deriving DecidableEq, Repr

/-- The reset domains of R9. -/
inductive ResetDomain where
  | por | warm | func
  deriving DecidableEq, Repr

/-- A bit field of a register: bits `hi` to `lo`. -/
structure Fld where
  reg : RegId
  hi  : Nat
  lo  : Nat
  deriving DecidableEq, Repr

/-- A field of a register table: its bits, its type of R8 and its reset value. Reserved bits have no row: they read 0 (R10). -/
structure FieldSpec where
  hi  : Nat
  lo  : Nat
  ty  : FieldType
  rst : Nat
  deriving DecidableEq, Repr

/-- Where a register stands: address of its first copy, the strides and counts of its two index axes, its reset domain,
and whether it is only host-visible (then `base` is its offset in the BAR2 window). -/
structure RegPlace where
  base : Nat
  count1 : Nat
  stride1 : Nat
  count2 : Nat
  stride2 : Nat
  dom : ResetDomain
  hostOnly : Bool
  deriving DecidableEq, Repr

end Sys2Proof.Machine
end

