-- ==== Sys2Proof/Machine/OperandTypes.lean ====
section
/-! DEFINITION. The operands of the commands that need a type of their own. -/

namespace Sys2Proof.Machine

/-- What a register write goes to (R8, R49, R59): a CSR written by a core, a host-visible register of a PF's BAR2 window, an
NVMe controller register in a function's BAR0. -/
inductive RegTarget where
  | csr (core : Nat) (reg : RegId) (idx : Nat)
  | bar2 (pf : Nat) (reg : RegId) (idx : Nat)
  | nvme (fn : Nat) (reg : NvmeReg)
  | bar2Data (pf off : Nat)
  deriving DecidableEq, Repr

/-- What a decoder reports of a code unit (R318, R319): syndrome zero, corrected bits, weight left, and bytes 0x0000 to 0x107F. -/
structure DecodeRes where
  ok     : Bool
  bits   : Nat
  weight : Nat
  bytes  : List Byte
  deriving DecidableEq, Repr

/-- An ordered-set block of the bridge (R242, R245): KIND, LANE, whether OSCRC holds; of TS1 the preset requested, EQ_DONE, and the preset the
RX9's receiver has chosen by then; of CFG its values. -/
structure OrderedSet where
  kind    : Nat
  lane    : Nat
  crcOk   : Bool
  preset  : Nat
  eqDone  : Bool
  choice  : Option Nat
  brId    : Nat
  brCap   : Nat
  brInc   : Nat
  nextRx  : Nat
  chunkLen : Nat
  deriving DecidableEq, Repr

end Sys2Proof.Machine
end

