-- ==== Sys2Proof/Machine/BootTypes.lean ====
section
/-! DEFINITION. What the ROM meets at a start: the operands of ROM_BOOT, and of a core restart. -/

namespace Sys2Proof.Machine

/-- What the ROM finds on a DRAM channel (R435, R436, R447, R465): the configuration of its SPD, a training step that failed three times, the
duration of training in ms; rows repaired, pages that still fail, the duration of the self-test in ms. -/
structure ChanBoot where
  width   : Nat
  density : Nat
  pranks  : Nat
  lranks  : Nat
  rows    : Nat
  capGib  : Nat
  failStep : Option Nat
  trainMs : Nat
  ppr     : Nat
  pages   : List Nat
  testMs  : Nat
  deriving DecidableEq, Repr

/-- What the ROM meets at a start (R284, R289, R306, R540): the channels in order, ports whose full training ended ACTIVE with the bridge's
CFG, ports whose training failed with the state it failed in, dies that did not identify, blocks with a factory marker, the duration in ns. -/
structure BootData where
  chans   : List ChanBoot
  links   : List (Nat × OrderedSet)
  failed  : List (Nat × Nat)
  badDies : List Nat
  factory : List (Nat × Nat)
  ns      : Nat
  deriving DecidableEq, Repr

/-- What meets a core restart (R504, R548): the commands in STATE 0x8 the core was handling; the words and bits the check of its TCM corrected;
the cause, 0 ECC or 1 canary, where the TCM is lost. -/
structure RestartData where
  tags  : List Nat
  words : Nat
  bits  : Nat
  lost  : Option Nat
  deriving DecidableEq, Repr

/-- An access of a logical core (R33, R36): core, kind, physical address, width in bytes, value stored; in DRAM the words met with correctable
and uncorrectable errors; of its own TCM an uncorrectable word (R548); of a command register what the operation it starts fetches from the host,
and its duration. -/
structure CoreReq where
  core  : Nat
  kind  : AccessKind
  addr  : Nat
  width : Nat
  value : Nat
  ce    : List (Nat × Nat)
  ue    : List Nat
  tcm   : Option RestartData
  ext   : List Byte
  dur   : Nat
  deriving DecidableEq, Repr

end Sys2Proof.Machine
end

