-- ==== Sys2Proof/Machine/ReplayTypes.lean ====
section
/-! DEFINITION. What the ROM and the full scan read from the medium: the operands of REPLAY and FULL_SCAN. -/

namespace Sys2Proof.Machine

/-- What the ROM finds at REPLAY beyond what was reported as written (R158, R180, R307, R371): segments none of whose copies is valid; frames in
flight at the reset with a valid copy; a frame below them without one, with the first JSN behind it; strips that read back of rows without
ROW_DONE, by pool and row; JSNs of LAND records with a copy that reads back; the first erased wordline of a block, and whether the last
programmed one holds valid data; ERASE_COUNTs of blocks of a lost table segment (R343). -/
structure ReplayData where
  lostSegs : List Nat
  frames : List Nat
  gap    : Option (Nat × Nat)
  strips : List (Nat × Nat × List Nat)
  lands  : List Nat
  ptrs   : PMap (Nat × Bool)
  counts : List (Nat × Nat)
  deriving DecidableEq, Repr

/-- A chunk the scan of a map segment found: namespace, 4 KiB unit, map entry of its place, CMETA.SEQ and ROW_JSN (R344). -/
structure ScanChunk where
  nsid : Nat
  unit : Nat
  entry : Nat
  seq  : Nat
  rowJsn : Nat
  deriving DecidableEq, Repr

/-- A zone the scan of the zone table found: its pool, write pointer in units and newest SEQ (R343, R346). -/
structure ScanZone where
  nsid : Nat
  zidx : Nat
  pool : Nat
  wp   : Nat
  seq  : Nat
  deriving DecidableEq, Repr

/-- What a full scan read: chunks or zones, and its duration. -/
structure ScanData where
  chunks : List ScanChunk
  zones  : List ScanZone
  seconds : Nat
  deriving DecidableEq, Repr

end Sys2Proof.Machine
end

