-- ==== Sys2Proof/Machine/IntakeTypes.lean ====
section
/-! DEFINITION. The state of INTAKE and CONF (tags, contexts, the post stage, claims) and of the event recorder. -/

namespace Sys2Proof.Machine

/-- CONTEXT.STATE of R87. -/
inductive TagState where
  | check | claim | data | admission | media | post | squash | firmware
  deriving DecidableEq, Repr

/-- The part of the pool a tag was taken from (R84, R86). -/
inductive TagPart where
  | guaranteed | shared | adminReserve
  deriving DecidableEq, Repr

/-- The kinds of claim of R93. -/
inductive ClaimKind where
  | r | w | x
  deriving DecidableEq, Repr

/-- A range of LBAs of a namespace: first and last. -/
structure LbaRange where
  nsid  : Nat
  first : Nat
  last  : Nat
  deriving DecidableEq, Repr

/-- What a command in flight still has to do. -/
inductive CmdKind where
  | none | read | compare | verify | write | writeZeroes | append | dealloc | zoneMgmt | reservation | flush | admin
  deriving DecidableEq, Repr

/-- A command context of R87, with the work intake and CONF keep for the command. -/
structure Ctx where
  fn     : Nat
  sqid   : Nat
  cqid   : Nat
  sqe    : Sqe
  st     : TagState
  part   : TagPart
  committed : Bool
  abortReq  : Bool
  bufferHit : Bool
  /-- Sequence number, once all claims are granted (R23). -/
  seq    : Option Nat
  /-- Time of fetch, in ns. -/
  tFetch : Nat
  dlen   : Nat
  mlen   : Nat
  /-- Slices the command claims, in ascending order, and those granted (R23, R87). -/
  slices : List Nat
  granted : List Nat
  status : Status
  dw0    : Nat
  /-- Resolved data segments: host address and length (R87 XLAT). -/
  xlat   : List (Nat × Nat)
  kind   : CmdKind
  claimKind : ClaimKind
  /-- Action of a Zone Management Send (R130): 1 close, 2 finish, 3 open, 4 reset, 5 offline. -/
  zact   : Nat
  ranges : List LbaRange
  /-- The data of a write is in the retry region (R99). -/
  dataIn : Bool
  /-- The energy reservation is admitted (R99, R189). -/
  admitted : Bool
  /-- The command entered the wait for its energy at this time (R101). -/
  admitAt : Option Nat
  /-- Data units returned so far by LBA offset in 4 KiB units, for reads (R98). -/
  units  : PMap (List Byte)
  /-- Units still to come (reads), or parts still to reach the medium (writes). -/
  waiting : List Nat
  /-- Data the host sent, by 4 KiB unit of the range, and old contents of units it covers in part (R178), with those still to come. -/
  host   : PMap (List Byte)
  merge  : PMap (List Byte)
  mergeWait : List Nat
  /-- The write was admitted at its zone: it holds positions (R132, R133). -/
  placed : Bool
  /-- It waits for its namespace's key, since this time (R409). -/
  keyWait : Bool
  keyAt  : Nat
  /-- The commitment asked of the ledger (R189), JSNs of the write's records (R164). -/
  commit : Option Nat
  jsns   : List Nat
  /-- Completion already sent to the post stage. -/
  sent   : Bool
  /-- Deadline of the read (R229) and its class. -/
  deadline : Option Nat
  deriving DecidableEq, Repr

/-- A claim in a slice (R93, R94). -/
structure Claim where
  tag    : Nat
  kind   : ClaimKind
  ranges : List LbaRange
  granted : Bool
  deriving DecidableEq, Repr

/-- A slice of CONF: its claims in admission order, its arrival queue, its highest count (R94 to R97). -/
structure Slice where
  claims  : List Claim
  arrival : List Claim
  deriving DecidableEq, Repr

/-- An event waiting at the completion-post stage (R103, R107). -/
inductive PostEvent where
  | done (tag : Nat) (status : Status) (dw0 : Nat)
  /-- The abort event of a command, and the tag of its Abort; `none` for a preempted command (R71). -/
  | abort (target : Option Nat) (by_ : Option Nat) (cid fn : Nat)
  deriving DecidableEq, Repr

/-- INTAKE: contexts of tags in use, the post stage, the fetch pointer (R81 to R87). -/
structure Intake where
  tags    : PMap Ctx
  postQ   : List PostEvent
  /-- FN the next turn starts the round with (R81). -/
  nextFn  : Nat
  /-- Time DRAIN_REQ was set (R117). -/
  drainAt : Option Nat
  /-- Addresses translated by the ports' caches: port, function, PASID, page, address (R62). -/
  atc     : List (Nat × Nat × Nat × Nat × Nat)
  deriving DecidableEq, Repr

/-- An event in a source queue (R517): identifier, items, source index, SRC code of R516. -/
structure Event where
  id    : Nat
  items : List Nat
  src   : Nat
  srcCode : Nat
  deriving DecidableEq, Repr

/-- An entry of the counter table (R514). -/
structure Counter where
  sat   : Nat
  count : Nat
  max   : Nat
  first : Nat × Nat
  last  : Nat × Nat
  maxTs : Nat × Nat
  hist  : List Nat
  deriving DecidableEq, Repr

/-- A record (R516): its RSN, its event, the time stamp and the EARLY mark of R518. -/
structure Rec where
  rsn   : Nat
  ev    : Event
  time  : Nat
  cycles : Nat
  early : Bool
  deriving DecidableEq, Repr

/-- A stored black-box image (R523): its records, or a copy of it still being written. -/
structure Image where
  serial : Nat
  recs   : List Rec
  deriving DecidableEq, Repr

/-- A clear in progress (R531): its tag, its scope, its C once the page flush it waits for has ended, records and images it discards,
copies still to be durable. -/
structure ClearJob where
  tag    : Nat
  scope  : Nat
  c      : Option Nat
  discarded : Nat
  voided : Nat
  copies : List Nat
  deriving DecidableEq, Repr

/-- The event recorder (R513 to R533). -/
structure Recorder where
  queues   : PMap (List Event)
  counters : PMap Counter
  /-- The ring, oldest first, at most 4,096 records. -/
  ring     : List Rec
  staging  : List Rec
  /-- Time the oldest staged record entered staging. -/
  stagedAt : Nat
  /-- Records on the medium in the first-events log, oldest first, and pages used. -/
  log      : List Rec
  logPages : Nat
  logFull  : Bool
  /-- Stored images, newest first. -/
  images   : List Image
  imageSerial : Nat
  ckptSerial  : Nat
  nextRsn  : Nat
  /-- TIME at `since`, in units of 1/1,024 h; it runs while `counting`. -/
  time     : Nat
  since    : Nat
  cycles   : Nat
  /-- TIME, CYCLES and RSN hold their restored values (R518). -/
  restored : Bool
  /-- Operating time runs (R518). -/
  counting : Bool
  /-- Length of the current run of drops (R519). -/
  dropRun  : Nat
  /-- Records have been left out since the last clear (R528). -/
  dropped  : Bool
  clears   : Nat
  nonce    : Word
  clear    : Option ClearJob
  /-- Time of the last class-triggered page and image, and a trigger that waits (R521, R523). -/
  lastPage : Option Nat
  waitPage : Bool
  lastImage : Option Nat
  /-- Cisterns of the log in use: which turn (R531). -/
  turn     : Nat
  /-- Data area of each cursor window: PFs 0 to 3 and firmware 4 (R529). -/
  windows  : PMap (List (List Nat))
  /-- The newest valid counter checkpoint: its serial and counters, TIME, CYCLES, next RSN (R524); the one being written. -/
  ckpt     : Option (Nat × PMap Counter × Nat × Nat × Nat)
  ckptNew  : Option (Nat × PMap Counter × Nat × Nat × Nat)
  /-- Next RSN as it stood at the last reset (R523). -/
  resetRsn : Nat
  deriving DecidableEq, Repr

end Sys2Proof.Machine
end

