-- ==== Sys2Proof/Machine/PoolTypes.lean ====
section
/-! DEFINITION. Blocks, pools and grown defects: the entries of the block state table and of the pool table (R287, R290, R351). -/

namespace Sys2Proof.Machine

/-- The states of a block (R287). -/
inductive BState where
  | erased | opened | full | erasing | incomplete | factoryBad | grownBad
  deriving DecidableEq, Repr

/-- An entry of the block state table (R287). -/
structure Bst where
  count : Nat
  owner : Nat
  ptr   : Nat
  pslc  : Bool
  st    : BState
  /-- Event 0x300C has been recorded (R299). -/
  rated : Bool
  deriving DecidableEq, Repr

/-- A slot of a pool-table entry (R351); R_ block and F_ block as (die, block). -/
structure Slot where
  die    : Nat
  block  : Nat
  r      : Option (Nat × Nat)
  f      : Option (Nat × Nat × Nat)
  rDone  : Nat
  pstate : Nat
  cause  : Nat
  deriving DecidableEq, Repr

/-- An entry of the pool table (R351). -/
structure Pool where
  pattern : Nat
  ptstate : Nat
  bindGen : Nat
  lost    : List Nat
  slots   : List Slot
  /-- Rows programmed (ROW_DONE), as the rebuild engine needs them (R361). -/
  done    : List Nat
  /-- Valid units for reclaim (R335), and time of its first program. -/
  firstAt : Option Nat
  /-- Time it became FULL (R335). -/
  fullAt  : Option Nat
  deriving DecidableEq, Repr

/-- A grown defect (R290). -/
structure Defect where
  die   : Nat
  block : Nat
  cause : Nat
  time  : Nat × Nat
  deriving DecidableEq, Repr

end Sys2Proof.Machine
end

