-- ==== Sys2Proof/Machine/ZmapTypes.lean ====
section
/-! DEFINITION. The state of ZMAP and of the write path: namespaces, zones, the map, pools behind them, parts, rows, basin pairs,
the journal and the ledger. -/

namespace Sys2Proof.Machine

/-- A namespace (R123 to R126, R129, R145, R150). -/
structure NsRec where
  zoned  : Bool
  /-- LBA format of R126; metadata in the extended LBA, not in a separate buffer. -/
  fmt    : Nat
  ext    : Bool
  /-- Size in LBAs. -/
  size   : Nat
  /-- ANA group (R66). -/
  group  : Nat
  /-- Reclaim unit handles of its placement handles, in order (R145). -/
  handles : List Nat
  /-- Pool units reserved (R124). -/
  units  : Nat
  /-- Index of its first 4 KiB entry in the map (R150). -/
  base   : Nat
  /-- Device index of its first zone (R144). -/
  zbase  : Nat
  /-- Write protected (R4, R374). -/
  wp     : Bool
  /-- Order of creation (R150). -/
  order  : Nat
  /-- The slot of its seal key: 2, or that of an installed key (R380, R394). -/
  sealSlot : Nat
  /-- CONF_SEQ.NEXT at its creation (R344). -/
  seq0   : Nat
  deriving DecidableEq, Repr

/-- The zone states of R130. -/
inductive ZState where
  | zse | zsio | zseo | zsc | zsro | zsf | zso
  deriving DecidableEq, Repr

/-- A zone: its record of R144 and its descriptor extension of R142. -/
structure ZoneRec where
  st     : ZState
  zfc    : Bool
  fzr    : Bool
  nsid   : Nat
  zidx   : Nat
  wpOff  : Nat
  pool   : Option Nat
  rowsPad : Nat
  openTime : Nat × Nat
  lastSeq : Nat
  sealVal : List Byte
  sealState : Nat
  /-- First differing unit of a mismatch (R387, R392). -/
  badUnit : Nat
  keySlot : Nat
  lap    : Nat
  extSeq : Nat
  label  : Nat
  /-- Its Finish completes once the seal is stored: the tag (R384). -/
  finishTag : Option Nat
  /-- Order of the last write among the zone's namespace (R131). -/
  stamp  : Nat
  /-- Ranges counted as written and filled with zeros (R133), and those of padding (R139): first offset, count. -/
  filled : List (Nat × Nat)
  /-- Rows of the zone that are lost (R367). -/
  lostRows : List Nat
  /-- The new pool of a relocation under way (R186). -/
  newPool : Option Nat
  /-- Positions of rows not done that replay found in basin copies: first unit, count, pair, first unit in it (R180, R199). -/
  lands : List (Nat × Nat × Nat × Nat)
  deriving DecidableEq, Repr

/-- The seal chain of a zone (R379, R381): h(u) of units a lane has finished and the chain has not taken, units absorbed in order,
the fragment of the last, and every h(u) absorbed, for the seal's HMAC. -/
structure SealChain where
  hs   : PMap (List Byte)
  next : Nat
  /-- F(-1) of R379, set with the first unit. -/
  frag0 : List Byte
  all  : List (List Byte)
  deriving DecidableEq, Repr

/-- A seal chain recomputed from the medium (R386, R387): 0 patrol, 1 Seal Query, 2 recovery; the query's tag, sealed units, next
unit, hashes so far, the first unit whose fragment differs, and the unit that waits for a lane with its fragment on the medium. -/
structure SealJob where
  source : Nat
  tag  : Option Nat
  n    : Nat
  next : Nat
  frag0 : List Byte
  all  : List (List Byte)
  bad  : Option Nat
  data : Option (List Byte × Option (List Byte))
  deriving DecidableEq, Repr

/-- An entry of the mismatch list of log page 0xC0 (R391). -/
structure Mismatch where
  nsid : Nat
  zslba : Nat
  unit : Nat
  lap  : Nat
  time : Nat × Nat
  stored : List Byte
  deriving DecidableEq, Repr

/-- Where a row's data comes from (R175 KIND). -/
inductive RowOwner where
  | zone (g : Nat) | handle (h : Nat) | reclaim (victim : Nat) | fold (h : Nat)
  deriving DecidableEq, Repr

/-- The routes of R165. -/
inductive Route where
  | row | basin
  deriving DecidableEq, Repr

/-- A part: the data of one committed write that falls in one stripe row (R165). -/
structure Part where
  tag    : Nat
  /-- The commitment that holds its energy (R189). -/
  commit : Nat
  seq    : Nat
  nsid   : Nat
  /-- Device zone index of a zoned part. -/
  zone   : Option Nat
  /-- First 4 KiB unit: in the map for a conventional part, in the zone for a zoned one. -/
  first  : Nat
  /-- The retry copy of each 4 KiB unit, as it goes to the medium: DATA (encrypted where the namespace is) and HMETA, trailing zero
  bytes left out; and the SB copy in clear (R17, R162, R408). -/
  units  : List (List Byte)
  sb     : List (List Byte)
  handle : Nat
  route  : Route
  /-- The row and the position in it, for a part that has one. -/
  row    : Option Nat
  rowOff : Nat
  /-- The basin pair and first unit in it. -/
  pair   : Option Nat
  pairOff : Nat
  committedAt : Nat
  /-- JSNs of its records that R164 waits for. -/
  jsns   : List Nat
  /-- On the medium (R15, R18). -/
  rowOk  : Bool
  basinOk : Bool
  /-- Its SB copy has been freed (R17). -/
  sbFreed : Bool
  /-- The flush engine landed it (R197, R199): landing repeats used. -/
  landTry : Nat
  /-- The die whose landing program failed first (R199). -/
  landDie : Nat
  deriving DecidableEq, Repr

/-- A stripe row being assembled or programmed (R165, R175, R184). -/
structure RowRec where
  pool   : Nat
  row    : Nat
  owner  : RowOwner
  bindGen : Nat
  /-- Parts in it, by part number. -/
  parts  : List Nat
  /-- Data of its 1,024 units as filled so far. -/
  units  : PMap (List Byte)
  /-- Units filled as padding or filler. -/
  pads   : List Nat
  firstSeq : Nat
  lastSeq : Nat
  /-- JSN of its ROW_OPEN once written (R16). -/
  openJsn : Option Nat
  /-- Strips posted, strips that reported success. -/
  issued : List Nat
  okStrips : List Nat
  /-- Retries used per strip and strips in substitute blocks with their die and block (R184). -/
  retries : PMap Nat
  subst  : PMap (Nat × Nat)
  abandoned : Bool
  /-- A Finish waits for the row: its tag (R139). -/
  finishTag : Option Nat
  openedAt : Nat
  /-- Strips to program of a row that recovery finishes (R182). -/
  recovered : Option Nat
  /-- Units of a reclaim or fold row: map index and old entry by position (R337). -/
  src     : PMap (Nat × Nat)
  deriving DecidableEq, Repr

/-- A basin cistern pair (R168): its two cisterns as die × 4096 + block, next free unit, owner, pages programmed. -/
structure PairRec where
  a      : Nat
  b      : Nat
  /-- Zoned tail pair of a zone, or pair of a handle. -/
  zone   : Option Nat
  handle : Nat
  next   : Nat
  /-- First unit of the page being gathered, and when its first part came (R168). -/
  gatherAt : Option Nat
  gathered : Nat
  /-- Copies of each page that reported success: page × 2 + copy. -/
  okCopies : List Nat
  closed : Bool
  /-- Data of the units, for folds and reads. -/
  units  : PMap (Nat × Nat × List Byte)
  /-- A landing pair of the flush engine (R194). -/
  landing : Bool
  deriving DecidableEq, Repr

/-- An item of an ERASE_START record (R298): die, block, ERASE_COUNT after the erase, MODE, REASON. -/
structure EraseItem where
  die    : Nat
  block  : Nat
  count  : Nat
  pslc   : Bool
  reason : Nat
  deriving DecidableEq, Repr

/-- The journal record types of R174 with their payloads. -/
inductive JBody where
  | rowOpen (pool row : Nat) (owner : RowOwner) (firstSeq bindGen subst pad : Nat)
  | rowSubst (pool row strip die block : Nat)
  | rowDone (pool row bindGen : Nat)
  | map (first : Nat) (entries : List Nat)
  | zwp (zone first count : Nat)
  | land (pair off : Nat) (zoned : Bool) (count zone first handle : Nat)
  | dealloc (ranges : List (Nat × Nat))
  | zreset (zone oldPool oldGen : Nat)
  | move (items : List (Nat × Nat × Nat))
  | eraseStart (items : List EraseItem)
  | resv (nsid : Nat) (state : List Nat)
  | pfBegin (time cycles need avail : Nat)
  | pfEnd (us mj parts : Nat)
  deriving DecidableEq, Repr

/-- A journal record (R173). -/
structure JRec where
  nsid : Nat
  seq  : Nat
  jsn  : Nat
  body : JBody
  deriving DecidableEq, Repr

/-- A journal frame (R172, R177): its number, its records, the mirrors that reported success. -/
structure Frame where
  no     : Nat
  recs   : List JRec
  ok     : List Nat
  /-- Its programs have been posted; pages on the three cisterns. -/
  started : Bool
  /-- Time its first record was appended. -/
  since  : Nat
  deriving DecidableEq, Repr

/-- What waits for a record to be durable (R140, R153, R164, R19, R298, R531). -/
inductive JWait where
  | row (rowId : Nat)
  | zoneReset (tag g : Nat) (offline : Bool)
  | dealloc (tag : Nat)
  | part (partId : Nat)
  | subst (rowId strip die block : Nat)
  | move (victim : Nat) (items : List (Nat × Nat × Nat))
  | relocate (g oldPool newPool : Nat)
  | erase (opId : Nat)
  | resv (tag : Nat)
  | tailRelease (g : Nat)
  | rowDone (rowId : Nat)
  | pfEnd
  | rebuildRow (pool slot row : Nat)
  | exhaust (rowId strip : Nat)
  deriving DecidableEq, Repr

/-- The stripe journal (R172 to R177, R369 to R371). -/
structure Journal where
  nextJsn  : Nat
  nextFrame : Nat
  /-- Records of the open frame, oldest first, and the time of the first. -/
  opened   : List JRec
  openAt   : Nat
  /-- Frames being programmed, oldest first (at most 8). -/
  flying   : List Frame
  /-- Records durable, oldest first, kept until R158 lets them go. -/
  durable  : List JRec
  /-- Highest durable JSN plus one. -/
  durableTo : Nat
  waits    : List (Nat × JWait)
  /-- The mirror members of the open trio and their cisterns, and the trios that still hold records: the JSN
  after their last, and their cisterns (R369, R370). -/
  trio     : List Nat
  trioCist : List Nat
  nextPage : Nat
  retained : List (Nat × List Nat)
  deriving DecidableEq, Repr

/-- A request to the ledger: a commitment (its number, tag, reservation in µJ, bytes) or an operation (number, charge in µJ). -/
structure LedgerReq where
  id   : Nat
  tag  : Nat
  uj   : Nat
  bytes : Nat
  deriving DecidableEq, Repr

/-- The steps of the power-fail sequence (R197). -/
inductive PfStep where
  | none | landing | journal | recorder | pfEnd | off
  deriving DecidableEq, Repr

/-- The reservoir ledger (R187 to R199). -/
structure Ledger where
  frozen   : Bool
  pfCommit : Bool
  step     : PfStep
  pfAt     : Nat
  /-- Charges of operations admitted and not yet reported, by operation number. -/
  charges  : PMap Nat
  /-- Erases among them. -/
  erases   : List Nat
  /-- Reservations of commitments not yet released, by tag: µJ and bytes. -/
  resv     : PMap LedgerReq
  opQ      : List LedgerReq
  commitQ  : List LedgerReq
  /-- avail was below need at the last comparison (R193). -/
  below    : Bool
  /-- No valid avail since the start (R193). -/
  starting : Bool
  /-- Usable energy e_use of R475 as last computed, in µJ. -/
  eUse     : Nat
  landed   : Nat
  pfEnergy : Nat
  deriving DecidableEq, Repr

/-- The contents of a checkpoint segment: map entries, zone records with their extensions, a member's block states and grown
defects, pool-table entries (R156, R291, R372). -/
inductive SegData where
  | map (es : PMap Nat)
  | zones (zs : PMap ZoneRec)
  | table (bs : PMap Bst) (ds : List Defect)
  | pools (ps : PMap Pool)
  deriving DecidableEq, Repr

/-- A checkpoint segment (R156 to R158): whether it changed since its last snapshot; the snapshot being written, with the pages each
copy still lacks and the cisterns it takes; the newest complete copy with its cisterns. -/
structure Segment where
  changed : Bool
  pass    : Nat
  snapJsn : Nat
  data    : Option SegData
  left    : PMap Nat
  cists   : List Nat
  /-- Members that hold a copy of the newest complete copy. -/
  best    : Option (Nat × Nat × SegData)
  bestCists : List Nat
  deriving DecidableEq, Repr

/-- The open pool of a handle or of reclaim (R147, R148). -/
structure OpenPool where
  pool   : Nat
  nextRow : Nat
  rowId  : Option Nat
  firstAt : Option Nat
  deriving DecidableEq, Repr

/-- A registrant of a reservation: host identifier and key (R69). -/
structure Registrant where
  host : Nat
  key  : Nat
  deriving DecidableEq, Repr

/-- The reservation state of a namespace (R69): type (0 none, 1 to 6), holder, registrants, generation, persistence. -/
structure Resv where
  rtype  : Nat
  holder : Nat
  regs   : List Registrant
  gen    : Nat
  ptpl   : Bool
  deriving DecidableEq, Repr

/-- ZMAP and STRIPE's write path. -/
structure Zmap where
  nss     : PMap NsRec
  nsOrder : Nat
  zones   : PMap ZoneRec
  /-- Seal chains by zone, and lanes at work: zone and unit (R381). -/
  chains  : PMap SealChain
  lanes   : List (Nat × Nat)
  sealJobs : PMap SealJob
  /-- Zones whose chain is still to be rebuilt after a start, how many there were, and since when (R386). -/
  rebuilds : List Nat
  rebuildCount : Nat
  rebuildAt : Nat
  mismatches : List Mismatch
  /-- Seal Imports that wait for a checkpoint pass: its number, tag, status, DW0 (R385). -/
  imports : List (Nat × Nat × Status × Nat)
  /-- Namespaces whose missing seal key has been reported (R395). -/
  keyNoted : List Nat
  stamp   : Nat
  /-- Map entries of R149 by map index; an unlisted entry is deallocated. -/
  map     : PMap Nat
  /-- The erased reserve, oldest first; the erase queue (R137, R140). -/
  reserve : List Nat
  eraseQ  : List Nat
  /-- Open pools of the 64 handles (R147) and of reclaim. -/
  handles : PMap OpenPool
  reclaimPool : Option OpenPool
  /-- Open basin pairs of the handles, tail pairs of zones (R168). -/
  hPairs  : PMap Nat
  zPairs  : PMap Nat
  /-- Commands waiting for a binding: tag, zone, whether the zone shall be explicitly opened, since when (R136). -/
  bindQ   : List (Nat × Nat × Bool × Nat)
  /-- Zones (device zone indices) whose relocation waits for an erased pool (R136, R186). -/
  relocQ  : List Nat
  /-- Rows of folds under way by handle (R170), and the row of the reclaim pool being filled. -/
  foldRows : PMap Nat
  /-- FDP enabled (R145), FDP events posted (R146, R148). -/
  fdp     : Bool
  fdpEvents : List (Nat × Nat)
  parts   : PMap Part
  nextPart : Nat
  rows    : PMap RowRec
  nextRowId : Nat
  pairs   : PMap PairRec
  nextPair : Nat
  /-- Erased cistern pairs of the general basin, of the tail space, of the landing reserve: cisterns two by two. -/
  freePairs : List (Nat × Nat)
  tailPairs : List (Nat × Nat)
  landRes : List Nat
  /-- Erased cisterns of the basin that have no partner yet. -/
  loose   : List Nat
  totalPairs : Nat
  /-- Conventional landing is stopped (R167). -/
  landStop : Bool
  nextCommit : Nat
  /-- Checkpoint segments that a full scan is rebuilding (R343 to R347). -/
  scanning : List Nat
  /-- Tags whose data waits for room in the retry region (R163). -/
  retryQ  : List Nat
  segs    : PMap Segment
  pass    : Nat
  passSegs : List Nat
  lastPassAt : Nat
  /-- Reservations per namespace: type, holder, registrants (host identifier, key), generation (R69). -/
  resvs   : PMap Resv
  journal : Journal
  ledger  : Ledger
  deriving DecidableEq, Repr

end Sys2Proof.Machine
end

