-- ==== Sys2Proof/Machine/MediaTypes.lean ====
section
/-! DEFINITION. The state of the media side: operations on dies, reads, die schedulers, sequencers with their block state table,
pools and the rebuild engine. A die is written member × 128 + sub-channel × 16 + die (R516). -/

namespace Sys2Proof.Machine

/-- The deadline classes of R203. -/
inductive Cls where
  | rt | d0 | d1 | b
  deriving DecidableEq, Repr

/-- The routines of the ROM library (R281). -/
inductive Routine where
  | read | readRetry | softRead | programQlc | programSlc | erase | suspend | resume | status | paramSet | dieIdentify | bridgeReg
  deriving DecidableEq, Repr

/-- The completion status codes of R282. -/
inductive SeqStatus where
  | success | suspended | completedInstead | invalidDescriptor | notPermitted | targetNotErased | outOfOrder | modeMismatch
  | targetDefect | targetBusy | tooCold | programFail | eraseFail | dieTimeout | dieFault | bridgeError | memberLost | profileMismatch
  deriving DecidableEq, Repr

/-- What an operation on a die is for; its completion goes there (R272). -/
inductive Purpose where
  | strip (rowId k : Nat)
  | basinPage (pair page copy : Nat)
  | frame (no mirror : Nat)
  | segment (key copy : Nat)
  | recorder (area serial copy : Nat)
  | landPage (part pair page copy : Nat)
  | read (rd : Nat)
  | poolErase (pool slot : Nat)
  | blockErase (reason : Nat)
  | spareErase (pool slot : Nat)
  | rebuildStrip (pool slot row : Nat)
  | suspendOf (op : Nat)
  | resumeOf (op : Nat)
  | firmware (port descId flags : Nat)
  | dieClear
  /-- A page of a journal cistern that is being copied; with 0 0, a program whose result nothing waits for any more. -/
  | copyPage (dst page : Nat)
  deriving DecidableEq, Repr

/-- How far an operation has come (R192, R206, R298, R302). -/
inductive OpStage where
  | created | ledger | admitted | sluice | queued | posted | journal | running | suspended | cold
  deriving DecidableEq, Repr

/-- Where a routine stands on the bus (R281, R285, R286, R306): nothing sent; data input with the frames sent so far; the frame with
its first or starting cycle outstanding; polling; moving data out; waiting for the decoder; reset sent; polling after the reset;
reading the identification. -/
inductive Phase where
  | idle | data (sent : Nat) | start | poll | out | decode | reset | resetPoll | ident
  deriving DecidableEq, Repr

/-- A media operation (R203, R277). -/
structure Op where
  rt     : Routine
  die    : Nat
  block  : Nat
  wl     : Nat
  cuFirst : Nat
  cuCount : Nat
  retryIdx : Nat
  pslc   : Bool
  param  : Nat
  pdata  : Nat
  cls    : Cls
  purpose : Purpose
  /-- Data of the code units to program. -/
  data   : List (List Byte)
  stage  : OpStage
  arrived : Nat
  deadline : Option Nat
  /-- Time it started or last resumed, and busy time before that, in ns (R285, R305). -/
  runAt  : Nat
  ran    : Nat
  suspends : Nat
  wasSusp : Bool
  /-- Its starting cycle has been sent (R288, R309). -/
  started : Bool
  lost   : Nat
  badPolls : Nat
  /-- Ledger charge in µJ and sluice tokens in mW it holds (R191, R478). -/
  charge : Nat
  tokens : Nat
  /-- Event 0x3405 has been recorded for it (R229). -/
  ranOut : Bool
  phase  : Phase
  /-- Attempt of a READ_RETRY or sensing of a SOFT_READ under way; bytes captured by its DOUT cycles, by cycle. -/
  step   : Nat
  raw    : PMap (List Byte)
  /-- Last status byte; ERASE_COUNT after an erase; data or result area in the SRAM buffer (R277, R278). -/
  dieStatus : Nat
  eraseCount : Nat
  buf    : Nat
  deriving DecidableEq, Repr

/-- Where a chunk lies. -/
structure Chunk where
  die   : Nat
  block : Nat
  wl    : Nat
  cu    : Nat
  pslc  : Bool
  deriving DecidableEq, Repr

/-- What a code-unit read is for. -/
inductive RdFor where
  /-- Unit of a host command: tag and 4 KiB unit number within the command's range. -/
  | host (tag unit : Nat)
  /-- A constituent of a spillway or degraded read of another read, for strip k. -/
  | part (rd k : Nat)
  | patrol (page : Nat)
  | reclaim (victim off : Nat)
  | fold (pair off : Nat)
  | rebuild (pool slot row k cu : Nat)
  | seal (g unit : Nat)
  | recover (rowId k cu : Nat)
  | firmware (op : Nat)
  /-- Old contents of a unit a 512-byte write covers in part (R178). -/
  | merge (tag unit : Nat)
  /-- Its command is gone: the data is discarded (R109). -/
  | discard
  deriving DecidableEq, Repr

/-- A read of one code unit, from its arrival at SCHED to its delivery (R217 to R226, R318 to R323, R358). -/
structure Rd where
  for_   : RdFor
  /-- It has reached SCHED (R217). -/
  here   : Bool
  cls    : Cls
  at_    : Chunk
  /-- Pool, row and strip role (0 to 17) of a chunk in a stripe row. -/
  place  : Option (Nat × Nat × Nat)
  /-- The other copy of a basin chunk (R169). -/
  other  : Option Chunk
  /-- Logical address expected: namespace and 4 KiB unit (R222, R322). -/
  expect : Nat × Nat
  arrived : Nat
  deadline : Option Nat
  /-- Direct read: operation, level reached, offset index in use (R318 to R320). -/
  op     : Option Nat
  level  : Nat
  /-- Spillway or degraded read: constituents outstanding by strip, chunks returned by strip; whether it is capped spillway. -/
  parts  : PMap Nat
  got    : PMap (List Byte)
  spill  : Bool
  degraded : Bool
  failed : List Nat
  /-- Its bytes are at a decoder; offset index of the attempt; index whose failed decode left the lowest weight, and that weight; its
  chunk showed another address (R319, R322). -/
  await  : Bool
  /-- The pool or cistern it has pinned (R325). -/
  pinKey : Nat
  idx    : Nat
  best   : Nat
  weight : Nat
  mismatch : Bool
  deriving DecidableEq, Repr

/-- The states of a die (R209). -/
inductive DieState where
  | idle | read | program | erase | suspending | prgSusp | ersSusp | blocked
  deriving DecidableEq, Repr

/-- A die as its scheduler and sequencer see it (R206 to R215, R310). -/
structure Die where
  st     : DieState
  /-- Operations queued, in arrival order; posted to the sequencer, in order. -/
  queue  : List Nat
  posted : List Nat
  skips  : Nat
  /-- The operation being suspended or suspended; time of the request; time of the confirmation; reads served since. -/
  susp   : Option Nat
  suspAt : Nat
  confAt : Option Nat
  served : Nat
  /-- Marked faulted under R310. -/
  faulted : Bool
  retired : Bool
  /-- Corrected by a completed DIE_IDENTIFY only (R310). -/
  identifying : Bool
  deriving DecidableEq, Repr

/-- The die profile (R284); times in µs. -/
structure Profile where
  id : Nat
  version : Nat
  blocks : Nat
  tR : Nat
  tRSlc : Nat
  tProg : Nat
  tProgSlc : Nat
  tBers : Nat
  tSuspP : Nat
  tSuspE : Nat
  tResume : Nat
  maxR : Nat
  maxProg : Nat
  maxBers : Nat
  pollR : Nat
  pollP : Nat
  pollE : Nat
  features : List Nat
  peQlc : Nat
  peSlc : Nat
  /-- What the ROM bounds besides: interface code, MT/s, planes, spare bytes, wordlines, offsets in bound, opcodes on the list. -/
  iface : Nat
  rate : Nat
  planes : Nat
  spare : Nat
  wls : Nat
  tablesOk : Bool
  /-- The die's status encoding, by status byte: 0 busy, 1 ready and passed, 2 ready and failed, 3 ready and suspended; a byte not
  listed shows neither (R310). ID_MATCH. -/
  status : PMap Nat
  idMatch : List Byte
  deriving DecidableEq, Repr

/-- What a frame of a CMD's cycles holds (R309). -/
inductive FrameKind where
  | sense | start | din | out | poll | reg | hb
  deriving DecidableEq, Repr

/-- A frame of the RX9 on a Binor port (R251 to R257): type, TAG, die, the operation it belongs to, chunk slots its cycles name, its
content, time sent. -/
structure BFrame where
  ftype  : Nat
  tag    : Nat
  die    : Nat
  op     : Option Nat
  kind   : FrameKind
  slots  : Nat
  body   : List Nat
  sentAt : Nat
  deriving DecidableEq, Repr

/-- A DATA flit in the replay buffer (R236, R239, R240). -/
structure HeldFlit where
  seq     : Nat
  replays : Nat
  sentAt  : Nat
  deriving DecidableEq, Repr

/-- A Binor port beyond its registers (R234 to R270). -/
structure Link where
  /-- Training: full or fast, attempts made, cause of a fast retrain, time the state was entered, receive lanes with signal. -/
  full     : Bool
  attempts : Nat
  cause    : Nat
  since    : Nat
  lanes    : List Nat
  eqLocal  : List Nat
  eqRemote : List Nat
  ts2      : PMap Nat
  /-- The CFG received last and how often. -/
  cfg      : List Nat
  cfgSeen  : Nat
  /-- Sequencing: next SEQ to send and to receive, flits held, DATA flits not yet acknowledged, time ACK last advanced or a flit was first
  held, discarding until the expected SEQ arrives, flits since the last SKIP. -/
  txSeq    : Nat
  rxSeq    : Nat
  held     : List HeldFlit
  unacked  : Nat
  ackAt    : Nat
  discarding : Bool
  sinceSkip : Nat
  /-- The stream is discarded up to the next frame start (R258). -/
  resync   : Bool
  /-- Codewords of the last 64 flits that could not be corrected, lane 0 and lane 1; corrected bytes in this 8 µs window (R246). -/
  hist     : List (Bool × Bool)
  corr0    : Nat
  corr1    : Nat
  /-- Receive lane for which a DEGRADE notice is repeated (R247). -/
  notice   : Option Nat
  /-- Frames that wait for credits or room, frames outstanding, next TAG (R250, R252, R259). -/
  sendQ    : List BFrame
  frames   : List BFrame
  nextTag  : Nat
  cmdq     : PMap Nat
  chunks   : Nat
  regFree  : Nat
  /-- Heartbeats sent; time of the last one received and of the last TEMP; whether both timers run (R264 to R270). -/
  hbOut    : Nat
  hbAt     : Nat
  tempAt   : Nat
  timers   : Bool
  parking  : Bool
  /-- BR_TALARM as last written (R262). -/
  talarm   : Nat
  deriving DecidableEq, Repr

/-- The rebuild of one row under way: chunks reconstructed, by code unit (R361). -/
structure RbRow where
  pool : Nat
  slot : Nat
  row  : Nat
  got  : PMap (List Byte)
  deriving DecidableEq, Repr

/-- A request for sluice tokens (R478, R479): an operation, or the rebuild batch under way. -/
structure SlReq where
  key : Nat
  mw  : Nat
  cls : Cls
  deriving DecidableEq, Repr

/-- The sluice: requests that hold tokens, and those that wait in arrival order (D1 and B apart by class). -/
structure Sluice where
  inUse : List SlReq
  q1    : List SlReq
  qb    : List SlReq
  deriving DecidableEq, Repr

/-- A patrol lap (R327 to R330, R348): blocks still to read with their first and last wordline plus one, the page to read next, pages in
all and read, times, counts of this lap and of the last one, zones whose seal job this lap has started. -/
structure Patrol where
  todo     : List (Nat × Nat × Nat)
  page     : Nat
  total    : Nat
  pages    : Nat
  startNs  : Nat
  startTs  : Nat × Nat
  nextNs   : Nat
  pagesLast : Nat
  lastTime : Nat
  marks    : Nat
  marksLast : Nat
  escalated : Nat
  escalatedLast : Nat
  uncorr   : Nat
  uncorrLast : Nat
  lost     : Nat
  lostLast : Nat
  verified : Nat
  verifiedLast : Nat
  mismatch : Nat
  mismatchLast : Nat
  hist     : PMap Nat
  histLast : PMap Nat
  /-- Highest corrected bits and escalation of pages whose code units are being decoded, by page number. -/
  open_    : PMap (Nat × Nat)
  zones    : List Nat
  done     : Bool
  /-- No lap has started since the reset (R330); the pace: pages and ns left when it was last computed (R328). -/
  fresh    : Bool
  pace     : Nat × Nat
  deriving DecidableEq, Repr

/-- A victim of a reclaim copy (R336, R337, R339): the zone of a bound pool, units still to read, units read and not yet moved, units
moved, score. -/
structure Victim where
  zone  : Option Nat
  reads : List Nat
  rows  : Nat
  moved : Nat
  last  : Bool
  deriving DecidableEq, Repr

/-- A copy of a journal cistern under way (R370): from, to, its pages, those left; the cistern it replaces (R333); the member whose loss asks for
it. -/
structure JCopy where
  src   : Nat
  dst   : Nat
  pages : Nat
  left  : Nat
  old   : Option Nat
  lost  : Option Nat
  deriving DecidableEq, Repr

/-- SCHED, the sequencers and STRIPE's redundancy side. -/
structure Media where
  ops     : PMap Op
  nextOp  : Nat
  rds     : PMap Rd
  nextRd  : Nat
  dies    : PMap Die
  bst     : PMap Bst
  defects : List Defect
  profile : Option Profile
  /-- FDQ and FCQ progress per port: FCQ phase (R275). -/
  fcqPhase : PMap Bool
  /-- Sub-channels in which cold refusal has begun (R301): port × 8 + s. -/
  cold    : List Nat
  pools   : PMap Pool
  /-- Rebuild jobs: member numbers and retired dies whose rebuild was started (R362). -/
  jobs    : List (Nat × Bool)
  rbRow   : Option RbRow
  rbStart : Nat × Nat
  rbStartNs : Nat
  slotsTotal : Nat
  slotsDone : Nat
  /-- Times of rows rebuilt in the last 60 s, newest first (R363). -/
  rbTimes : List Nat
  retired : Nat
  lostList : List (Nat × Nat × Nat × Nat × Nat × Nat)
  rowsLost : Nat
  /-- Rows rebuilt or lost in the current rebuild (0x4004). -/
  rbLost  : Nat
  /-- Spillway cap window: started, refused event posted, arrivals in this and the previous window (R223). -/
  spillStarted : Nat
  spillNoted : Nat
  winReads : Nat
  prevReads : Nat
  /-- Live latency histograms: h × 64 + bin (R227). -/
  hist    : PMap Nat
  sluice  : Sluice
  /-- Erase pins: pool or cistern key, count (R325). -/
  pins    : PMap Nat
  /-- Refresh marks: urgent or not (R324). -/
  marks   : PMap Bool
  patrol  : Patrol
  /-- Victims in copy by pool, pairs in fold with the units still to read or to move, scores with the valid count they were taken with (R170, R335). -/
  victims : PMap Victim
  folds   : PMap (List Nat)
  scores  : PMap (Nat × Nat)
  /-- Time of the last program of a block, as operating time plus one (R330). -/
  progAt  : PMap Nat
  /-- Erases for which event 0x350D has been recorded (R326). -/
  warned  : List Nat
  /-- Losses whose journal copies are being replaced: member, cisterns to copy, start time (R370). -/
  remirror : List (Nat × Nat × Nat)
  /-- Journal cisterns being copied (R333, R370, R577). -/
  copies  : List JCopy
  /-- Three-copy segments rewritten after a loss: how many, those left, start time (R372). -/
  three   : Option (Nat × List Nat × Nat)
  /-- Members lost and dies retired, in the order their slots became degraded; `true` is a die (R366). -/
  degUnits : List (Nat × Bool)
  /-- The lap number that the newest checkpoint pass holds (R330). -/
  lapCkpt : Nat
  deriving DecidableEq, Repr

end Sys2Proof.Machine
end

