-- ==== Sys2Proof/Machine/SysTypes.lean ====
section
/-! DEFINITION. The state of RESV beyond its registers, of the DRAM controllers and of the boot, firmware and core side. -/

namespace Sys2Proof.Machine

/-- A reservoir test under way (R476): its step in the table of R476, the drop it uses in mV, and the time of its step. -/
structure ResTest where
  step  : Nat
  drop  : Nat
  at_   : Nat
  v0    : Nat
  v1    : Nat
  esr   : Nat
  deriving DecidableEq, Repr

/-- The supply, the reservoir and the thermal side (R195 to R200, R469 to R491), kept through a WARM reset. -/
structure Supply where
  /-- Balls POR_L and MAIN_PG (R561); RES_CHG (R474). RES_EN is RESV_RSTAT.SWITCHED_IN. -/
  porLow  : Bool
  mainPg  : Bool
  resChg  : Bool
  /-- RESV holds the WARM reset; time the hold of R471 last began; the next release follows a POR or step 10 of R197; code of R535 it records. -/
  held    : Bool
  holdFrom : Nat
  cycle   : Bool
  code    : Nat
  /-- Time of the warning's detection while its window is open; the supply crossed RESET_MV, or R562 holds, in this warning; its events
  have been posted (R469). -/
  windowAt : Option Nat
  crossed : Bool
  posted  : Bool
  /-- Sequences committed, and brownouts ridden, since POR (R490). -/
  commits : Nat
  ridden  : Nat
  /-- Time CHG_EN was set, while the bank is not charged (R474). -/
  chgFrom : Option Nat
  /-- The reservoir test under way; the lowered V of R475 is in use, with its drop; a test is owed since the start or since it fell due, as
  operating time; event 0xA006 recorded for it; operating time the next periodic test falls due. -/
  test    : Option ResTest
  lowered : Option Nat
  owed    : Option Nat
  overdue : Bool
  nextTest : Nat
  /-- Time firmware last wrote RESV_FAN.DUTY (R484). -/
  fanAt   : Nat
  /-- Duty the automatic heater loop has chosen (R483). -/
  autoDuty : Nat
  /-- Last sample of each die sensor; sensors at or above TRIP_Q with the time since; pairs in an episode of R488. -/
  samples : PMap Int
  tripping : PMap Nat
  diff25  : List (Nat × Nat)
  diff30  : List (Nat × Nat)
  /-- Last measured voltage of each island of R487 in mV, in its table's order; islands over 120 mV apart since; the clamp under way: islands
  and its start. -/
  islands : PMap Nat
  apart   : List (Nat × Nat)
  clamp   : Option (Nat × Nat × Nat)
  /-- Times of the last die-sensor sample, island sample and energy update. -/
  sampleAt : Nat
  islandAt : Nat
  energyAt : Nat
  /-- Critical warning bits of the SMART log. -/
  smart   : Nat
  deriving DecidableEq, Repr

/-- The masters of R440 with what each reads or writes. -/
inductive DramMaster where
  | flush (part : Nat)
  | mapEntry (index : Nat)
  | zoneRecord (zone : Nat)
  | core (core : Nat)
  | fdqEntry (port : Nat)
  | fcqEntry (port : Nat)
  | blockTable (die : Nat)
  | poolTable (pool : Nat)
  | keyTable
  | intakeWrite (tag : Nat)
  | partRead (part : Nat)
  | parity (rowId : Nat)
  | checkpoint (key : Nat)
  | digest (ctx : Nat)
  | sealLane (zone unit : Nat)
  deriving DecidableEq, Repr

/-- A request to DRAM (R441): its master, its address and length, the bytes of a write, and what the ECC decoders report of the words it
reads: 64-bit words (address / 8) with the bits corrected, and words that are uncorrectable. -/
structure DramReq where
  master : DramMaster
  addr   : Nat
  len    : Nat
  data   : Option (List Byte)
  ce     : List (Nat × Nat)
  ue     : List Nat
  deriving DecidableEq, Repr

/-- A DRAM controller beyond its registers (R441 to R464). A bank is written ((rank × 2 + subchannel) × 8 + BG) × 4 + BA; a refresh set
(rank × 2 + subchannel) × 4 + s. -/
structure Drc where
  /-- Requests held, in arrival order, with their arrival. -/
  queue  : List (Nat × DramReq)
  /-- Open rows by bank with the time of the last use, consecutive hits by bank, activate pointer by subchannel. -/
  rows   : PMap (Nat × Nat)
  hits   : PMap Nat
  ptr    : PMap Nat
  /-- Refreshes owed by refresh set. -/
  owed   : PMap Nat
  /-- MR4 temperature of each rank in °C, and as it was when the last round started; ranks reported above 95 °C. -/
  mr4    : PMap Nat
  mr4Round : PMap Nat
  hotRanks : List Nat
  /-- A training round is under way; the sample window open in it and its end; time the last round started. -/
  round  : Bool
  window : Option Nat
  roundAt : Nat
  /-- An operating-point change requested and waiting for the window, since when. -/
  opSince : Option Nat
  /-- ALERT_n low; time by which the replay of the last alert ends; alerts in a row that met a replay; issue times of commands in the retry
  buffer, newest first. -/
  alert  : Bool
  replayTo : Nat
  broken : Nat
  issued : List Nat
  /-- Operating times of the correctable errors of each page in the last 24 h (R461). -/
  ces    : PMap (List Nat)
  /-- Next burst to scrub and start of the lap. -/
  scrub  : Nat
  lapAt  : Nat
  /-- Spare pages in use by remap entry, and spare pages found bad (R460, R461). -/
  spares : PMap Nat
  badSpares : List Nat
  /-- The bank in the bank spare or being copied: bank and copy pointer; a bank the self-test left pending. -/
  bank   : Option (Nat × Nat)
  pendBank : Option Nat
  deriving DecidableEq, Repr

/-- A logical core (R547 to R549): running or held in reset, entry it was started at, operating times of its restarts, time its watchdog was
last restarted. -/
structure Core where
  running : Bool
  entry  : Nat
  restarts : List Nat
  kickAt : Nat
  deriving DecidableEq, Repr

/-- The image a part runs (R538): slot, SVN, FLAGS.FHL, and its cold, warm and activation entries. -/
structure Running where
  slot : Nat
  svn  : Nat
  fhl  : Bool
  cold : Nat
  warm : Nat
  act  : Nat
  rev  : List Byte
  deriving DecidableEq, Repr

/-- A boot record with a valid CRC (R537): SEQ and FIRST. -/
structure BootRec where
  seq   : Nat
  first : Nat
  deriving DecidableEq, Repr

/-- The boot, firmware and core side. -/
structure Sys where
  /-- Time of the last release of the WARM reset; time the device watchdog was last restarted (R549). -/
  released : Nat
  wdogAt : Nat
  cores  : PMap Core
  /-- The SPI NOR: bytes of slots 1 and 2, and the boot records with a valid CRC by copy (R537). -/
  flash  : PMap (List Byte)
  bootRecs : PMap BootRec
  /-- The firmware mailboxes of the PFs' BAR2 (R59, R60): byte `off` of PF p at p × 65,536 + off. -/
  mbox   : PMap Byte
  /-- Bytes of the image being downloaded, by byte offset of the piece (R543). -/
  pieces : PMap (List Byte)
  running : Option Running
  /-- The ROM is mapped (R32, R542, R545). -/
  romMapped : Bool
  /-- ROM_BOOT has run since the reset; REPLAY has returned, with the highest sequence number it found (R542). -/
  booted : Bool
  replayed : Option Nat
  /-- A Firmware Commit of action 3 that waits for its activation: tag and slot (R119, R544). -/
  commit : Option (Nat × Nat)
  deriving DecidableEq, Repr

end Sys2Proof.Machine
end

