-- ==== Sys2Proof/Syntax.lean ====
section
/-! DEFINITION. The commands of the part: one constructor per row of spec/opcode_table.json, in the table's families.
Each is an operation a host, firmware or the sled performs, a routine that runs, or an event of the medium, of a link or of a timer. -/

namespace Sys2Proof

open Sys2Proof.Machine

/-- A command or event of the Ralwa RX9. The docstring gives its row of the table and the rule that governs it. -/
inductive Instr where
  -- 00_scope
  /-- REGISTER_WRITE (R8). -/
  | registerWrite (target : RegTarget) (value : Nat) (ext : List Byte) (dur : Nat)
  /-- REGISTER_READ_CLEAR (R8). -/
  | registerReadClear (target : RegTarget)
  /-- POWER_ON_RESET (R9). -/
  | powerOnReset
  -- 01_architecture
  /-- CLOCK_LOSS (R31). -/
  | clockLoss (clock : Clock)
  /-- CORE_ACCESS (R33). -/
  | coreAccess (req : CoreReq)
  -- 02_host_ports_and_functions
  /-- PERST_DEASSERT (R42). -/
  | perstDeassert (port : Nat)
  /-- PERST_ASSERT (R73). -/
  | perstAssert (port : Nat)
  /-- LINK_TRAINING_DONE (R43). -/
  | linkTrainingDone (port speed width : Nat) (flit : Bool)
  /-- RETRAIN (R43). -/
  | retrain (port : Nat)
  /-- LINK_DISABLE (R73). -/
  | linkDisable (port : Nat)
  /-- HOT_RESET (R73). -/
  | hotReset (port : Nat)
  /-- LINK_DOWN (R72). -/
  | linkDown (port ltssm : Nat)
  /-- CONFIG_REQUEST (R44). -/
  | configRequest (fn : Nat) (act : CfgAction)
  /-- L0P_NARROW (R45). -/
  | l0pNarrow (port width : Nat)
  /-- L0P_WIDEN (R45). -/
  | l0pWiden (port width : Nat)
  /-- D3HOT_ENTRY (R48). -/
  | d3hotEntry (fn : Nat)
  /-- D0_RETURN (R48). -/
  | d0Return (fn : Nat)
  -- 03_command_intake_and_completion
  /-- SQ_TAIL_DOORBELL (R80). -/
  | sqTailDoorbell (fn qid value : Nat)
  /-- CQ_HEAD_DOORBELL (R80). -/
  | cqHeadDoorbell (fn qid value : Nat)
  -- 02_host_ports_and_functions
  /-- ASSIGNMENT_COMMIT (R55). -/
  | assignmentCommit (pf index : Nat)
  /-- NAMESPACE_ATTACHMENT (R58). -/
  | namespaceAttachment (tag : Nat) (list : List Nat)
  /-- MAILBOX_TO_FW (R60). -/
  | mailboxToFw (pf : Nat)
  /-- MAILBOX_TO_HOST (R60). -/
  | mailboxToHost (pf : Nat)
  /-- ATS_INVALIDATION (R62). -/
  | atsInvalidation (port fn pasid page count : Nat)
  /-- IDE_KEY_INSTALL (R63). -/
  | ideKeyInstall (port stream : Nat) (fns : List Nat)
  /-- UNBOUND_STREAM_TLP (R64). -/
  | unboundStreamTlp (fn : Nat) (stream : Option Nat)
  /-- IDE_INTEGRITY_FAILURE (R65). -/
  | ideIntegrityFailure (port stream : Nat)
  /-- ANA_STATE_WRITE (R67). -/
  | anaStateWrite (port k value : Nat)
  /-- RESERVATION_REGISTER (R70). -/
  | reservationRegister (tag : Nat) (keys : List Nat)
  /-- RESERVATION_ACQUIRE (R71). -/
  | reservationAcquire (tag : Nat) (keys : List Nat)
  /-- RESERVATION_RELEASE (R70). -/
  | reservationRelease (tag : Nat) (keys : List Nat)
  /-- RESERVATION_REPORT (R69). -/
  | reservationReport (tag : Nat)
  /-- DMA_READ_TIMEOUT (R74). -/
  | dmaReadTimeout (rd : DmaRead)
  /-- POISONED_COMPLETION (R74). -/
  | poisonedCompletion (rd : DmaRead)
  /-- POISONED_WRITE_TLP (R74). -/
  | poisonedWriteTlp (fn off : Nat)
  -- 03_command_intake_and_completion
  /-- FETCH_TURN (R81). -/
  | fetchTurn
  /-- SUBMISSION_ENTRY_FETCHED (R92). -/
  | submissionEntryFetched (tag : Nat) (sqe : Sqe) (ptr : DataPtr)
  /-- CREATE_IO_SUBMISSION_QUEUE (R79). -/
  | createIoSubmissionQueue (tag : Nat)
  /-- CREATE_IO_COMPLETION_QUEUE (R79). -/
  | createIoCompletionQueue (tag : Nat)
  /-- SET_FEATURES (R79). -/
  | setFeatures (tag : Nat) (data : List Byte)
  -- 05_write_commit_and_atomicity
  /-- IDENTIFY (R179). -/
  | identify (tag : Nat)
  -- 04_zones_and_placement
  /-- ASYNCHRONOUS_EVENT_REQUEST (R159). -/
  | asynchronousEventRequest (tag : Nat)
  /-- GET_LBA_STATUS (R155). -/
  | getLbaStatus (tag : Nat)
  -- 10_stripe_redundancy_and_rebuild
  /-- FORMAT_NVM (R374). -/
  | formatNvm (tag : Nat)
  -- 03_command_intake_and_completion
  /-- CLAIM_GRANTED (R94). -/
  | claimGranted (slice tag : Nat)
  /-- HOST_DATA_FETCHED (R99). -/
  | hostDataFetched (tag : Nat) (units : List (List Byte))
  /-- ENERGY_ADMISSION_TIMEOUT (R101). -/
  | energyAdmissionTimeout (tag : Nat)
  /-- POST_COMPLETION (R103). -/
  | postCompletion (tag : Nat)
  /-- COALESCING_TIMER_EXPIRY (R105). -/
  | coalescingTimerExpiry (fn vec : Nat)
  /-- ABORT (R106). -/
  | abort (tag : Nat)
  /-- ABORT_DECISION (R108). -/
  | abortDecision (tag : Nat)
  /-- FLUSH (R111). -/
  | flush (tag : Nat)
  /-- CONTROLLER_ENABLE (R83). -/
  | controllerEnable (fn cc : Nat)
  /-- CONTROLLER_RESET (R112). -/
  | controllerReset (fn : Nat)
  /-- RESET_DRAIN_COMPLETE (R112). -/
  | resetDrainComplete (fn : Nat)
  /-- RESET_DRAIN_TIMEOUT (R113). -/
  | resetDrainTimeout (fn : Nat)
  /-- FUNCTION_LEVEL_RESET (R114). -/
  | functionLevelReset (fn : Nat)
  /-- NORMAL_SHUTDOWN (R115). -/
  | normalShutdown (fn : Nat)
  /-- SHUTDOWN_CHECKPOINT_DONE (R115). -/
  | shutdownCheckpointDone (fn : Nat)
  /-- ABRUPT_SHUTDOWN (R115). -/
  | abruptShutdown (fn : Nat)
  -- 17_boot_firmware_and_fault_guarantees
  /-- FIRMWARE_IMAGE_DOWNLOAD (R543). -/
  | firmwareImageDownload (tag : Nat) (data : List Byte)
  /-- FIRMWARE_COMMIT (R544). -/
  | firmwareCommit (tag : Nat)
  -- 03_command_intake_and_completion
  /-- DRAIN_REQUEST (R116). -/
  | drainRequest
  /-- FIRMWARE_DRAIN_COMPLETE (R116). -/
  | firmwareDrainComplete
  /-- DRAIN_LIMIT_EXPIRY (R117). -/
  | drainLimitExpiry
  /-- FETCH_RESUME (R116). -/
  | fetchResume
  -- 17_boot_firmware_and_fault_guarantees
  /-- FIRMWARE_ACTIVATION (R545). -/
  | firmwareActivation (slot stage dur : Nat)
  -- 03_command_intake_and_completion
  /-- CONF_SEQ_LOCK (R122). -/
  | confSeqLock (next : Option Nat)
  -- 04_zones_and_placement
  /-- NAMESPACE_CREATE (R124). -/
  | namespaceCreate (tag size fmt : Nat) (ext : Bool) (group : Nat) (handles : List Nat)
  /-- NAMESPACE_DELETE (R124). -/
  | namespaceDelete (tag : Nat)
  /-- ZMAP_NSZ_WRITE (R129). -/
  | zmapNszWrite (nsid mar mor : Nat)
  /-- WRITE (R132). -/
  | write (tag : Nat)
  -- 03_command_intake_and_completion
  /-- ZONE_APPEND (R93). -/
  | zoneAppend (tag : Nat)
  -- 04_zones_and_placement
  /-- WRITE_ZEROES (R135). -/
  | writeZeroes (tag : Nat)
  /-- DATASET_MANAGEMENT (R153). -/
  | datasetManagement (tag : Nat) (ranges : List (Nat × Nat))
  /-- READ (R134). -/
  | read (tag : Nat)
  /-- COMPARE (R134). -/
  | compare (tag : Nat)
  /-- VERIFY (R134). -/
  | verify (tag : Nat)
  /-- ZONE_OPEN (R131). -/
  | zoneOpen (tag : Nat)
  /-- ZONE_CLOSE (R130). -/
  | zoneClose (tag : Nat)
  /-- ZONE_FINISH (R139). -/
  | zoneFinish (tag : Nat)
  /-- ZONE_RESET (R140). -/
  | zoneReset (tag : Nat)
  /-- ZONE_OFFLINE (R140). -/
  | zoneOffline (tag : Nat)
  /-- SET_ZONE_DESCRIPTOR_EXTENSION (R143). -/
  | setZoneDescriptorExtension (tag : Nat) (data : List Byte)
  /-- ZONE_MANAGEMENT_RECEIVE (R142). -/
  | zoneManagementReceive (tag : Nat)
  /-- POOL_BIND (R136). -/
  | poolBind (target : Nat)
  /-- BINDING_WAIT_EXPIRY (R136). -/
  | bindingWaitExpiry (tag : Nat)
  /-- OPEN_AGE_EXPIRY (R148). -/
  | openAgeExpiry (handle : Nat)
  /-- CONTROLLER_FINISH (R159). -/
  | controllerFinish (zone : Nat)
  /-- FZR_AGE_EXPIRY (R160). -/
  | fzrAgeExpiry (zone : Nat)
  /-- CHECKPOINT_PASS_START (R157). -/
  | checkpointPassStart
  -- 05_write_commit_and_atomicity
  /-- ROW_WAIT_EXPIRY (R165). -/
  | rowWaitExpiry (part : Nat)
  /-- GATHER_WINDOW_EXPIRY (R168). -/
  | gatherWindowExpiry (pair : Nat)
  /-- BASIN_FOLD (R170). -/
  | basinFold
  /-- JOURNAL_BATCH_EXPIRY (R177). -/
  | journalBatchExpiry
  /-- LEDGER_ADMIT_OPERATION (R189). -/
  | ledgerAdmitOperation (op : Nat)
  /-- LEDGER_ADMIT_COMMITMENT (R189). -/
  | ledgerAdmitCommitment (tag : Nat)
  /-- SUPPLY_WARNING (R195). -/
  | supplyWarning (mv : Nat)
  /-- BROWNOUT_RIDDEN (R196). -/
  | brownoutRidden
  /-- CONFIRMATION_WINDOW_EXPIRY (R197). -/
  | confirmationWindowExpiry
  /-- SUPPLY_RESET_LEVEL (R197). -/
  | supplyResetLevel (mv : Nat)
  /-- PF_JOURNAL_FLUSH (R197). -/
  | pfJournalFlush
  -- 16_event_recorder
  /-- PF_RECORDER_FLUSH (R522). -/
  | pfRecorderFlush
  -- 05_write_commit_and_atomicity
  /-- PF_END_WRITE (R197). -/
  | pfEndWrite
  /-- PF_POWER_OFF (R197). -/
  | pfPowerOff
  -- 14_reservoir_power_and_thermal
  /-- SUPPLY_HOLD_EXPIRY (R471). -/
  | supplyHoldExpiry
  -- 06_read_path_and_tail_latency
  /-- SCHED_READ_ARRIVAL (R217). -/
  | schedReadArrival (rd : Nat)
  /-- D1_SUSPEND_AGE_EXPIRY (R211). -/
  | d1SuspendAgeExpiry (op : Nat)
  /-- MIN_RUN_EXPIRY (R211). -/
  | minRunExpiry (op : Nat)
  /-- SUSPEND_HOLD_EXPIRY (R212). -/
  | suspendHoldExpiry (die : Nat)
  /-- SUSPEND_STALL_EXPIRY (R215). -/
  | suspendStallExpiry (die : Nat)
  /-- SPILL_WINDOW_ROLLOVER (R223). -/
  | spillWindowRollover
  /-- LATENCY_SNAPSHOT (R227). -/
  | latencySnapshot
  -- 09_media_ecc_patrol_and_reclaim
  /-- HARD_DECODE_DONE (R318). -/
  | hardDecodeDone (rd : Nat) (res : DecodeRes)
  /-- SOFT_DECODE_DONE (R318). -/
  | softDecodeDone (rd : Nat) (res : DecodeRes)
  -- 07_binor_link_and_bridge
  /-- DATA_FLIT (R238). -/
  | dataFlit (port seq fstart : Nat) (c0 c1 : Option Nat) (crcOk : Bool) (frames : List (Nat × Nat × Nat))
  /-- LINK_FLIT (R237). -/
  | linkFlit (port : Nat) (c0 c1 : Option Nat) (crcOk : Bool) (ack nak degrade : Option Nat)
  /-- SKIP_FLIT (R234). -/
  | skipFlit (port : Nat) (c0 c1 : Option Nat) (crcOk : Bool)
  /-- SKIP_INSERT (R234). -/
  | skipInsert (port : Nat)
  /-- ACK_TIMER_EXPIRY (R238). -/
  | ackTimerExpiry (port : Nat)
  /-- NAK_REPEAT_EXPIRY (R238). -/
  | nakRepeatExpiry (port : Nat)
  /-- REPLAY_TIMEOUT (R239). -/
  | replayTimeout (port : Nat)
  /-- ACK_STALL_EXPIRY (R240). -/
  | ackStallExpiry (port : Nat)
  /-- SIGNAL_DETECTED (R241). -/
  | signalDetected (port : Nat) (rx tx : List Nat)
  /-- CDR_LOCK (R241). -/
  | cdrLock (port : Nat)
  /-- ORDERED_SET_RECEIVED (R242). -/
  | orderedSetReceived (port : Nat) (os : OrderedSet)
  /-- TRAINING_STATE_TIMEOUT (R244). -/
  | trainingStateTimeout (port : Nat)
  /-- FULL_TRAIN (R243). -/
  | fullTrain (port : Nat)
  /-- FAST_RETRAIN (R243). -/
  | fastRetrain (port : Nat)
  /-- LANE_LOSS (R246). -/
  | laneLoss (port lane : Nat)
  /-- FEC_WINDOW_EXPIRY (R246). -/
  | fecWindowExpiry (port : Nat)
  /-- DMARK_RECEIVED (R247). -/
  | dmarkReceived (port lane : Nat)
  /-- CMP_RECEIVED (R256). -/
  | cmpReceived (port tag result : Nat) (sb : List Nat) (cycles : Nat)
  /-- DATA_R_RECEIVED (R255). -/
  | dataRReceived (port tag idx : Nat) (bytes : List Byte)
  /-- REG_RSP_RECEIVED (R257). -/
  | regRspReceived (port tag result data : Nat)
  /-- HB_RECEIVED (R264). -/
  | hbReceived (port status : Nat)
  /-- HB_SEND (R264). -/
  | hbSend (port : Nat)
  /-- HB_TIMEOUT (R267). -/
  | hbTimeout (port : Nat)
  /-- TEMP_RECEIVED (R266). -/
  | tempReceived (port mask : Nat) (values : List Nat) (alarm : Bool)
  /-- TEMP_STALE (R266). -/
  | tempStale (port : Nat)
  /-- PARK (R270). -/
  | park (port : Nat)
  /-- PARK_COMPLETE (R270). -/
  | parkComplete (port : Nat)
  -- 08_media_sequencer_and_rom_routines
  /-- FDQ_TAIL_WRITE (R273). -/
  | fdqTailWrite (port tail : Nat)
  /-- FDQ_ENTRY_READ (R274). -/
  | fdqEntryRead (port : Nat)
  /-- FCQ_HEAD_WRITE (R275). -/
  | fcqHeadWrite (port head : Nat)
  /-- ROUTINE_READ (R281). -/
  | routineRead (op : Nat)
  /-- ROUTINE_READ_RETRY (R281). -/
  | routineReadRetry (op : Nat)
  /-- ROUTINE_SOFT_READ (R281). -/
  | routineSoftRead (op : Nat)
  /-- ROUTINE_PROGRAM_QLC (R295). -/
  | routineProgramQlc (op : Nat)
  /-- ROUTINE_PROGRAM_SLC (R295). -/
  | routineProgramSlc (op : Nat)
  /-- ROUTINE_ERASE (R298). -/
  | routineErase (op : Nat)
  /-- ROUTINE_SUSPEND (R303). -/
  | routineSuspend (op : Nat)
  /-- ROUTINE_RESUME (R305). -/
  | routineResume (op : Nat)
  /-- ROUTINE_STATUS (R281). -/
  | routineStatus (op : Nat)
  /-- ROUTINE_PARAM_SET (R281). -/
  | routineParamSet (op : Nat)
  /-- ROUTINE_DIE_IDENTIFY (R306). -/
  | routineDieIdentify (op : Nat)
  /-- ROUTINE_BRIDGE_REG (R281). -/
  | routineBridgeReg (op : Nat)
  /-- STATUS_POLL_TIMER (R285). -/
  | statusPollTimer (op : Nat)
  /-- FRAME_TIMEOUT (R309). -/
  | frameTimeout (port tag : Nat)
  /-- SET_OWNER (R293). -/
  | setOwner (die block owner : Nat)
  /-- MARK_BAD (R293). -/
  | markBad (die block : Nat)
  /-- DIE_CLEAR (R310). -/
  | dieClear (die : Nat)
  -- 09_media_ecc_patrol_and_reclaim
  /-- PIN_WAIT_WARNING (R326). -/
  | pinWaitWarning (op : Nat)
  /-- PATROL_READ_ISSUE (R328). -/
  | patrolReadIssue
  /-- PATROL_PACE_RECOMPUTE (R328). -/
  | patrolPaceRecompute
  /-- PATROL_LAP_START (R328). -/
  | patrolLapStart
  /-- PATROL_LAP_OVERRUN (R328). -/
  | patrolLapOverrun
  /-- SCORE_UPDATE (R335). -/
  | scoreUpdate
  /-- RECLAIM_VICTIM_SELECT (R336). -/
  | reclaimVictimSelect
  /-- RECLAIM_COMMAND (R336). -/
  | reclaimCommand (pool : Nat)
  /-- FULL_SCAN (R343). -/
  | fullScan (seg : Nat) (scan : ScanData)
  -- 10_stripe_redundancy_and_rebuild
  /-- POOL_FORM (R353). -/
  | poolForm (pool : Nat)
  /-- REBUILD_MEMBER (R362). -/
  | rebuildMember (m : Nat)
  /-- RETIRE_DIE (R362). -/
  | retireDie (die : Nat)
  /-- REBUILD_ROW (R361). -/
  | rebuildRow
  -- 11_fixity_digest_and_keys
  /-- SEAL_ABSORB (R381). -/
  | sealAbsorb (g u : Nat)
  /-- SEAL_LANE_DONE (R381). -/
  | sealLaneDone (g u : Nat)
  /-- SEAL_CHAIN_REBUILD (R386). -/
  | sealChainRebuild (g : Nat)
  /-- SEAL_QUERY (R389). -/
  | sealQuery (tag : Nat)
  /-- SEAL_IMPORT (R393). -/
  | sealImport (tag : Nat) (data : List Byte)
  /-- SEAL_SECRET_INSTALL (R394). -/
  | sealSecretInstall (tag : Nat) (secret : List Byte)
  /-- DIGEST_ALLOCATE (R397). -/
  | digestAllocate (core : Nat)
  /-- DIGEST_START (R398). -/
  | digestStart (core x ctl : Nat)
  /-- DIGEST_DATA (R398). -/
  | digestData (core x word : Nat)
  /-- DIGEST_FINAL (R399). -/
  | digestFinal (core x : Nat)
  /-- DIGEST_RELEASE (R397). -/
  | digestRelease (core x : Nat)
  /-- DIGEST_DONE (R401). -/
  | digestDone (x : Nat)
  /-- KEY_LOAD (R405). -/
  | keyLoad (slot ty len usage : Nat)
  /-- KEY_CLEAR (R405). -/
  | keyClear (slot : Nat)
  /-- KEY_WRAP (R405). -/
  | keyWrap (slot handle : Nat)
  /-- KEY_UNWRAP (R405). -/
  | keyUnwrap (slot handle : Nat)
  /-- KEY_GENERATE (R405). -/
  | keyGenerate (handle ty usage : Nat)
  /-- KEY_DROP (R405). -/
  | keyDrop (handle : Nat)
  /-- XTS_NSCFG_WRITE (R407). -/
  | xtsNscfgWrite (nsid : Nat) (en : Bool) (handle : Nat)
  /-- XTS_KEY_CACHE_FILL (R409). -/
  | xtsKeyCacheFill (nsid : Nat)
  -- 12_tenants_isolation_and_migration
  /-- TENANT_FNCFG_WRITE (R411). -/
  | tenantFncfgWrite (fn value : Nat)
  /-- TENANT_NSCFG_WRITE (R411). -/
  | tenantNscfgWrite (nsid value : Nat)
  /-- FENCE (R417). -/
  | fence (fn : Nat)
  /-- UNFENCE (R417). -/
  | unfence (fn : Nat)
  /-- FUNCTION_FREEZE (R421). -/
  | functionFreeze (tag : Nat)
  /-- FREEZE_DRAINED (R421). -/
  | freezeDrained (fn : Nat)
  /-- FREEZE_DRAIN_LIMIT (R422). -/
  | freezeDrainLimit (fn : Nat)
  /-- FUNCTION_SAVE (R424). -/
  | functionSave (tag : Nat)
  /-- FUNCTION_RESTORE (R428). -/
  | functionRestore (tag : Nat) (image : List Byte)
  /-- FUNCTION_THAW (R421). -/
  | functionThaw (tag : Nat)
  -- 13_dram_subsystem
  /-- DRAM_REQUEST (R441). -/
  | dramRequest (req : DramReq)
  /-- REFRESH_DUE (R444). -/
  | refreshDue (ch rank sub set : Nat)
  /-- MR4_READ (R444). -/
  | mr4Read (ch rank temp : Nat)
  /-- TRAINING_ROUND_START (R448). -/
  | trainingRoundStart (ch : Nat)
  /-- SAMPLE_WINDOW (R448). -/
  | sampleWindow (ch : Nat)
  /-- OPERATING_POINT_CHANGE (R450). -/
  | operatingPointChange (ch target : Nat)
  /-- CA_PARITY_ALERT (R452). -/
  | caParityAlert (ch : Nat)
  /-- SCRUB_READ (R459). -/
  | scrubRead (ch : Nat) (ce : List (Nat × Nat)) (ue : List Nat)
  /-- RETIRE_PAGE (R461). -/
  | retirePage (ch addr : Nat)
  /-- RETIRE_BANK (R462). -/
  | retireBank (ch addr : Nat)
  /-- BANK_COPY_COMPLETE (R462). -/
  | bankCopyComplete (ch : Nat)
  /-- SPARE_LOCK (R460). -/
  | spareLock (base size : Nat)
  -- 14_reservoir_power_and_thermal
  /-- RESERVOIR_ENERGY_UPDATE (R475). -/
  | reservoirEnergyUpdate (v : Nat)
  /-- RESERVOIR_TEST_START (R476). -/
  | reservoirTestStart
  /-- TEST_NOW (R476). -/
  | testNow
  /-- TEST_V0_SAMPLE (R476). -/
  | testV0Sample (v0 : Nat)
  /-- TEST_ESR_SAMPLE (R476). -/
  | testEsrSample (v1 i1 : Nat)
  /-- TEST_INTEGRATION_END (R477). -/
  | testIntegrationEnd (charge vEnd : Nat)
  /-- BANK_CHARGED (R474). -/
  | bankCharged
  /-- CHARGE_TIMEOUT (R474). -/
  | chargeTimeout
  /-- BANK_SAG (R474). -/
  | bankSag
  /-- SLUICE_REQUEST (R479). -/
  | sluiceRequest (op : Nat)
  /-- SLUICE_BUDGET_WRITE (R479). -/
  | sluiceBudgetWrite (value : Nat)
  /-- DIE_SENSOR_SAMPLE (R481). -/
  | dieSensorSample (values : List Int)
  /-- FAN_WATCHDOG_EXPIRY (R484). -/
  | fanWatchdogExpiry
  /-- FAN_DUTY_WRITE (R484). -/
  | fanDutyWrite (duty : Nat)
  /-- ISLAND_VOLTAGE_SAMPLE (R487). -/
  | islandVoltageSample (mv : List Nat)
  /-- ISLAND_CLAMP_TIMEOUT (R487). -/
  | islandClampTimeout
  -- 18_signals_electrical_package
  /-- MAIN_PG_FALL (R562). -/
  | mainPgFall
  -- 15_power_domains
  /-- DOMAIN_ARM (R495). -/
  | domainArm (dom arm owner wakeen : Nat)
  /-- WFI (R496). -/
  | wfi (core : Nat)
  /-- DOMAIN_ENTRY_COMPLETE (R492). -/
  | domainEntryComplete (dom : Nat)
  /-- WAKE_EDGE (R499). -/
  | wakeEdge (source : Nat)
  /-- WAKE_LEVEL (R501). -/
  | wakeLevel (dom source : Nat)
  /-- DOMAIN_WAKE (R501). -/
  | domainWake (dom : Nat)
  /-- PWR_TIMER_EXPIRY (R498). -/
  | pwrTimerExpiry
  /-- DOMAIN_EXIT_COMPLETE (R504). -/
  | domainExitComplete (dom words bits : Nat) (lost : Option Nat)
  -- 16_event_recorder
  /-- EVENT_RECORD (R517). -/
  | eventRecord
  /-- STAGING_AGE_EXPIRY (R521). -/
  | stagingAgeExpiry
  /-- FLUSH_INTERVAL_EXPIRY (R521). -/
  | flushIntervalExpiry
  /-- COUNTER_CHECKPOINT (R524). -/
  | counterCheckpoint
  /-- EVENT_CLEAR (R530). -/
  | eventClear (tag : Nat) (data : List Byte)
  /-- EVENT_WINDOW_READ (R529). -/
  | eventWindowRead (win source image cursor : Nat)
  /-- FIRMWARE_EVENT_POST (R533). -/
  | firmwareEventPost (core id : Nat) (items : List Nat)
  -- 11_fixity_digest_and_keys
  /-- LOG_PAGE_C0 (R390). -/
  | logPageC0 (tag : Nat)
  -- 14_reservoir_power_and_thermal
  /-- LOG_PAGE_C1 (R490). -/
  | logPageC1 (tag : Nat)
  -- 16_event_recorder
  /-- LOG_PAGE_C2 (R527). -/
  | logPageC2 (tag : Nat)
  -- 10_stripe_redundancy_and_rebuild
  /-- LOG_PAGE_C3 (R375). -/
  | logPageC3 (tag : Nat)
  -- 09_media_ecc_patrol_and_reclaim
  /-- LOG_PAGE_C4 (R348). -/
  | logPageC4 (tag : Nat)
  -- 12_tenants_isolation_and_migration
  /-- LOG_PAGE_C5 (R433). -/
  | logPageC5 (tag : Nat)
  -- 17_boot_firmware_and_fault_guarantees
  /-- ROM_BOOT (R540). -/
  | romBoot (data : BootData)
  /-- REPLAY (R542). -/
  | replay (data : ReplayData)
  /-- HANDOFF (R542). -/
  | handoff
  /-- SOFTWARE_WARM_RESET (R535). -/
  | softwareWarmReset
  /-- DEVICE_WATCHDOG_EXPIRY (R549). -/
  | deviceWatchdogExpiry
  /-- WATCHDOG_KICK (R549). -/
  | watchdogKick
  /-- CORE_WATCHDOG_KICK (R548). -/
  | coreWatchdogKick (core : Nat)
  /-- CORE_WATCHDOG_EXPIRY (R548). -/
  | coreWatchdogExpiry (core : Nat) (data : RestartData)
  /-- LOCKSTEP_MISMATCH (R547). -/
  | lockstepMismatch (core : Nat) (data : RestartData)
  /-- SVN_BURN (R546). -/
  | svnBurn (value : Nat)
  -- 07_binor_link_and_bridge
  /-- DEGRADE_NOTICE_REPEAT (R247). -/
  | degradeNoticeRepeat (port : Nat)
  -- 13_dram_subsystem
  /-- ALERT_N_RELEASE (R452). -/
  | alertNRelease (ch : Nat)
  /-- OPEN_ROW_TIMEOUT (R443). -/
  | openRowTimeout (ch bank : Nat)
  -- 14_reservoir_power_and_thermal
  /-- SUPPLY_RETURN (R470). -/
  | supplyReturn
  -- 18_signals_electrical_package
  /-- MAIN_PG_RISE (R561). -/
  | mainPgRise
  /-- POR_L_RELEASE (R561). -/
  | porLRelease
  -- 14_reservoir_power_and_thermal
  /-- RESERVOIR_TEST_OVERDUE (R491). -/
  | reservoirTestOverdue
  -- 00_scope
  /-- NVME_MI_MESSAGE (R7). -/
  | nvmeMiMessage (via : Nat) (message : List Byte)
  deriving DecidableEq, Repr

end Sys2Proof
end

