-- ==== Sys2Proof/Machine/Bits.lean ====
section
/-! DEFINITION. Bit fields of words, saturation and byte order: the helpers every meaning shares. -/

namespace Sys2Proof.Machine

/-- Bits `hi` to `lo` of a number. -/
def bitsOf (w hi lo : Nat) : Nat := (w / 2 ^ lo) % 2 ^ (hi + 1 - lo)

/-- A number with its bits `hi` to `lo` replaced by the low bits of `v`. -/
def putBits (w hi lo v : Nat) : Nat :=
  w % 2 ^ lo + (v % 2 ^ (hi + 1 - lo)) * 2 ^ lo + (w / 2 ^ (hi + 1)) * 2 ^ (hi + 1)

/-- One bit of a number. -/
def bitOf (w i : Nat) : Bool := bitsOf w i i = 1

/-- A truth value as a bit. -/
def b2n (b : Bool) : Nat := if b then 1 else 0

/-- Add, holding at the largest value of `bits` bits: the saturating counters of the manual. -/
def satAdd (nbits a b : Nat) : Nat := min (a + b) (2 ^ nbits - 1)

/-- The `n` bytes of a number, least significant first (the manual stores its tables little-endian). -/
def leBytes : Nat → Nat → List Byte
  | 0, _ => []
  | n + 1, v => BitVec.ofNat 8 v :: leBytes n (v / 256)

/-- The number whose bytes, least significant first, are given. -/
def leNum : List Byte → Nat
  | [] => 0
  | b :: t => b.toNat + 256 * leNum t

/-- Drop trailing zero bytes: data of a 4 KiB unit is held without them. -/
def trimZeros (l : List Byte) : List Byte := (l.reverse.dropWhile (· == 0)).reverse

/-- A byte string of exactly `n` bytes: cut, or followed by zeros. -/
def padTo (n : Nat) (l : List Byte) : List Byte := l.take n ++ List.replicate (n - l.length) 0

/-- The number in `n` bytes at an offset of a byte string, least significant first. -/
def numAt (l : List Byte) (off n : Nat) : Nat := leNum ((l.drop off).take n)

/-- A mask with the bit of each listed index set (R516). -/
def maskOf (l : List Nat) : Nat := l.foldl (fun a i => if bitOf a i then a else a + 2 ^ i) 0

/-- The indexes below `n` whose bits are set in a mask. -/
def bitsSet (n w : Nat) : List Nat := (List.range n).filter (bitOf w)

end Sys2Proof.Machine
end

