-- ==== Sys2Proof/Machine/Catalogue.lean ====
section
/-! DEFINITION. The catalogue of the recorder (R514, R515): the identifiers of the manual's event tables in ascending order,
whether the last item of each is a value, and whether the event is histogram only. -/

namespace Sys2Proof.Machine

/-- One line of the catalogue. -/
structure CatRow where
  id    : Nat
  value : Bool
  hist  : Bool
  deriving DecidableEq, Repr

/-- A line of the catalogue: v a value, h histogram only (R513, R515; log 8 gives the reading for each). -/
def cr (id v h : Nat) : CatRow := ⟨id, v = 1, h = 1⟩

/-- Catalogue, part 0. -/
def cat0 : List CatRow := [cr 0x1001 0 0, cr 0x1002 0 0, cr 0x1003 0 0, cr 0x1004 0 0, cr 0x1005 0 0, cr 0x1006 0 0, cr 0x1007 0 0, cr 0x1008 0 0, cr 0x1009 0 0, cr 0x100A 0 0, cr 0x1010 0 1, cr 0x1011 0 0, cr 0x1012 0 0, cr 0x1013 1 0, cr 0x1014 0 0, cr 0x1015 0 0, cr 0x1016 1 0, cr 0x2001 1 1, cr 0x2002 0 0, cr 0x2003 0 0, cr 0x2004 0 0, cr 0x2005 0 0, cr 0x2006 0 0, cr 0x2007 1 1, cr 0x2008 0 0, cr 0x2009 0 0, cr 0x200A 1 0, cr 0x200B 0 0, cr 0x200C 1 0, cr 0x200D 1 0, cr 0x200E 0 0, cr 0x200F 0 0]
/-- Catalogue, part 1. -/
def cat1 : List CatRow := [cr 0x2101 0 1, cr 0x2103 0 0, cr 0x2104 1 1, cr 0x2105 0 0, cr 0x2106 0 0, cr 0x2107 0 0, cr 0x2108 1 0, cr 0x2109 0 0, cr 0x3001 0 0, cr 0x3002 0 0, cr 0x3003 0 0, cr 0x3004 0 0, cr 0x3005 1 0, cr 0x3006 0 0, cr 0x3007 0 0, cr 0x3008 0 0, cr 0x3009 0 0, cr 0x300A 0 0, cr 0x300B 0 1, cr 0x300C 1 0, cr 0x300D 0 0, cr 0x3401 0 1, cr 0x3402 1 0, cr 0x3403 0 0, cr 0x3404 0 0, cr 0x3405 0 1, cr 0x3406 1 1, cr 0x3501 0 1, cr 0x3502 0 0, cr 0x3503 0 0, cr 0x3504 0 0, cr 0x3505 0 0]
/-- Catalogue, part 2. -/
def cat2 : List CatRow := [cr 0x3506 1 0, cr 0x3507 1 0, cr 0x3508 1 0, cr 0x3509 0 0, cr 0x350A 1 1, cr 0x350B 0 0, cr 0x350C 1 0, cr 0x350D 1 0, cr 0x4001 1 0, cr 0x4002 1 0, cr 0x4003 1 0, cr 0x4004 1 0, cr 0x4005 1 0, cr 0x4006 0 0, cr 0x4007 0 1, cr 0x4008 0 0, cr 0x4009 1 0, cr 0x400A 1 0, cr 0x400B 0 0, cr 0x400C 0 1, cr 0x400D 0 1, cr 0x400E 1 0, cr 0x400F 0 0, cr 0x4010 0 0, cr 0x4011 0 0, cr 0x5001 1 1, cr 0x5002 0 0, cr 0x5003 0 0, cr 0x5004 1 0, cr 0x5005 1 0, cr 0x5006 0 0, cr 0x5007 1 1]
/-- Catalogue, part 3. -/
def cat3 : List CatRow := [cr 0x5008 0 0, cr 0x5009 0 0, cr 0x500A 0 0, cr 0x500B 0 0, cr 0x500C 1 1, cr 0x500D 0 1, cr 0x500E 1 0, cr 0x500F 0 0, cr 0x5010 0 0, cr 0x6001 0 0, cr 0x6002 0 1, cr 0x6003 1 0, cr 0x6004 0 0, cr 0x6005 1 0, cr 0x6006 0 0, cr 0x7001 0 1, cr 0x7002 0 1, cr 0x7003 0 0, cr 0x7004 1 0, cr 0x7005 0 0, cr 0x7006 0 0, cr 0x7007 0 1, cr 0x7008 0 0, cr 0x7009 0 0, cr 0x700A 1 1, cr 0x700B 0 0, cr 0x700C 1 0, cr 0x8001 0 0, cr 0x8002 1 0, cr 0x8003 1 0, cr 0x8004 1 0, cr 0x8005 0 0]
/-- Catalogue, part 4. -/
def cat4 : List CatRow := [cr 0x8006 0 0, cr 0x8007 0 0, cr 0x8008 0 0, cr 0x8009 0 0, cr 0x9001 1 1, cr 0x9002 0 0, cr 0x9003 0 0, cr 0x9004 1 0, cr 0x9010 0 0, cr 0x9011 0 0, cr 0x9012 0 0, cr 0x9013 0 0, cr 0x9014 0 0, cr 0x9015 0 0, cr 0x9016 0 0, cr 0x9017 0 0, cr 0x9030 0 1, cr 0x9031 0 0, cr 0x9032 1 0, cr 0x9033 0 0, cr 0x9034 1 0, cr 0x9035 0 0, cr 0x9036 0 0, cr 0xA001 0 0, cr 0xA002 0 0, cr 0xA003 1 0, cr 0xA004 0 0, cr 0xA005 0 0, cr 0xA006 1 0, cr 0xA007 0 0, cr 0xA008 0 1, cr 0xA009 0 0]
/-- Catalogue, part 5. -/
def cat5 : List CatRow := [cr 0xA00A 0 0, cr 0xA00B 1 0, cr 0xA00C 1 0, cr 0xA00D 1 0, cr 0xA00E 0 0, cr 0xA102 1 0, cr 0xA103 1 0, cr 0xA104 1 0, cr 0xA105 1 0, cr 0xA106 0 0, cr 0xA107 0 0, cr 0xB001 0 0, cr 0xB002 0 0, cr 0xB003 1 1, cr 0xB004 0 0, cr 0xB005 0 0, cr 0xB006 0 0, cr 0xB007 0 0, cr 0xB008 0 0, cr 0xB009 0 0, cr 0xB00A 0 0]

/-- The catalogue in mask ROM (R514). -/
def catalogue : List CatRow := List.flatten [cat0, cat1, cat2, cat3, cat4, cat5]

/-- The index of an event's counter entry: its place in the catalogue, or 496 + class for firmware's codes (R514, R533). -/
def counterIndex (id : Nat) : Nat :=
  match catalogue.findIdx? fun r => r.id == id with
  | some i => i
  | none => 496 + id / 4096 % 16

/-- Whether the last item of an event is a value (R515); it is for firmware's codes. -/
def eventHasValue (id : Nat) : Bool := ((catalogue.find? fun r => r.id == id).map CatRow.value).getD true

/-- Whether an event makes no record (R513). -/
def histogramOnly (id : Nat) : Bool := ((catalogue.find? fun r => r.id == id).map CatRow.hist).getD false

end Sys2Proof.Machine
end

