-- ==== Sys2Proof/Machine/Fields.lean ====
section
/-! DEFINITION. The fields of the registers by the names of the manual: BLOCK_REGISTER_FIELD. -/

namespace Sys2Proof.Machine.F

abbrev SYS_ID_DEVICE : Fld := ⟨.sysId, 63, 48⟩
abbrev SYS_ID_STEPPING : Fld := ⟨.sysId, 47, 40⟩
abbrev SYS_ID_GRADE : Fld := ⟨.sysId, 39, 32⟩
abbrev SYS_ID_LOT_TAG : Fld := ⟨.sysId, 31, 0⟩
abbrev SYS_CAP_DRAM_CH : Fld := ⟨.sysCap, 47, 40⟩
abbrev SYS_CAP_HPORT : Fld := ⟨.sysCap, 39, 36⟩
abbrev SYS_CAP_FPORT : Fld := ⟨.sysCap, 35, 0⟩
abbrev SYS_CLKSTAT_SCLK_LOSS : Fld := ⟨.sysClkstat, 17, 17⟩
abbrev SYS_CLKSTAT_ACLK_LOSS : Fld := ⟨.sysClkstat, 16, 16⟩
abbrev SYS_CLKSTAT_DCLK_LOSS : Fld := ⟨.sysClkstat, 15, 8⟩
abbrev SYS_CLKSTAT_XCLK_LOSS : Fld := ⟨.sysClkstat, 7, 7⟩
abbrev SYS_CLKSTAT_CCLK_LOSS : Fld := ⟨.sysClkstat, 6, 6⟩
abbrev SYS_CLKSTAT_FCLK_LOSS : Fld := ⟨.sysClkstat, 5, 5⟩
abbrev SYS_CLKSTAT_HCLK_LOSS : Fld := ⟨.sysClkstat, 3, 0⟩
abbrev SYS_ACCERR_VALID : Fld := ⟨.sysAccerr, 63, 63⟩
abbrev SYS_ACCERR_CAUSE : Fld := ⟨.sysAccerr, 62, 60⟩
abbrev SYS_ACCERR_CORE : Fld := ⟨.sysAccerr, 55, 52⟩
abbrev SYS_ACCERR_ADDR : Fld := ⟨.sysAccerr, 47, 0⟩
abbrev SYS_SCRATCH_VALUE : Fld := ⟨.sysScratch, 63, 0⟩
abbrev BAR2_WIN_ID_DEVICE : Fld := ⟨.bar2WinId, 63, 48⟩
abbrev BAR2_WIN_ID_LAYOUT : Fld := ⟨.bar2WinId, 15, 8⟩
abbrev BAR2_WIN_ID_PF : Fld := ⟨.bar2WinId, 1, 0⟩
abbrev BAR2_ASG_CMD_GO : Fld := ⟨.bar2AsgCmd, 63, 63⟩
abbrev BAR2_ASG_CMD_INDEX : Fld := ⟨.bar2AsgCmd, 7, 0⟩
abbrev BAR2_ASG_STAT_BUSY : Fld := ⟨.bar2AsgStat, 63, 63⟩
abbrev BAR2_ASG_STAT_CODE : Fld := ⟨.bar2AsgStat, 11, 8⟩
abbrev BAR2_ASG_STAT_INDEX : Fld := ⟨.bar2AsgStat, 7, 0⟩
abbrev BAR2_MBX_DB_TO_HOST : Fld := ⟨.bar2MbxDb, 1, 1⟩
abbrev BAR2_MBX_DB_TO_FW : Fld := ⟨.bar2MbxDb, 0, 0⟩
abbrev BAR2_ASG_QT_TAG_MAX : Fld := ⟨.bar2AsgQt, 47, 32⟩
abbrev BAR2_ASG_QT_TAG_MIN : Fld := ⟨.bar2AsgQt, 31, 16⟩
abbrev BAR2_ASG_QT_IOQP : Fld := ⟨.bar2AsgQt, 11, 0⟩
abbrev BAR2_ASG_VN_NS_MAX : Fld := ⟨.bar2AsgVn, 24, 16⟩
abbrev BAR2_ASG_VN_VEC : Fld := ⟨.bar2AsgVn, 10, 0⟩
abbrev BAR2_ASG_PASID_EN : Fld := ⟨.bar2AsgPasid, 63, 63⟩
abbrev BAR2_ASG_PASID_PASID : Fld := ⟨.bar2AsgPasid, 19, 0⟩
abbrev HP_ANAST_STATE_0 : Fld := ⟨.hpAnast, 3, 0⟩
abbrev HP_ANAST_STATE_1 : Fld := ⟨.hpAnast, 7, 4⟩
abbrev HP_ANAST_STATE_2 : Fld := ⟨.hpAnast, 11, 8⟩
abbrev HP_ANAST_STATE_3 : Fld := ⟨.hpAnast, 15, 12⟩
abbrev HP_ANAST_STATE_4 : Fld := ⟨.hpAnast, 19, 16⟩
abbrev HP_ANAST_STATE_5 : Fld := ⟨.hpAnast, 23, 20⟩
abbrev HP_ANAST_STATE_6 : Fld := ⟨.hpAnast, 27, 24⟩
abbrev HP_ANAST_STATE_7 : Fld := ⟨.hpAnast, 31, 28⟩
abbrev HP_ANAST_STATE_8 : Fld := ⟨.hpAnast, 35, 32⟩
abbrev HP_ANAST_STATE_9 : Fld := ⟨.hpAnast, 39, 36⟩
abbrev HP_ANAST_STATE_10 : Fld := ⟨.hpAnast, 43, 40⟩
abbrev HP_ANAST_STATE_11 : Fld := ⟨.hpAnast, 47, 44⟩
abbrev HP_ANAST_STATE_12 : Fld := ⟨.hpAnast, 51, 48⟩
abbrev HP_ANAST_STATE_13 : Fld := ⟨.hpAnast, 55, 52⟩
abbrev HP_ANAST_STATE_14 : Fld := ⟨.hpAnast, 59, 56⟩
abbrev HP_ANAST_STATE_15 : Fld := ⟨.hpAnast, 63, 60⟩
abbrev HP_CTL_RETRAIN : Fld := ⟨.hpCtl, 10, 10⟩
abbrev HP_CTL_LINK_DIS : Fld := ⟨.hpCtl, 9, 9⟩
abbrev HP_CTL_CFG_RDY : Fld := ⟨.hpCtl, 8, 8⟩
abbrev HP_CTL_L0P_MIN : Fld := ⟨.hpCtl, 7, 6⟩
abbrev HP_CTL_TGT_SPEED : Fld := ⟨.hpCtl, 3, 0⟩
abbrev HP_LSTAT_L0P_WIDTH : Fld := ⟨.hpLstat, 31, 24⟩
abbrev HP_LSTAT_WIDTH : Fld := ⟨.hpLstat, 23, 16⟩
abbrev HP_LSTAT_MERGED : Fld := ⟨.hpLstat, 15, 15⟩
abbrev HP_LSTAT_FLIT : Fld := ⟨.hpLstat, 14, 14⟩
abbrev HP_LSTAT_LINK_UP : Fld := ⟨.hpLstat, 13, 13⟩
abbrev HP_LSTAT_DEGRADED : Fld := ⟨.hpLstat, 12, 12⟩
abbrev HP_LSTAT_SPEED : Fld := ⟨.hpLstat, 3, 0⟩
abbrev HP_FAULT_PORT_FENCED : Fld := ⟨.hpFault, 8, 8⟩
abbrev HP_FAULT_POISON_RX : Fld := ⟨.hpFault, 4, 4⟩
abbrev HP_FAULT_CPL_TIMEOUT : Fld := ⟨.hpFault, 3, 3⟩
abbrev HP_FAULT_IDE_FAIL : Fld := ⟨.hpFault, 2, 2⟩
abbrev HP_FAULT_DEGRADED : Fld := ⟨.hpFault, 1, 1⟩
abbrev HP_FAULT_LINK_DOWN : Fld := ⟨.hpFault, 0, 0⟩
abbrev HP_IDESTAT_INSECURE : Fld := ⟨.hpIdestat, 31, 16⟩
abbrev HP_IDESTAT_SECURE : Fld := ⟨.hpIdestat, 15, 0⟩
abbrev INTAKE_CTL_AB_MAX : Fld := ⟨.intakeCtl, 22, 16⟩
abbrev INTAKE_CTL_FETCH_EN : Fld := ⟨.intakeCtl, 0, 0⟩
abbrev INTAKE_TAGSTAT_BUSY : Fld := ⟨.intakeTagstat, 56, 40⟩
abbrev INTAKE_TAGSTAT_SHARED_FREE : Fld := ⟨.intakeTagstat, 39, 23⟩
abbrev INTAKE_TAGSTAT_ADMIN_FREE : Fld := ⟨.intakeTagstat, 22, 16⟩
abbrev INTAKE_TAGSTAT_STARVE : Fld := ⟨.intakeTagstat, 15, 0⟩
abbrev INTAKE_TMO_RESET_MS : Fld := ⟨.intakeTmo, 63, 32⟩
abbrev INTAKE_TMO_ADMIT_MS : Fld := ⟨.intakeTmo, 31, 0⟩
abbrev INTAKE_FWACT_DRAIN_REQ : Fld := ⟨.intakeFwact, 63, 63⟩
abbrev INTAKE_FWACT_DRAINED : Fld := ⟨.intakeFwact, 62, 62⟩
abbrev INTAKE_FWACT_RESUME : Fld := ⟨.intakeFwact, 61, 61⟩
abbrev INTAKE_FWACT_EXPIRED : Fld := ⟨.intakeFwact, 60, 60⟩
abbrev INTAKE_FWACT_DRAIN_LIMIT_MS : Fld := ⟨.intakeFwact, 47, 32⟩
abbrev INTAKE_FWACT_LAST_PAUSE_US : Fld := ⟨.intakeFwact, 31, 0⟩
abbrev INTAKE_ERRCNT_PRP_OFFSET : Fld := ⟨.intakeErrcnt, 63, 48⟩
abbrev INTAKE_ERRCNT_SGL_LENGTH : Fld := ⟨.intakeErrcnt, 47, 32⟩
abbrev INTAKE_ERRCNT_SGL_FORM : Fld := ⟨.intakeErrcnt, 31, 16⟩
abbrev INTAKE_ERRCNT_OVER_MDTS : Fld := ⟨.intakeErrcnt, 15, 0⟩
abbrev INTAKE_ABORTCNT_ABORTED : Fld := ⟨.intakeAbortcnt, 31, 16⟩
abbrev INTAKE_ABORTCNT_NOT_ABORTED : Fld := ⟨.intakeAbortcnt, 15, 0⟩
abbrev CONF_SLSTAT_PEAK : Fld := ⟨.confSlstat, 47, 32⟩
abbrev CONF_SLSTAT_WAITING : Fld := ⟨.confSlstat, 31, 16⟩
abbrev CONF_SLSTAT_CLAIMS : Fld := ⟨.confSlstat, 15, 0⟩
abbrev CONF_SEQ_NEXT : Fld := ⟨.confSeq, 63, 0⟩
abbrev CONF_CTL_SEQ_LOCK : Fld := ⟨.confCtl, 0, 0⟩
abbrev ZMAP_CTL_OPEN_AGE_H : Fld := ⟨.zmapCtl, 31, 16⟩
abbrev ZMAP_CTL_BIND_MS : Fld := ⟨.zmapCtl, 15, 0⟩
abbrev ZMAP_POOLRES_TARGET : Fld := ⟨.zmapPoolres, 51, 32⟩
abbrev ZMAP_POOLRES_LOW : Fld := ⟨.zmapPoolres, 19, 0⟩
abbrev ZMAP_POOLSTAT_LOW_HIT : Fld := ⟨.zmapPoolstat, 63, 63⟩
abbrev ZMAP_POOLSTAT_ERASE_Q : Fld := ⟨.zmapPoolstat, 51, 32⟩
abbrev ZMAP_POOLSTAT_ERASED : Fld := ⟨.zmapPoolstat, 19, 0⟩
abbrev ZMAP_ACTSTAT_MAR_SUM : Fld := ⟨.zmapActstat, 45, 32⟩
abbrev ZMAP_ACTSTAT_OPEN : Fld := ⟨.zmapActstat, 29, 16⟩
abbrev ZMAP_ACTSTAT_ACTIVE : Fld := ⟨.zmapActstat, 13, 0⟩
abbrev ZMAP_CONV_OP_EIGHTHS : Fld := ⟨.zmapConv, 55, 52⟩
abbrev ZMAP_CONV_MAP_BASE : Fld := ⟨.zmapConv, 47, 12⟩
abbrev ZMAP_CONV_LOCK : Fld := ⟨.zmapConv, 0, 0⟩
abbrev ZMAP_CONVCAP_USED_GIB : Fld := ⟨.zmapConvcap, 49, 32⟩
abbrev ZMAP_CONVCAP_LIMIT_GIB : Fld := ⟨.zmapConvcap, 17, 0⟩
abbrev ZMAP_ZTBASE_BASE : Fld := ⟨.zmapZtbase, 47, 12⟩
abbrev ZMAP_CKPT_PASS : Fld := ⟨.zmapCkpt, 63, 32⟩
abbrev ZMAP_CKPT_DIRTY_LIMIT : Fld := ⟨.zmapCkpt, 31, 16⟩
abbrev ZMAP_CKPT_PERIOD_S : Fld := ⟨.zmapCkpt, 15, 0⟩
abbrev ZMAP_CKPTLOW_JSN : Fld := ⟨.zmapCkptlow, 63, 0⟩
abbrev ZMAP_NSZ_ZONED : Fld := ⟨.zmapNsz, 63, 63⟩
abbrev ZMAP_NSZ_MOR : Fld := ⟨.zmapNsz, 29, 16⟩
abbrev ZMAP_NSZ_MAR : Fld := ⟨.zmapNsz, 13, 0⟩
abbrev LEDGER_CTL_LOCK : Fld := ⟨.ledgerCtl, 63, 63⟩
abbrev LEDGER_CTL_COMMIT_MAX_MIB : Fld := ⟨.ledgerCtl, 47, 32⟩
abbrev LEDGER_CTL_OPS_FLOOR_MJ : Fld := ⟨.ledgerCtl, 31, 16⟩
abbrev LEDGER_CTL_DERATE_EIGHTHS : Fld := ⟨.ledgerCtl, 3, 0⟩
abbrev LEDGER_FIXED_FIXED_MJ : Fld := ⟨.ledgerFixed, 15, 0⟩
abbrev LEDGER_CHG0_QLC_ERASE_UJ : Fld := ⟨.ledgerChg0, 51, 32⟩
abbrev LEDGER_CHG0_QLC_PRG_UJ : Fld := ⟨.ledgerChg0, 19, 0⟩
abbrev LEDGER_CHG1_SLC_ERASE_UJ : Fld := ⟨.ledgerChg1, 51, 32⟩
abbrev LEDGER_CHG1_SLC_PRG_UJ : Fld := ⟨.ledgerChg1, 19, 0⟩
abbrev LEDGER_ENERGY_NEED_MJ : Fld := ⟨.ledgerEnergy, 47, 32⟩
abbrev LEDGER_ENERGY_AVAIL_MJ : Fld := ⟨.ledgerEnergy, 15, 0⟩
abbrev LEDGER_STAT_FROZEN : Fld := ⟨.ledgerStat, 63, 63⟩
abbrev LEDGER_STAT_PF_COMMIT : Fld := ⟨.ledgerStat, 62, 62⟩
abbrev LEDGER_STAT_COMMIT_MIB : Fld := ⟨.ledgerStat, 47, 32⟩
abbrev LEDGER_STAT_ERASES : Fld := ⟨.ledgerStat, 31, 16⟩
abbrev LEDGER_STAT_PROGRAMS : Fld := ⟨.ledgerStat, 15, 0⟩
abbrev LEDGER_WAIT_COMMIT_WAITS : Fld := ⟨.ledgerWait, 63, 32⟩
abbrev LEDGER_WAIT_OP_WAITS : Fld := ⟨.ledgerWait, 31, 0⟩
abbrev LEDGER_PF_TPF_MAX_MS : Fld := ⟨.ledgerPf, 47, 32⟩
abbrev LEDGER_PF_LAND_DIES : Fld := ⟨.ledgerPf, 8, 0⟩
abbrev ZMAP_LAND_ROW_WAIT_US : Fld := ⟨.zmapLand, 47, 32⟩
abbrev ZMAP_LAND_SMALL_KIB : Fld := ⟨.zmapLand, 15, 0⟩
abbrev ZMAP_BASIN_FOLD_START_PCT : Fld := ⟨.zmapBasin, 55, 48⟩
abbrev ZMAP_BASIN_FREE_LOW_PCT : Fld := ⟨.zmapBasin, 47, 40⟩
abbrev ZMAP_BASIN_GATHER_US : Fld := ⟨.zmapBasin, 39, 32⟩
abbrev ZMAP_BASIN_CIST_PER_DIE : Fld := ⟨.zmapBasin, 4, 0⟩
abbrev ZMAP_BASINSTAT_LAND_RES : Fld := ⟨.zmapBasinstat, 47, 32⟩
abbrev ZMAP_BASINSTAT_USED_PCT : Fld := ⟨.zmapBasinstat, 31, 24⟩
abbrev ZMAP_BASINSTAT_FREE_PAIRS : Fld := ⟨.zmapBasinstat, 15, 0⟩
abbrev STRIPE_JCFG_PRG_RETRY : Fld := ⟨.stripeJcfg, 39, 32⟩
abbrev STRIPE_JCFG_BATCH_US : Fld := ⟨.stripeJcfg, 15, 0⟩
abbrev STRIPE_JSN_NEXT : Fld := ⟨.stripeJsn, 63, 0⟩
abbrev STRIPE_JSTAT_LAG_US : Fld := ⟨.stripeJstat, 63, 32⟩
abbrev STRIPE_JSTAT_FRAMES : Fld := ⟨.stripeJstat, 7, 0⟩
abbrev STRIPE_RETRY_LOCK : Fld := ⟨.stripeRetry, 63, 63⟩
abbrev STRIPE_RETRY_BASE : Fld := ⟨.stripeRetry, 47, 12⟩
abbrev STRIPE_RETRY_SIZE_GIB : Fld := ⟨.stripeRetry, 7, 0⟩
abbrev SCHED_CTL_D1_SPILL : Fld := ⟨.schedCtl, 3, 3⟩
abbrev SCHED_CTL_SPILL_EN : Fld := ⟨.schedCtl, 2, 2⟩
abbrev SCHED_CTL_D1_SUSP : Fld := ⟨.schedCtl, 1, 1⟩
abbrev SCHED_CTL_SUSP_EN : Fld := ⟨.schedCtl, 0, 0⟩
abbrev SCHED_DL_B_AGE_MS : Fld := ⟨.schedDl, 63, 48⟩
abbrev SCHED_DL_D1_SUSP_AGE_US : Fld := ⟨.schedDl, 47, 32⟩
abbrev SCHED_DL_D1_DL_US : Fld := ⟨.schedDl, 31, 16⟩
abbrev SCHED_DL_D0_DL_US : Fld := ⟨.schedDl, 15, 0⟩
abbrev SCHED_SUSP_B_SHARE : Fld := ⟨.schedSusp, 63, 56⟩
abbrev SCHED_SUSP_READS_PER_SUSP : Fld := ⟨.schedSusp, 47, 40⟩
abbrev SCHED_SUSP_ERS_SUSP_MAX : Fld := ⟨.schedSusp, 39, 32⟩
abbrev SCHED_SUSP_PRG_SUSP_MAX : Fld := ⟨.schedSusp, 31, 24⟩
abbrev SCHED_RUN_ERS_MIN_RUN_US : Fld := ⟨.schedRun, 63, 48⟩
abbrev SCHED_RUN_PRG_MIN_RUN_US : Fld := ⟨.schedRun, 47, 32⟩
abbrev SCHED_RUN_ERS_HOLD_US : Fld := ⟨.schedRun, 31, 16⟩
abbrev SCHED_RUN_PRG_HOLD_US : Fld := ⟨.schedRun, 15, 0⟩
abbrev SCHED_SPILL_INFLIGHT_MAX : Fld := ⟨.schedSpill, 63, 48⟩
abbrev SCHED_SPILL_MAX_PERMILLE : Fld := ⟨.schedSpill, 47, 40⟩
abbrev SCHED_SPILL_STALL_US : Fld := ⟨.schedSpill, 31, 24⟩
abbrev SCHED_SPILL_MARGIN_US : Fld := ⟨.schedSpill, 23, 16⟩
abbrev SCHED_SPILL_SERVICE_US : Fld := ⟨.schedSpill, 15, 8⟩
abbrev SCHED_STAT_SUSPENDED : Fld := ⟨.schedStat, 63, 48⟩
abbrev SCHED_STAT_SPILL_INFLIGHT : Fld := ⟨.schedStat, 47, 32⟩
abbrev SCHED_STAT_BLOCKED : Fld := ⟨.schedStat, 31, 16⟩
abbrev SCHED_CNT_SPILLS : Fld := ⟨.schedCnt, 63, 32⟩
abbrev SCHED_CNT_SUSPENDS : Fld := ⟨.schedCnt, 31, 0⟩
abbrev SCHED_CNT2_SPILL_CAPPED : Fld := ⟨.schedCnt2, 63, 32⟩
abbrev SCHED_CNT2_DL_MISS : Fld := ⟨.schedCnt2, 31, 0⟩
abbrev SCHED_LATCTL_SNAP : Fld := ⟨.schedLatctl, 0, 0⟩
abbrev SCHED_D0EN_EN : Fld := ⟨.schedD0en, 63, 0⟩
abbrev SCHED_LATBIN_COUNT : Fld := ⟨.schedLatbin, 47, 0⟩
abbrev SCHED_DIESTAT_STATE : Fld := ⟨.schedDiestat, 63, 60⟩
abbrev SCHED_DIESTAT_SUSP_COUNT : Fld := ⟨.schedDiestat, 59, 56⟩
abbrev SCHED_DIESTAT_D0_QUEUED : Fld := ⟨.schedDiestat, 55, 48⟩
abbrev SCHED_DIESTAT_QUEUED : Fld := ⟨.schedDiestat, 47, 32⟩
abbrev SCHED_DIESTAT_ELAPSED_US : Fld := ⟨.schedDiestat, 31, 0⟩
abbrev BINOR_CTL_FEC_THR : Fld := ⟨.binorCtl, 15, 8⟩
abbrev BINOR_CTL_PARK : Fld := ⟨.binorCtl, 4, 4⟩
abbrev BINOR_CTL_FORCE_X1 : Fld := ⟨.binorCtl, 3, 3⟩
abbrev BINOR_CTL_FAST_RETRAIN : Fld := ⟨.binorCtl, 2, 2⟩
abbrev BINOR_CTL_FULL_TRAIN : Fld := ⟨.binorCtl, 1, 1⟩
abbrev BINOR_CTL_EN : Fld := ⟨.binorCtl, 0, 0⟩
abbrev BINOR_STAT_LOST : Fld := ⟨.binorStat, 31, 31⟩
abbrev BINOR_STAT_LOST_CAUSE : Fld := ⟨.binorStat, 30, 28⟩
abbrev BINOR_STAT_PARKED : Fld := ⟨.binorStat, 24, 24⟩
abbrev BINOR_STAT_RX_X1 : Fld := ⟨.binorStat, 23, 23⟩
abbrev BINOR_STAT_RX_LANE : Fld := ⟨.binorStat, 22, 22⟩
abbrev BINOR_STAT_TX_X1 : Fld := ⟨.binorStat, 21, 21⟩
abbrev BINOR_STAT_TX_LANE : Fld := ⟨.binorStat, 20, 20⟩
abbrev BINOR_STAT_FAIL_STATE : Fld := ⟨.binorStat, 11, 8⟩
abbrev BINOR_STAT_STATE : Fld := ⟨.binorStat, 3, 0⟩
abbrev BINOR_BRID_INC : Fld := ⟨.binorBrid, 63, 32⟩
abbrev BINOR_BRID_ID : Fld := ⟨.binorBrid, 31, 0⟩
abbrev BINOR_BRCAP_CHUNK_LEN : Fld := ⟨.binorBrcap, 63, 32⟩
abbrev BINOR_BRCAP_CAP : Fld := ⟨.binorBrcap, 31, 0⟩
abbrev BINOR_ERR_FEC_CORR1 : Fld := ⟨.binorErr, 63, 48⟩
abbrev BINOR_ERR_FEC_CORR0 : Fld := ⟨.binorErr, 47, 32⟩
abbrev BINOR_ERR_CRC_FAIL : Fld := ⟨.binorErr, 31, 16⟩
abbrev BINOR_ERR_REPLAYS : Fld := ⟨.binorErr, 15, 0⟩
abbrev BINOR_ERR2_DEGRADES : Fld := ⟨.binorErr2, 47, 32⟩
abbrev BINOR_ERR2_FAST_RETRAINS : Fld := ⟨.binorErr2, 31, 16⟩
abbrev BINOR_ERR2_HB_GAP_MAX : Fld := ⟨.binorErr2, 7, 0⟩
abbrev BINOR_CRED_REG_FREE : Fld := ⟨.binorCred, 50, 48⟩
abbrev BINOR_CRED_CHUNK_FREE : Fld := ⟨.binorCred, 43, 32⟩
abbrev BINOR_CMDQ_FREE_0 : Fld := ⟨.binorCmdq, 5, 0⟩
abbrev BINOR_CMDQ_FREE_1 : Fld := ⟨.binorCmdq, 11, 6⟩
abbrev BINOR_CMDQ_FREE_2 : Fld := ⟨.binorCmdq, 17, 12⟩
abbrev BINOR_CMDQ_FREE_3 : Fld := ⟨.binorCmdq, 23, 18⟩
abbrev BINOR_CMDQ_FREE_4 : Fld := ⟨.binorCmdq, 29, 24⟩
abbrev BINOR_CMDQ_FREE_5 : Fld := ⟨.binorCmdq, 35, 30⟩
abbrev BINOR_CMDQ_FREE_6 : Fld := ⟨.binorCmdq, 41, 36⟩
abbrev BINOR_CMDQ_FREE_7 : Fld := ⟨.binorCmdq, 47, 42⟩
abbrev BINOR_EQ_BTX1 : Fld := ⟨.binorEq, 15, 12⟩
abbrev BINOR_EQ_BTX0 : Fld := ⟨.binorEq, 11, 8⟩
abbrev BINOR_EQ_TX1 : Fld := ⟨.binorEq, 7, 4⟩
abbrev BINOR_EQ_TX0 : Fld := ⟨.binorEq, 3, 0⟩
abbrev BINOR_TEMP_VALID : Fld := ⟨.binorTemp, 63, 63⟩
abbrev BINOR_TEMP_ALARM : Fld := ⟨.binorTemp, 62, 62⟩
abbrev BINOR_TEMP_AGE_MS : Fld := ⟨.binorTemp, 47, 32⟩
abbrev BINOR_TEMP_VALUE : Fld := ⟨.binorTemp, 15, 0⟩
abbrev SEQ_CTL_LOCK : Fld := ⟨.seqCtl, 63, 63⟩
abbrev SEQ_CTL_FDQ_EN : Fld := ⟨.seqCtl, 1, 1⟩
abbrev SEQ_CTL_EN : Fld := ⟨.seqCtl, 0, 0⟩
abbrev SEQ_PROF_LOADED : Fld := ⟨.seqProf, 63, 63⟩
abbrev SEQ_PROF_BLOCKS : Fld := ⟨.seqProf, 47, 32⟩
abbrev SEQ_PROF_VERSION : Fld := ⟨.seqProf, 31, 16⟩
abbrev SEQ_PROF_PROFILE_ID : Fld := ⟨.seqProf, 15, 0⟩
abbrev SEQ_FDQ_BASE : Fld := ⟨.seqFdq, 47, 12⟩
abbrev SEQ_FDQ_SIZE : Fld := ⟨.seqFdq, 2, 0⟩
abbrev SEQ_FDQ_PTR_HEAD : Fld := ⟨.seqFdqPtr, 43, 32⟩
abbrev SEQ_FDQ_PTR_TAIL : Fld := ⟨.seqFdqPtr, 11, 0⟩
abbrev SEQ_FCQ_BASE : Fld := ⟨.seqFcq, 47, 12⟩
abbrev SEQ_FCQ_PTR_TAIL : Fld := ⟨.seqFcqPtr, 43, 32⟩
abbrev SEQ_FCQ_PTR_HEAD : Fld := ⟨.seqFcqPtr, 11, 0⟩
abbrev SEQ_BST_BASE : Fld := ⟨.seqBst, 47, 12⟩
abbrev SEQ_BSTCMD_GO : Fld := ⟨.seqBstcmd, 63, 63⟩
abbrev SEQ_BSTCMD_BUSY : Fld := ⟨.seqBstcmd, 62, 62⟩
abbrev SEQ_BSTCMD_OP : Fld := ⟨.seqBstcmd, 61, 60⟩
abbrev SEQ_BSTCMD_OWNER : Fld := ⟨.seqBstcmd, 59, 56⟩
abbrev SEQ_BSTCMD_RESULT : Fld := ⟨.seqBstcmd, 55, 54⟩
abbrev SEQ_BSTCMD_SCH : Fld := ⟨.seqBstcmd, 30, 28⟩
abbrev SEQ_BSTCMD_DIE : Fld := ⟨.seqBstcmd, 27, 24⟩
abbrev SEQ_BSTCMD_BLOCK : Fld := ⟨.seqBstcmd, 11, 0⟩
abbrev SEQ_TMO_FRAME_US : Fld := ⟨.seqTmo, 15, 0⟩
abbrev SEQ_STAT_FCQ_IRQ : Fld := ⟨.seqStat, 63, 63⟩
abbrev SEQ_STAT_FCQ_FULL : Fld := ⟨.seqStat, 62, 62⟩
abbrev SEQ_STAT_FAULTED : Fld := ⟨.seqStat, 47, 32⟩
abbrev SEQ_STAT_IN_FLIGHT : Fld := ⟨.seqStat, 9, 0⟩
abbrev SEQ_DIECLR_GO : Fld := ⟨.seqDieclr, 63, 63⟩
abbrev SEQ_DIECLR_SCH : Fld := ⟨.seqDieclr, 6, 4⟩
abbrev SEQ_DIECLR_DIE : Fld := ⟨.seqDieclr, 3, 0⟩
abbrev SEQ_CNT_PRG_FAIL : Fld := ⟨.seqCnt, 63, 48⟩
abbrev SEQ_CNT_ERS_FAIL : Fld := ⟨.seqCnt, 47, 32⟩
abbrev SEQ_CNT_REJECT : Fld := ⟨.seqCnt, 31, 16⟩
abbrev SEQ_CNT_NOT_ERASED : Fld := ⟨.seqCnt, 15, 0⟩
abbrev SEQ_CNT2_DIE_TMO : Fld := ⟨.seqCnt2, 63, 48⟩
abbrev SEQ_CNT2_FRAME_LOST : Fld := ⟨.seqCnt2, 47, 32⟩
abbrev SEQ_CNT2_COLD : Fld := ⟨.seqCnt2, 31, 16⟩
abbrev SEQ_CNT2_RE_ERASE : Fld := ⟨.seqCnt2, 15, 0⟩
abbrev LDPC_CTL_SOFT_ITER : Fld := ⟨.ldpcCtl, 23, 16⟩
abbrev LDPC_CTL_HARD_ITER : Fld := ⟨.ldpcCtl, 15, 8⟩
abbrev LDPC_CTL_HINT_EN : Fld := ⟨.ldpcCtl, 0, 0⟩
abbrev LDPC_ESC_B_MAX : Fld := ⟨.ldpcEsc, 31, 28⟩
abbrev LDPC_ESC_D1_MAX : Fld := ⟨.ldpcEsc, 27, 24⟩
abbrev LDPC_ESC_D0_MAX : Fld := ⟨.ldpcEsc, 23, 20⟩
abbrev LDPC_ESC_SWEEP_STEPS : Fld := ⟨.ldpcEsc, 7, 0⟩
abbrev LDPC_THR_REFRESH_BITS : Fld := ⟨.ldpcThr, 15, 0⟩
abbrev LDPC_CNT_HARD_FAIL : Fld := ⟨.ldpcCnt, 63, 48⟩
abbrev LDPC_CNT_SOFT_OK : Fld := ⟨.ldpcCnt, 47, 32⟩
abbrev LDPC_CNT_MEDIA_UNCORR : Fld := ⟨.ldpcCnt, 31, 16⟩
abbrev LDPC_CNT_MISCORRECT : Fld := ⟨.ldpcCnt, 15, 0⟩
abbrev LDPC_CNT2_DECODED : Fld := ⟨.ldpcCnt2, 63, 32⟩
abbrev LDPC_CNT2_ADDR_MISMATCH : Fld := ⟨.ldpcCnt2, 31, 16⟩
abbrev LDPC_SOFTSTAT_QUEUED : Fld := ⟨.ldpcSoftstat, 31, 16⟩
abbrev LDPC_SOFTSTAT_BUSY : Fld := ⟨.ldpcSoftstat, 4, 0⟩
abbrev LDPC_HINT_SLC : Fld := ⟨.ldpcHint, 39, 32⟩
abbrev LDPC_HINT_TOP : Fld := ⟨.ldpcHint, 31, 24⟩
abbrev LDPC_HINT_UPPER : Fld := ⟨.ldpcHint, 23, 16⟩
abbrev LDPC_HINT_MIDDLE : Fld := ⟨.ldpcHint, 15, 8⟩
abbrev LDPC_HINT_LOWER : Fld := ⟨.ldpcHint, 7, 0⟩
abbrev PATROL_CTL_RESTART_DAYS : Fld := ⟨.patrolCtl, 23, 16⟩
abbrev PATROL_CTL_LAP_DAYS : Fld := ⟨.patrolCtl, 15, 8⟩
abbrev PATROL_CTL_EN : Fld := ⟨.patrolCtl, 0, 0⟩
abbrev PATROL_LAP_LAP : Fld := ⟨.patrolLap, 63, 32⟩
abbrev PATROL_LAP_PROGRESS : Fld := ⟨.patrolLap, 15, 0⟩
abbrev PATROL_STAT_BEHIND : Fld := ⟨.patrolStat, 63, 63⟩
abbrev PATROL_STAT_RESTART : Fld := ⟨.patrolStat, 62, 62⟩
abbrev PATROL_STAT_LAST_LAP_H : Fld := ⟨.patrolStat, 47, 32⟩
abbrev PATROL_STAT_ELAPSED_H : Fld := ⟨.patrolStat, 31, 16⟩
abbrev PATROL_CNT_PAGES : Fld := ⟨.patrolCnt, 63, 32⟩
abbrev PATROL_CNT_MARKS : Fld := ⟨.patrolCnt, 31, 16⟩
abbrev PATROL_CNT_SKIPPED : Fld := ⟨.patrolCnt, 15, 0⟩
abbrev PATROL_SCAN_ACTIVE : Fld := ⟨.patrolScan, 63, 63⟩
abbrev PATROL_SCAN_KIND : Fld := ⟨.patrolScan, 62, 60⟩
abbrev PATROL_SCAN_SEGMENT : Fld := ⟨.patrolScan, 47, 16⟩
abbrev PATROL_SCAN_PROGRESS : Fld := ⟨.patrolScan, 15, 0⟩
abbrev RECLAIM_CTL_PIN_WARN_MS : Fld := ⟨.reclaimCtl, 63, 48⟩
abbrev RECLAIM_CTL_PARALLEL : Fld := ⟨.reclaimCtl, 23, 16⟩
abbrev RECLAIM_CTL_AUTO : Fld := ⟨.reclaimCtl, 0, 0⟩
abbrev RECLAIM_W_AGE_CAP_H : Fld := ⟨.reclaimW, 63, 48⟩
abbrev RECLAIM_W_W_WEAR : Fld := ⟨.reclaimW, 23, 16⟩
abbrev RECLAIM_W_W_AGE : Fld := ⟨.reclaimW, 15, 8⟩
abbrev RECLAIM_W_W_INV : Fld := ⟨.reclaimW, 7, 0⟩
abbrev RECLAIM_STAT_ACTIVE : Fld := ⟨.reclaimStat, 63, 48⟩
abbrev RECLAIM_STAT_REFRESH_Q : Fld := ⟨.reclaimStat, 47, 32⟩
abbrev RECLAIM_STAT_URGENT_Q : Fld := ⟨.reclaimStat, 31, 16⟩
abbrev RECLAIM_CNT_UNITS_COPIED : Fld := ⟨.reclaimCnt, 63, 32⟩
abbrev RECLAIM_CNT_DISCARDED : Fld := ⟨.reclaimCnt, 31, 16⟩
abbrev RECLAIM_CNT_REDIRECTS : Fld := ⟨.reclaimCnt, 15, 0⟩
abbrev RECLAIM_CMD_GO : Fld := ⟨.reclaimCmd, 63, 63⟩
abbrev RECLAIM_CMD_BUSY : Fld := ⟨.reclaimCmd, 62, 62⟩
abbrev RECLAIM_CMD_RESULT : Fld := ⟨.reclaimCmd, 59, 56⟩
abbrev RECLAIM_CMD_POOL : Fld := ⟨.reclaimCmd, 23, 0⟩
abbrev STRIPE_CTL_LOCK : Fld := ⟨.stripeCtl, 63, 63⟩
abbrev STRIPE_CTL_CRIT_AUTO : Fld := ⟨.stripeCtl, 2, 2⟩
abbrev STRIPE_CTL_RB_AUTO : Fld := ⟨.stripeCtl, 1, 1⟩
abbrev STRIPE_CTL_RB_PAUSE : Fld := ⟨.stripeCtl, 0, 0⟩
abbrev STRIPE_PT_BASE : Fld := ⟨.stripePt, 47, 12⟩
abbrev STRIPE_PTCNT_COUNT : Fld := ⟨.stripePtcnt, 19, 0⟩
abbrev STRIPE_LAYOUT_BASE : Fld := ⟨.stripeLayout, 47, 12⟩
abbrev STRIPE_LAYOUT_NPAT : Fld := ⟨.stripeLayout, 11, 0⟩
abbrev STRIPE_PTCMD_GO : Fld := ⟨.stripePtcmd, 63, 63⟩
abbrev STRIPE_PTCMD_BUSY : Fld := ⟨.stripePtcmd, 62, 62⟩
abbrev STRIPE_PTCMD_OP : Fld := ⟨.stripePtcmd, 61, 60⟩
abbrev STRIPE_PTCMD_RESULT : Fld := ⟨.stripePtcmd, 59, 56⟩
abbrev STRIPE_PTCMD_POOL : Fld := ⟨.stripePtcmd, 19, 0⟩
abbrev STRIPE_RBCMD_GO : Fld := ⟨.stripeRbcmd, 63, 63⟩
abbrev STRIPE_RBCMD_BUSY : Fld := ⟨.stripeRbcmd, 62, 62⟩
abbrev STRIPE_RBCMD_OP : Fld := ⟨.stripeRbcmd, 61, 60⟩
abbrev STRIPE_RBCMD_RESULT : Fld := ⟨.stripeRbcmd, 59, 56⟩
abbrev STRIPE_RBCMD_MEMBER : Fld := ⟨.stripeRbcmd, 21, 16⟩
abbrev STRIPE_RBCMD_SCH : Fld := ⟨.stripeRbcmd, 14, 12⟩
abbrev STRIPE_RBCMD_DIE : Fld := ⟨.stripeRbcmd, 11, 8⟩
abbrev STRIPE_RBRATE_CRIT_MBS : Fld := ⟨.stripeRbrate, 63, 32⟩
abbrev STRIPE_RBRATE_TARGET_MBS : Fld := ⟨.stripeRbrate, 31, 0⟩
abbrev STRIPE_RBSTAT_STATE : Fld := ⟨.stripeRbstat, 63, 60⟩
abbrev STRIPE_RBSTAT_DEG_MAX : Fld := ⟨.stripeRbstat, 59, 58⟩
abbrev STRIPE_RBSTAT_ETA_S : Fld := ⟨.stripeRbstat, 31, 0⟩
abbrev STRIPE_RBPROG_SLOTS_TOTAL : Fld := ⟨.stripeRbprog, 63, 32⟩
abbrev STRIPE_RBPROG_SLOTS_DONE : Fld := ⟨.stripeRbprog, 31, 0⟩
abbrev STRIPE_CRIT_CRIT_ROWS : Fld := ⟨.stripeCrit, 63, 32⟩
abbrev STRIPE_CRIT_NO_SPARE : Fld := ⟨.stripeCrit, 31, 0⟩
abbrev STRIPE_MEMSTAT_LOST : Fld := ⟨.stripeMemstat, 35, 0⟩
abbrev STRIPE_CNT_DEG_READS : Fld := ⟨.stripeCnt, 63, 32⟩
abbrev STRIPE_CNT_PQ_RECOV : Fld := ⟨.stripeCnt, 31, 16⟩
abbrev STRIPE_CNT_ROWS_LOST : Fld := ⟨.stripeCnt, 15, 0⟩
abbrev STRIPE_JMIR_REMIRROR : Fld := ⟨.stripeJmir, 63, 63⟩
abbrev STRIPE_JMIR_MIR2 : Fld := ⟨.stripeJmir, 53, 48⟩
abbrev STRIPE_JMIR_MIR1 : Fld := ⟨.stripeJmir, 45, 40⟩
abbrev STRIPE_JMIR_MIR0 : Fld := ⟨.stripeJmir, 37, 32⟩
abbrev STRIPE_JMIR_RETAIN_MIB : Fld := ⟨.stripeJmir, 15, 0⟩
abbrev DIGEST_ALLOC_GO : Fld := ⟨.digestAlloc, 63, 63⟩
abbrev DIGEST_ALLOC_VALID : Fld := ⟨.digestAlloc, 62, 62⟩
abbrev DIGEST_ALLOC_NO_CONTEXT : Fld := ⟨.digestAlloc, 61, 61⟩
abbrev DIGEST_ALLOC_CTX : Fld := ⟨.digestAlloc, 3, 0⟩
abbrev DIGEST_CTXMAP_OWNER_0 : Fld := ⟨.digestCtxmap, 3, 0⟩
abbrev DIGEST_CTXMAP_OWNER_1 : Fld := ⟨.digestCtxmap, 7, 4⟩
abbrev DIGEST_CTXMAP_OWNER_2 : Fld := ⟨.digestCtxmap, 11, 8⟩
abbrev DIGEST_CTXMAP_OWNER_3 : Fld := ⟨.digestCtxmap, 15, 12⟩
abbrev DIGEST_CTXMAP_OWNER_4 : Fld := ⟨.digestCtxmap, 19, 16⟩
abbrev DIGEST_CTXMAP_OWNER_5 : Fld := ⟨.digestCtxmap, 23, 20⟩
abbrev DIGEST_CTXMAP_OWNER_6 : Fld := ⟨.digestCtxmap, 27, 24⟩
abbrev DIGEST_CTXMAP_OWNER_7 : Fld := ⟨.digestCtxmap, 31, 28⟩
abbrev DIGEST_CTXMAP_OWNER_8 : Fld := ⟨.digestCtxmap, 35, 32⟩
abbrev DIGEST_CTXMAP_OWNER_9 : Fld := ⟨.digestCtxmap, 39, 36⟩
abbrev DIGEST_CTXMAP_OWNER_10 : Fld := ⟨.digestCtxmap, 43, 40⟩
abbrev DIGEST_CTXMAP_OWNER_11 : Fld := ⟨.digestCtxmap, 47, 44⟩
abbrev DIGEST_CTXMAP_OWNER_12 : Fld := ⟨.digestCtxmap, 51, 48⟩
abbrev DIGEST_CTXMAP_OWNER_13 : Fld := ⟨.digestCtxmap, 55, 52⟩
abbrev DIGEST_CTXMAP_OWNER_14 : Fld := ⟨.digestCtxmap, 59, 56⟩
abbrev DIGEST_CTXMAP_OWNER_15 : Fld := ⟨.digestCtxmap, 63, 60⟩
abbrev DIGEST_CTXUSE_ALLOCATED : Fld := ⟨.digestCtxuse, 15, 0⟩
abbrev DIGEST_SEALSTAT_LANES_BUSY : Fld := ⟨.digestSealstat, 63, 56⟩
abbrev DIGEST_SEALSTAT_BACKLOG_MIB : Fld := ⟨.digestSealstat, 31, 0⟩
abbrev DIGEST_SEALCNT_STORED : Fld := ⟨.digestSealcnt, 63, 32⟩
abbrev DIGEST_SEALCNT_VERIFIED : Fld := ⟨.digestSealcnt, 31, 16⟩
abbrev DIGEST_SEALCNT_MISMATCH : Fld := ⟨.digestSealcnt, 15, 0⟩
abbrev DIGEST_CTL_START : Fld := ⟨.digestCtl, 63, 63⟩
abbrev DIGEST_CTL_FINAL : Fld := ⟨.digestCtl, 62, 62⟩
abbrev DIGEST_CTL_RELEASE : Fld := ⟨.digestCtl, 61, 61⟩
abbrev DIGEST_CTL_SRC_DMA : Fld := ⟨.digestCtl, 60, 60⟩
abbrev DIGEST_CTL_DEST_USAGE : Fld := ⟨.digestCtl, 59, 52⟩
abbrev DIGEST_CTL_DEST_SLOT : Fld := ⟨.digestCtl, 41, 32⟩
abbrev DIGEST_CTL_DEST_EN : Fld := ⟨.digestCtl, 31, 31⟩
abbrev DIGEST_CTL_KEY_SLOT : Fld := ⟨.digestCtl, 25, 16⟩
abbrev DIGEST_CTL_HMAC : Fld := ⟨.digestCtl, 4, 4⟩
abbrev DIGEST_CTL_ALGO : Fld := ⟨.digestCtl, 3, 0⟩
abbrev DIGEST_LEN_DECL_LEN : Fld := ⟨.digestLen, 47, 0⟩
abbrev DIGEST_DATA_WORD : Fld := ⟨.digestData, 63, 0⟩
abbrev DIGEST_STAT_BUSY : Fld := ⟨.digestStat, 63, 63⟩
abbrev DIGEST_STAT_DONE : Fld := ⟨.digestStat, 62, 62⟩
abbrev DIGEST_STAT_TRUNC : Fld := ⟨.digestStat, 61, 61⟩
abbrev DIGEST_STAT_SHORT : Fld := ⟨.digestStat, 60, 60⟩
abbrev DIGEST_STAT_OVERRUN : Fld := ⟨.digestStat, 59, 59⟩
abbrev DIGEST_STAT_ERR : Fld := ⟨.digestStat, 58, 58⟩
abbrev DIGEST_STAT_ERR_CAUSE : Fld := ⟨.digestStat, 55, 52⟩
abbrev DIGEST_STAT_RECEIVED : Fld := ⟨.digestStat, 47, 0⟩
abbrev DIGEST_SRC_ADDR : Fld := ⟨.digestSrc, 47, 0⟩
abbrev DIGEST_RESULT_VALUE : Fld := ⟨.digestResult, 63, 0⟩
abbrev KEYS_STAGE_KEY : Fld := ⟨.keysStage, 63, 0⟩
abbrev KEYS_CMD_GO : Fld := ⟨.keysCmd, 63, 63⟩
abbrev KEYS_CMD_BUSY : Fld := ⟨.keysCmd, 62, 62⟩
abbrev KEYS_CMD_OP : Fld := ⟨.keysCmd, 61, 58⟩
abbrev KEYS_CMD_RESULT : Fld := ⟨.keysCmd, 57, 54⟩
abbrev KEYS_CMD_USAGE : Fld := ⟨.keysCmd, 47, 40⟩
abbrev KEYS_CMD_TYPE : Fld := ⟨.keysCmd, 39, 36⟩
abbrev KEYS_CMD_LEN : Fld := ⟨.keysCmd, 35, 34⟩
abbrev KEYS_CMD_HANDLE : Fld := ⟨.keysCmd, 29, 16⟩
abbrev KEYS_CMD_SLOT : Fld := ⟨.keysCmd, 9, 0⟩
abbrev KEYS_WTBL_LOCK : Fld := ⟨.keysWtbl, 63, 63⟩
abbrev KEYS_WTBL_BASE : Fld := ⟨.keysWtbl, 47, 12⟩
abbrev KEYS_CACHE_MISSES : Fld := ⟨.keysCache, 63, 32⟩
abbrev KEYS_CACHE_WAITS : Fld := ⟨.keysCache, 31, 16⟩
abbrev KEYS_CACHE_IN_USE : Fld := ⟨.keysCache, 9, 0⟩
abbrev KEYS_SLOTINFO_VALID : Fld := ⟨.keysSlotinfo, 63, 63⟩
abbrev KEYS_SLOTINFO_PINNED : Fld := ⟨.keysSlotinfo, 62, 62⟩
abbrev KEYS_SLOTINFO_REFCOUNT : Fld := ⟨.keysSlotinfo, 61, 48⟩
abbrev KEYS_SLOTINFO_USAGE : Fld := ⟨.keysSlotinfo, 47, 40⟩
abbrev KEYS_SLOTINFO_TYPE : Fld := ⟨.keysSlotinfo, 39, 36⟩
abbrev KEYS_SLOTINFO_LEN : Fld := ⟨.keysSlotinfo, 35, 34⟩
abbrev KEYS_SLOTINFO_HANDLE : Fld := ⟨.keysSlotinfo, 29, 16⟩
abbrev XTS_NSCFG_EN : Fld := ⟨.xtsNscfg, 63, 63⟩
abbrev XTS_NSCFG_HANDLE : Fld := ⟨.xtsNscfg, 13, 0⟩
abbrev TENANT_PFCAP_TAG_CAP : Fld := ⟨.tenantPfcap, 47, 32⟩
abbrev TENANT_PFCAP_VEC_CAP : Fld := ⟨.tenantPfcap, 31, 16⟩
abbrev TENANT_PFCAP_QP_CAP : Fld := ⟨.tenantPfcap, 15, 0⟩
abbrev TENANT_MIG_DRAIN_MS : Fld := ⟨.tenantMig, 15, 0⟩
abbrev TENANT_CNT_FREEZES : Fld := ⟨.tenantCnt, 63, 48⟩
abbrev TENANT_CNT_RESTORES : Fld := ⟨.tenantCnt, 47, 32⟩
abbrev TENANT_CNT_REFUSED : Fld := ⟨.tenantCnt, 31, 16⟩
abbrev TENANT_CNT_FENCES : Fld := ⟨.tenantCnt, 15, 0⟩
abbrev TENANT_FNCMD_GO : Fld := ⟨.tenantFncmd, 63, 63⟩
abbrev TENANT_FNCMD_BUSY : Fld := ⟨.tenantFncmd, 62, 62⟩
abbrev TENANT_FNCMD_OP : Fld := ⟨.tenantFncmd, 61, 60⟩
abbrev TENANT_FNCMD_RESULT : Fld := ⟨.tenantFncmd, 59, 58⟩
abbrev TENANT_FNCMD_FN : Fld := ⟨.tenantFncmd, 9, 0⟩
abbrev TENANT_MIGCMD_GO : Fld := ⟨.tenantMigcmd, 63, 63⟩
abbrev TENANT_MIGCMD_BUSY : Fld := ⟨.tenantMigcmd, 62, 62⟩
abbrev TENANT_MIGCMD_OP : Fld := ⟨.tenantMigcmd, 59, 56⟩
abbrev TENANT_MIGCMD_REASON : Fld := ⟨.tenantMigcmd, 55, 48⟩
abbrev TENANT_MIGCMD_RESULT : Fld := ⟨.tenantMigcmd, 47, 44⟩
abbrev TENANT_MIGCMD_TAG : Fld := ⟨.tenantMigcmd, 31, 16⟩
abbrev TENANT_MIGCMD_FN : Fld := ⟨.tenantMigcmd, 9, 0⟩
abbrev TENANT_EPOCH_VALUE : Fld := ⟨.tenantEpoch, 31, 0⟩
abbrev TENANT_FNCFG_ANY : Fld := ⟨.tenantFncfg, 63, 63⟩
abbrev TENANT_FNCFG_COMPAT : Fld := ⟨.tenantFncfg, 62, 62⟩
abbrev TENANT_FNCFG_TENANT : Fld := ⟨.tenantFncfg, 11, 0⟩
abbrev TENANT_FNSTAT_FENCED : Fld := ⟨.tenantFnstat, 63, 63⟩
abbrev TENANT_FNSTAT_FENCE_CAUSE : Fld := ⟨.tenantFnstat, 62, 60⟩
abbrev TENANT_FNSTAT_MSTATE : Fld := ⟨.tenantFnstat, 59, 56⟩
abbrev TENANT_FNSTAT_GEN : Fld := ⟨.tenantFnstat, 55, 52⟩
abbrev TENANT_FNSTAT_SAVE_GEN : Fld := ⟨.tenantFnstat, 47, 32⟩
abbrev TENANT_FNSTAT_TRAILING : Fld := ⟨.tenantFnstat, 31, 16⟩
abbrev TENANT_FNSTAT_TAGS : Fld := ⟨.tenantFnstat, 15, 0⟩
abbrev TENANT_NSCFG_TENANT : Fld := ⟨.tenantNscfg, 11, 0⟩
abbrev DRC_GEOM_CAP_GIB : Fld := ⟨.drcGeom, 55, 48⟩
abbrev DRC_GEOM_ROWS : Fld := ⟨.drcGeom, 47, 30⟩
abbrev DRC_GEOM_LRANKS : Fld := ⟨.drcGeom, 23, 20⟩
abbrev DRC_GEOM_PRANKS : Fld := ⟨.drcGeom, 19, 16⟩
abbrev DRC_GEOM_DENSITY : Fld := ⟨.drcGeom, 15, 12⟩
abbrev DRC_GEOM_WIDTH : Fld := ⟨.drcGeom, 11, 8⟩
abbrev DRC_GEOM_TRAINED : Fld := ⟨.drcGeom, 0, 0⟩
abbrev DRC_QOS_OPEN_NS : Fld := ⟨.drcQos, 63, 48⟩
abbrev DRC_QOS_BW_AGE_NS : Fld := ⟨.drcQos, 47, 32⟩
abbrev DRC_QOS_HIT_CAP : Fld := ⟨.drcQos, 31, 24⟩
abbrev DRC_QOS_WR_HI : Fld := ⟨.drcQos, 23, 16⟩
abbrev DRC_QOS_WR_LO : Fld := ⟨.drcQos, 15, 8⟩
abbrev DRC_REF_FORCED : Fld := ⟨.drcRef, 47, 32⟩
abbrev DRC_REF_POSTPONED : Fld := ⟨.drcRef, 31, 16⟩
abbrev DRC_REF_OWED_MAX : Fld := ⟨.drcRef, 11, 8⟩
abbrev DRC_REF_LIMIT : Fld := ⟨.drcRef, 7, 4⟩
abbrev DRC_REF_X2 : Fld := ⟨.drcRef, 0, 0⟩
abbrev DRC_TRAIN_PERIOD_MS : Fld := ⟨.drcTrain, 63, 48⟩
abbrev DRC_TRAIN_TEMP_DELTA : Fld := ⟨.drcTrain, 47, 40⟩
abbrev DRC_TRAIN_WINDOWS : Fld := ⟨.drcTrain, 39, 32⟩
abbrev DRC_TRAIN_DISCARDED : Fld := ⟨.drcTrain, 31, 16⟩
abbrev DRC_TRAIN_ROUNDS : Fld := ⟨.drcTrain, 15, 0⟩
abbrev DRC_OP_REQ : Fld := ⟨.drcOp, 63, 63⟩
abbrev DRC_OP_BUSY : Fld := ⟨.drcOp, 62, 62⟩
abbrev DRC_OP_CUR : Fld := ⟨.drcOp, 60, 60⟩
abbrev DRC_OP_TARGET : Fld := ⟨.drcOp, 59, 59⟩
abbrev DRC_OP_LAST_NS : Fld := ⟨.drcOp, 31, 16⟩
abbrev DRC_OP_MAX_NS : Fld := ⟨.drcOp, 15, 0⟩
abbrev DRC_PAR_FAILED : Fld := ⟨.drcPar, 63, 63⟩
abbrev DRC_PAR_REPLAYS : Fld := ⟨.drcPar, 31, 16⟩
abbrev DRC_PAR_ALERTS : Fld := ⟨.drcPar, 15, 0⟩
abbrev DRC_ECC_CE : Fld := ⟨.drcEcc, 63, 32⟩
abbrev DRC_ECC_UE : Fld := ⟨.drcEcc, 31, 16⟩
abbrev DRC_ECC_POISON_W : Fld := ⟨.drcEcc, 15, 0⟩
abbrev DRC_UEADDR_VALID : Fld := ⟨.drcUeaddr, 63, 63⟩
abbrev DRC_UEADDR_SRC : Fld := ⟨.drcUeaddr, 62, 60⟩
abbrev DRC_UEADDR_ADDR : Fld := ⟨.drcUeaddr, 39, 0⟩
abbrev DRC_SCRUB_MIN_NS : Fld := ⟨.drcScrub, 63, 48⟩
abbrev DRC_SCRUB_LAST_LAP_S : Fld := ⟨.drcScrub, 31, 16⟩
abbrev DRC_SCRUB_PROGRESS : Fld := ⟨.drcScrub, 15, 0⟩
abbrev DRC_RET_BANK_SPARE_EN : Fld := ⟨.drcRet, 63, 63⟩
abbrev DRC_RET_BANK_PAGES : Fld := ⟨.drcRet, 47, 40⟩
abbrev DRC_RET_CE_PAGE_THR : Fld := ⟨.drcRet, 39, 32⟩
abbrev DRC_RET_BANK_STATE : Fld := ⟨.drcRet, 23, 16⟩
abbrev DRC_RET_PAGES_USED : Fld := ⟨.drcRet, 7, 0⟩
abbrev DRC_RETCMD_GO : Fld := ⟨.drcRetcmd, 63, 63⟩
abbrev DRC_RETCMD_BUSY : Fld := ⟨.drcRetcmd, 62, 62⟩
abbrev DRC_RETCMD_OP : Fld := ⟨.drcRetcmd, 61, 60⟩
abbrev DRC_RETCMD_RESULT : Fld := ⟨.drcRetcmd, 59, 58⟩
abbrev DRC_RETCMD_ADDR : Fld := ⟨.drcRetcmd, 39, 0⟩
abbrev DRC_SELFTEST_MODE : Fld := ⟨.drcSelftest, 63, 62⟩
abbrev DRC_SELFTEST_PASS : Fld := ⟨.drcSelftest, 61, 61⟩
abbrev DRC_SELFTEST_DURATION_MS : Fld := ⟨.drcSelftest, 47, 32⟩
abbrev DRC_SELFTEST_PPR : Fld := ⟨.drcSelftest, 31, 16⟩
abbrev DRC_SELFTEST_FAIL_PAGES : Fld := ⟨.drcSelftest, 15, 0⟩
abbrev DRC_SPARE_LOCK : Fld := ⟨.drcSpare, 63, 63⟩
abbrev DRC_SPARE_BASE : Fld := ⟨.drcSpare, 47, 16⟩
abbrev DRC_SPARE_SIZE_MIB : Fld := ⟨.drcSpare, 15, 0⟩
abbrev DRC_REMAP_STATE : Fld := ⟨.drcRemap, 63, 62⟩
abbrev DRC_REMAP_PAGE : Fld := ⟨.drcRemap, 39, 13⟩
abbrev RESV_PFLVL_HYST_10MV : Fld := ⟨.resvPflvl, 55, 48⟩
abbrev RESV_PFLVL_HOLD_MS : Fld := ⟨.resvPflvl, 47, 32⟩
abbrev RESV_PFLVL_RESET_MV : Fld := ⟨.resvPflvl, 31, 16⟩
abbrev RESV_PFLVL_WARN_MV : Fld := ⟨.resvPflvl, 15, 0⟩
abbrev RESV_PFSTAT_WARN : Fld := ⟨.resvPfstat, 63, 63⟩
abbrev RESV_PFSTAT_WINDOW : Fld := ⟨.resvPfstat, 62, 62⟩
abbrev RESV_PFSTAT_MIN_MV : Fld := ⟨.resvPfstat, 47, 32⟩
abbrev RESV_PFSTAT_RIDDEN : Fld := ⟨.resvPfstat, 31, 16⟩
abbrev RESV_PFSTAT_WARNINGS : Fld := ⟨.resvPfstat, 15, 0⟩
abbrev RESV_RCFG_VCHG_10MV : Fld := ⟨.resvRcfg, 63, 48⟩
abbrev RESV_RCFG_VMIN_10MV : Fld := ⟨.resvRcfg, 47, 32⟩
abbrev RESV_RCFG_IMAX_100MA : Fld := ⟨.resvRcfg, 31, 24⟩
abbrev RESV_RCFG_VS_DIV : Fld := ⟨.resvRcfg, 23, 16⟩
abbrev RESV_RCFG_IS_MA_PER_MV : Fld := ⟨.resvRcfg, 15, 0⟩
abbrev RESV_CTL_LOCK : Fld := ⟨.resvCtl, 63, 63⟩
abbrev RESV_CTL_TEST_PERIOD_H : Fld := ⟨.resvCtl, 15, 8⟩
abbrev RESV_CTL_TEST_NOW : Fld := ⟨.resvCtl, 7, 7⟩
abbrev RESV_CTL_CHG_EN : Fld := ⟨.resvCtl, 1, 1⟩
abbrev RESV_RCFG2_EMIN_MJ : Fld := ⟨.resvRcfg2, 47, 32⟩
abbrev RESV_RCFG2_ESR_MAX_MOHM : Fld := ⟨.resvRcfg2, 31, 24⟩
abbrev RESV_RCFG2_CHG_TMO_S : Fld := ⟨.resvRcfg2, 23, 16⟩
abbrev RESV_RCFG2_TEST_DROP_MV : Fld := ⟨.resvRcfg2, 15, 0⟩
abbrev RESV_TRES_VALID : Fld := ⟨.resvTres, 63, 63⟩
abbrev RESV_TRES_PASS : Fld := ⟨.resvTres, 62, 62⟩
abbrev RESV_TRES_ESR : Fld := ⟨.resvTres, 47, 32⟩
abbrev RESV_TRES_C_UF : Fld := ⟨.resvTres, 31, 0⟩
abbrev RESV_TTIME_CYCLES : Fld := ⟨.resvTtime, 55, 32⟩
abbrev RESV_TTIME_TIME : Fld := ⟨.resvTtime, 31, 0⟩
abbrev RESV_RSTAT_CHARGED : Fld := ⟨.resvRstat, 63, 63⟩
abbrev RESV_RSTAT_TESTING : Fld := ⟨.resvRstat, 62, 62⟩
abbrev RESV_RSTAT_SWITCHED_IN : Fld := ⟨.resvRstat, 61, 61⟩
abbrev RESV_RSTAT_CHG_FAULT : Fld := ⟨.resvRstat, 60, 60⟩
abbrev RESV_RSTAT_E_FULL_MJ : Fld := ⟨.resvRstat, 47, 32⟩
abbrev RESV_RSTAT_VRES_10MV : Fld := ⟨.resvRstat, 31, 16⟩
abbrev RESV_RSTAT_E_NOW_MJ : Fld := ⟨.resvRstat, 15, 0⟩
abbrev RESV_TLIM_TRIP_Q : Fld := ⟨.resvTlim, 63, 48⟩
abbrev RESV_TLIM_FAN_FORCE_Q : Fld := ⟨.resvTlim, 47, 32⟩
abbrev RESV_TLIM_THROTTLE_Q : Fld := ⟨.resvTlim, 31, 16⟩
abbrev RESV_TLIM_PROG_MIN_Q : Fld := ⟨.resvTlim, 15, 0⟩
abbrev RESV_FAN_FORCED : Fld := ⟨.resvFan, 63, 63⟩
abbrev RESV_FAN_WDOG_MS : Fld := ⟨.resvFan, 47, 32⟩
abbrev RESV_FAN_PWM_KHZ : Fld := ⟨.resvFan, 23, 16⟩
abbrev RESV_FAN_DUTY : Fld := ⟨.resvFan, 7, 0⟩
abbrev RESV_HEAT_ACTIVE : Fld := ⟨.resvHeat, 63, 63⟩
abbrev RESV_HEAT_CUT : Fld := ⟨.resvHeat, 62, 62⟩
abbrev RESV_HEAT_AUTO : Fld := ⟨.resvHeat, 56, 56⟩
abbrev RESV_HEAT_CUT_Q : Fld := ⟨.resvHeat, 47, 32⟩
abbrev RESV_HEAT_AUTO_DUTY : Fld := ⟨.resvHeat, 15, 8⟩
abbrev RESV_HEAT_DUTY : Fld := ⟨.resvHeat, 7, 0⟩
abbrev RESV_DIFF_DV_CLAMP : Fld := ⟨.resvDiff, 63, 63⟩
abbrev RESV_DIFF_DT_HOLD : Fld := ⟨.resvDiff, 62, 62⟩
abbrev RESV_DIFF_DT_MAX_Q : Fld := ⟨.resvDiff, 47, 32⟩
abbrev RESV_DIFF_DV_MAX_MV : Fld := ⟨.resvDiff, 15, 0⟩
abbrev RESV_DTS_VALID : Fld := ⟨.resvDts, 63, 63⟩
abbrev RESV_DTS_VALUE : Fld := ⟨.resvDts, 15, 0⟩
abbrev SLUICE_BUDGET_FLASH_MW : Fld := ⟨.sluiceBudget, 31, 0⟩
abbrev SLUICE_COST_PRG_QLC_MW : Fld := ⟨.sluiceCost, 63, 48⟩
abbrev SLUICE_COST_PRG_SLC_MW : Fld := ⟨.sluiceCost, 47, 32⟩
abbrev SLUICE_COST_ERASE_MW : Fld := ⟨.sluiceCost, 31, 16⟩
abbrev SLUICE_COST_SOFT_MW : Fld := ⟨.sluiceCost, 15, 0⟩
abbrev SLUICE_COST2_REBUILD_MW : Fld := ⟨.sluiceCost2, 15, 0⟩
abbrev SLUICE_CTL_B_MAX_PCT : Fld := ⟨.sluiceCtl, 7, 0⟩
abbrev SLUICE_STAT_FACTOR_PCT : Fld := ⟨.sluiceStat, 63, 56⟩
abbrev SLUICE_STAT_IN_USE_MW : Fld := ⟨.sluiceStat, 55, 32⟩
abbrev SLUICE_STAT_EFFECTIVE_MW : Fld := ⟨.sluiceStat, 31, 0⟩
abbrev PWR_DOM_WAKE_CAUSE : Fld := ⟨.pwrDom, 55, 48⟩
abbrev PWR_DOM_WAKE_AT_ENTRY : Fld := ⟨.pwrDom, 47, 47⟩
abbrev PWR_DOM_RET_LOST : Fld := ⟨.pwrDom, 46, 46⟩
abbrev PWR_DOM_REFUSE : Fld := ⟨.pwrDom, 43, 40⟩
abbrev PWR_DOM_OWNER : Fld := ⟨.pwrDom, 35, 32⟩
abbrev PWR_DOM_WAKEEN : Fld := ⟨.pwrDom, 23, 16⟩
abbrev PWR_DOM_WAKE : Fld := ⟨.pwrDom, 4, 4⟩
abbrev PWR_DOM_ARM : Fld := ⟨.pwrDom, 3, 2⟩
abbrev PWR_DOM_STATE : Fld := ⟨.pwrDom, 1, 0⟩
abbrev PWR_TIMER_EXPIRED : Fld := ⟨.pwrTimer, 63, 63⟩
abbrev PWR_TIMER_EN : Fld := ⟨.pwrTimer, 62, 62⟩
abbrev PWR_TIMER_COUNT : Fld := ⟨.pwrTimer, 31, 0⟩
abbrev PWR_EDGE_MI : Fld := ⟨.pwrEdge, 2, 2⟩
abbrev PWR_EDGE_LINK : Fld := ⟨.pwrEdge, 1, 1⟩
abbrev PWR_EDGE_PERST : Fld := ⟨.pwrEdge, 0, 0⟩
abbrev PWR_RETSTAT_CORRECTED : Fld := ⟨.pwrRetstat, 47, 32⟩
abbrev PWR_RETSTAT_KEYS : Fld := ⟨.pwrRetstat, 13, 13⟩
abbrev PWR_RETSTAT_CTX : Fld := ⟨.pwrRetstat, 12, 12⟩
abbrev PWR_RETSTAT_TCM : Fld := ⟨.pwrRetstat, 11, 8⟩
abbrev PWR_RETSTAT_SB : Fld := ⟨.pwrRetstat, 7, 0⟩
abbrev PWR_CNT_ENTRIES : Fld := ⟨.pwrCnt, 63, 32⟩
abbrev PWR_CNT_REFUSED : Fld := ⟨.pwrCnt, 31, 16⟩
abbrev PWR_PINS_PERST_L : Fld := ⟨.pwrPins, 3, 0⟩
abbrev EVW_CUR_SOURCE : Fld := ⟨.evwCur, 63, 62⟩
abbrev EVW_CUR_GO : Fld := ⟨.evwCur, 61, 61⟩
abbrev EVW_CUR_IMAGE : Fld := ⟨.evwCur, 55, 48⟩
abbrev EVW_CUR_CURSOR : Fld := ⟨.evwCur, 47, 0⟩
abbrev EVW_STAT_READY : Fld := ⟨.evwStat, 63, 63⟩
abbrev EVW_STAT_FLAGS : Fld := ⟨.evwStat, 55, 48⟩
abbrev EVW_STAT_ENTRIES : Fld := ⟨.evwStat, 7, 0⟩
abbrev EVW_NEXT_NEXT : Fld := ⟨.evwNext, 63, 0⟩
abbrev EVREC_CTL_BB_CLS : Fld := ⟨.evrecCtl, 63, 48⟩
abbrev EVREC_CTL_FLUSH_CLS : Fld := ⟨.evrecCtl, 47, 32⟩
abbrev EVREC_CTL_FLUSH_MS : Fld := ⟨.evrecCtl, 31, 16⟩
abbrev EVREC_CTL_FLUSH_MIN_MS : Fld := ⟨.evrecCtl, 15, 0⟩
abbrev EVREC_CFG_COUNTER_S : Fld := ⟨.evrecCfg, 63, 48⟩
abbrev EVREC_CFG_FIRST_CIST : Fld := ⟨.evrecCfg, 3, 0⟩
abbrev EVREC_AUTH_LOCK : Fld := ⟨.evrecAuth, 63, 63⟩
abbrev EVREC_AUTH_SLOT : Fld := ⟨.evrecAuth, 9, 0⟩
abbrev EVREC_NONCE_VALUE : Fld := ⟨.evrecNonce, 63, 0⟩
abbrev EVREC_STAT_LOG_FULL : Fld := ⟨.evrecStat, 63, 63⟩
abbrev EVREC_STAT_STAGING_FULL : Fld := ⟨.evrecStat, 62, 62⟩
abbrev EVREC_STAT_DROPPED : Fld := ⟨.evrecStat, 47, 32⟩
abbrev EVREC_STAT_LOG_USED_PCT : Fld := ⟨.evrecStat, 31, 24⟩
abbrev EVREC_STAT_STAGED_BYTES : Fld := ⟨.evrecStat, 17, 0⟩
abbrev EVREC_RSN_NEXT : Fld := ⟨.evrecRsn, 63, 0⟩
abbrev EVREC_TIME_CYCLES : Fld := ⟨.evrecTime, 55, 32⟩
abbrev EVREC_TIME_TIME : Fld := ⟨.evrecTime, 31, 0⟩
abbrev EVREC_CLRCMD_GO : Fld := ⟨.evrecClrcmd, 63, 63⟩
abbrev EVREC_CLRCMD_BUSY : Fld := ⟨.evrecClrcmd, 62, 62⟩
abbrev EVREC_CLRCMD_RESULT : Fld := ⟨.evrecClrcmd, 59, 56⟩
abbrev EVREC_CLRCMD_TAG : Fld := ⟨.evrecClrcmd, 15, 0⟩
abbrev EVREC_POST_GO : Fld := ⟨.evrecPost, 63, 63⟩
abbrev EVREC_POST_REFUSED : Fld := ⟨.evrecPost, 62, 62⟩
abbrev EVREC_POST_ITEMS : Fld := ⟨.evrecPost, 19, 16⟩
abbrev EVREC_POST_ID : Fld := ⟨.evrecPost, 15, 0⟩
abbrev EVREC_PDATA_ITEM : Fld := ⟨.evrecPdata, 63, 0⟩
abbrev SYS_RSTCAUSE_PREV : Fld := ⟨.sysRstcause, 7, 4⟩
abbrev SYS_RSTCAUSE_CAUSE : Fld := ⟨.sysRstcause, 3, 0⟩
abbrev SYS_BOOT_HANDOFF : Fld := ⟨.sysBoot, 63, 63⟩
abbrev SYS_BOOT_FHL : Fld := ⟨.sysBoot, 62, 62⟩
abbrev SYS_BOOT_FALLBACK : Fld := ⟨.sysBoot, 61, 61⟩
abbrev SYS_BOOT_INIT : Fld := ⟨.sysBoot, 58, 58⟩
abbrev SYS_BOOT_SLOT : Fld := ⟨.sysBoot, 57, 56⟩
abbrev SYS_BOOT_FAIL_CAUSE : Fld := ⟨.sysBoot, 15, 8⟩
abbrev SYS_BOOT_STAGE : Fld := ⟨.sysBoot, 7, 0⟩
abbrev SYS_WDOG_LOCK : Fld := ⟨.sysWdog, 63, 63⟩
abbrev SYS_WDOG_KICK : Fld := ⟨.sysWdog, 62, 62⟩
abbrev SYS_WDOG_TIMEOUT_MS : Fld := ⟨.sysWdog, 31, 0⟩
abbrev SYS_LOCKSTEP_RETIRED : Fld := ⟨.sysLockstep, 47, 32⟩
abbrev SYS_LOCKSTEP_RESTARTS : Fld := ⟨.sysLockstep, 31, 16⟩
abbrev SYS_LOCKSTEP_MISMATCH : Fld := ⟨.sysLockstep, 15, 0⟩
abbrev SYS_FWACT_GO : Fld := ⟨.sysFwact, 63, 63⟩
abbrev SYS_FWACT_BUSY : Fld := ⟨.sysFwact, 62, 62⟩
abbrev SYS_FWACT_RESULT : Fld := ⟨.sysFwact, 61, 60⟩
abbrev SYS_FWACT_SLOT : Fld := ⟨.sysFwact, 59, 58⟩
abbrev SYS_FWACT_STAGE : Fld := ⟨.sysFwact, 47, 12⟩
abbrev SYS_RST_WARM : Fld := ⟨.sysRst, 0, 0⟩
abbrev SYS_SVN_BURN : Fld := ⟨.sysSvn, 63, 63⟩
abbrev SYS_SVN_VALUE : Fld := ⟨.sysSvn, 39, 32⟩
abbrev SYS_SVN_FUSED : Fld := ⟨.sysSvn, 7, 0⟩
abbrev SYS_CWDOG_EN : Fld := ⟨.sysCwdog, 63, 63⟩
abbrev SYS_CWDOG_KICK : Fld := ⟨.sysCwdog, 62, 62⟩
abbrev SYS_CWDOG_TIMEOUT_US : Fld := ⟨.sysCwdog, 31, 0⟩

end Sys2Proof.Machine.F
end

