-- ==== Sys2Proof/Machine/Locks.lean ====
section
/-! DEFINITION. Which lock bit holds which RWL field (R8), as the tables of spec/ name them. -/

namespace Sys2Proof.Machine

/-- The lock bit of the RWL fields of a register (R8). -/
def lockOf : RegId → Option Fld
  | .confSeq => some F.CONF_CTL_SEQ_LOCK
  | .zmapConv => some F.ZMAP_CONV_LOCK
  | .zmapZtbase => some F.ZMAP_CONV_LOCK
  | .ledgerFixed => some F.LEDGER_CTL_LOCK
  | .ledgerChg0 => some F.LEDGER_CTL_LOCK
  | .ledgerChg1 => some F.LEDGER_CTL_LOCK
  | .zmapBasin => some F.ZMAP_CONV_LOCK
  | .stripeRetry => some F.STRIPE_RETRY_LOCK
  | .seqFdq => some F.SEQ_CTL_LOCK
  | .seqFcq => some F.SEQ_CTL_LOCK
  | .seqBst => some F.SEQ_CTL_LOCK
  | .stripePt => some F.STRIPE_CTL_LOCK
  | .stripePtcnt => some F.STRIPE_CTL_LOCK
  | .stripeLayout => some F.STRIPE_CTL_LOCK
  | .keysWtbl => some F.KEYS_WTBL_LOCK
  | .drcRet => some F.DRC_SPARE_LOCK
  | .drcSpare => some F.DRC_SPARE_LOCK
  | .resvRcfg => some F.RESV_CTL_LOCK
  | .resvRcfg2 => some F.RESV_CTL_LOCK
  | .evrecCfg => some F.EVREC_AUTH_LOCK
  | .evrecAuth => some F.EVREC_AUTH_LOCK
  | .sysWdog => some F.SYS_WDOG_LOCK
  | _ => none

/-- The index of the lock bit's register: the sequencer locks are per port, the others are one per device. -/
def lockIndex (r : RegId) (idx : Nat) : Nat :=
  match r with
  | .seqFdq | .seqFcq | .seqBst => idx
  | .drcRet => 0
  | _ => 0

end Sys2Proof.Machine
end

