-- ==== Sys2Proof/Config.lean ====
section
/-! DEFINITION. What the manual names without fixing: values drawn at random, fixed functions it does not state, and the
cryptographic and code functions of standards outside it. Each is an opaque constant, so no proof can lean on a value. -/

namespace Sys2Proof.Config

/-- A free value: what the manual leaves open or draws from the TRNG (R405, R426, R530). The state's counter `fresh`
picks the next one (log 2). -/
opaque freeValue : Nat → BitVec 64

/-- The fixed hash of R20: the confluence slice of a granule of a namespace (taken modulo 32) (log 3). -/
opaque sliceHash : Nat → Nat → Nat

/-- CRC-32C, which checks the recorder's blocks, journal frames and images (log 4). -/
opaque crc32c : List (BitVec 8) → BitVec 32

/-- A hash of the FIPS 180-4 and FIPS 202 families by the algorithm code of the register that selects it (log 4). -/
opaque hashFn : Nat → List (BitVec 8) → List (BitVec 8)

/-- HMAC-SHA-256 of a message under a key (log 4). -/
opaque hmac256 : List (BitVec 8) → List (BitVec 8) → List (BitVec 8)

/-- HMAC by algorithm code, key and message, for the contexts of the digest engine (log 4). -/
opaque hmacAlg : Nat → List (BitVec 8) → List (BitVec 8) → List (BitVec 8)

/-- AES key wrap under a wrapping key with an initial value (R406), and its inverse, which may fail its integrity check (log 4). -/
opaque aesWrap : List (BitVec 8) → List (BitVec 8) → List (BitVec 8) → List (BitVec 8)
opaque aesUnwrap : List (BitVec 8) → List (BitVec 8) → List (BitVec 8) → Option (List (BitVec 8))

/-- The device root key of the fuses (R404) (log 4). -/
opaque rootKey : List (BitVec 8)

/-- AES-256-XTS encryption of a unit under a key and a tweak, and its inverse (log 4). -/
opaque xtsEncrypt : List (BitVec 8) → Nat → List (BitVec 8) → List (BitVec 8)
opaque xtsDecrypt : List (BitVec 8) → Nat → List (BitVec 8) → List (BitVec 8)

/-- The signature check of R539: key, image bytes, signature (log 4). -/
opaque sigOk : List (BitVec 8) → List (BitVec 8) → List (BitVec 8) → Bool

/-- The protection-information check of a unit (R98, R126): LBA format, PRINFO, LBA, bytes; 0 passes, 1 guard, 2 application tag,
3 reference tag (log 4). -/
opaque piCheck : Nat → Nat → Nat → List (BitVec 8) → Nat

/-- The guard of an LBA's data in a format with protection information (R126, R154) (log 4). -/
opaque piGuard : Nat → List (BitVec 8) → List (BitVec 8)

/-- Where a recorder cistern lies: area, copy and turn give die × 4096 + block. The manual asks for distinct members and dies
(R520) and does not say which (log 5). -/
opaque recorderCistern : Nat → Nat → Nat → Nat

/-- The vendor key hash of the fuses (R539) (log 4). -/
opaque vendorKeyHash : List (BitVec 8)

/-- The die profile section of an image, whose byte layout the manual does not give (R284): its numbers in the order of the table, and its
lists: 0 FEATURES, 1 ID_MATCH, 2 the status encoding, 3 and 4 sizes of the retry and soft offsets, 5 opcodes (log 4). -/
opaque profileFields : List (BitVec 8) → List Nat
opaque profileList : Nat → List (BitVec 8) → List Nat

/-- The ROM's opcode list for an interface, and PARAM_SET addresses that set timing, trim or bad-block marks (R284) (log 4). -/
opaque romOpcodes : Nat → List Nat
opaque barredFeature : Nat → Bool

/-- Whether the DRAM section of an image asks for the QUICK self-test (R465) (log 4). -/
opaque quickTest : List (BitVec 8) → Bool

/-- STRIPE_RBSTAT.ETA_S at a rate of 0 for the data still to rebuild (R363 divides by the rate) (log 2). -/
opaque etaNoRate : Nat → BitVec 32

end Sys2Proof.Config
end

