-- ==== Sys2Proof/Machine/Regs.lean ====
section
/-! DEFINITION. The register tables of the manual: the place, the fields, the types and the reset values of every register.
Each line is a line of a table of spec/ (the section file is named beside the register in RegId.lean). -/

namespace Sys2Proof.Machine

/-- The place and the reset domain of each register (R35 and the tables of spec/). -/
def regPlace : RegId → RegPlace
  | .sysId => ⟨0xF000000000, 1, 0x0, 1, 0, .por, false⟩
  | .sysCap => ⟨0xF000000008, 1, 0x0, 1, 0, .por, false⟩
  | .sysClkstat => ⟨0xF000000010, 1, 0x0, 1, 0, .por, false⟩
  | .sysAccerr => ⟨0xF000000018, 1, 0x0, 1, 0, .warm, false⟩
  | .sysScratch => ⟨0xF000000020, 1, 0x0, 1, 0, .warm, false⟩
  | .bar2WinId => ⟨0x0, 4, 0x0, 1, 0, .por, true⟩
  | .bar2AsgCmd => ⟨0x10, 4, 0x0, 1, 0, .func, true⟩
  | .bar2AsgStat => ⟨0x18, 4, 0x0, 1, 0, .func, true⟩
  | .bar2MbxDb => ⟨0x20, 4, 0x0, 1, 0, .func, true⟩
  | .bar2AsgQt => ⟨0x1000, 4, 0x0, 256, 64, .warm, true⟩
  | .bar2AsgVn => ⟨0x1008, 4, 0x0, 256, 64, .warm, true⟩
  | .bar2AsgPasid => ⟨0x1010, 4, 0x0, 256, 64, .warm, true⟩
  | .hpAnast => ⟨0xF000201000, 4, 0x40000, 64, 8, .por, false⟩
  | .hpCtl => ⟨0xF000200000, 4, 0x40000, 1, 0, .warm, false⟩
  | .hpLstat => ⟨0xF000200008, 4, 0x40000, 1, 0, .warm, false⟩
  | .hpFault => ⟨0xF000200010, 4, 0x40000, 1, 0, .warm, false⟩
  | .hpIdestat => ⟨0xF000200018, 4, 0x40000, 1, 0, .warm, false⟩
  | .intakeCtl => ⟨0xF000400000, 1, 0x0, 1, 0, .warm, false⟩
  | .intakeTagstat => ⟨0xF000400008, 1, 0x0, 1, 0, .warm, false⟩
  | .intakeTmo => ⟨0xF000400010, 1, 0x0, 1, 0, .warm, false⟩
  | .intakeFwact => ⟨0xF000400018, 1, 0x0, 1, 0, .warm, false⟩
  | .intakeErrcnt => ⟨0xF000400020, 1, 0x0, 1, 0, .warm, false⟩
  | .intakeAbortcnt => ⟨0xF000400028, 1, 0x0, 1, 0, .warm, false⟩
  | .confSlstat => ⟨0xF000500000, 1, 0x0, 32, 8, .warm, false⟩
  | .confSeq => ⟨0xF000500100, 1, 0x0, 1, 0, .warm, false⟩
  | .confCtl => ⟨0xF000500108, 1, 0x0, 1, 0, .warm, false⟩
  | .zmapCtl => ⟨0xF000600000, 1, 0x0, 1, 0, .warm, false⟩
  | .zmapPoolres => ⟨0xF000600008, 1, 0x0, 1, 0, .warm, false⟩
  | .zmapPoolstat => ⟨0xF000600010, 1, 0x0, 1, 0, .warm, false⟩
  | .zmapActstat => ⟨0xF000600018, 1, 0x0, 1, 0, .warm, false⟩
  | .zmapConv => ⟨0xF000600020, 1, 0x0, 1, 0, .warm, false⟩
  | .zmapConvcap => ⟨0xF000600028, 1, 0x0, 1, 0, .warm, false⟩
  | .zmapZtbase => ⟨0xF000600030, 1, 0x0, 1, 0, .warm, false⟩
  | .zmapCkpt => ⟨0xF000600038, 1, 0x0, 1, 0, .warm, false⟩
  | .zmapCkptlow => ⟨0xF000600040, 1, 0x0, 1, 0, .warm, false⟩
  | .zmapNsz => ⟨0xF000601000, 1, 0x0, 8192, 8, .warm, false⟩
  | .ledgerCtl => ⟨0xF000700000, 1, 0x0, 1, 0, .warm, false⟩
  | .ledgerFixed => ⟨0xF000700008, 1, 0x0, 1, 0, .warm, false⟩
  | .ledgerChg0 => ⟨0xF000700010, 1, 0x0, 1, 0, .warm, false⟩
  | .ledgerChg1 => ⟨0xF000700018, 1, 0x0, 1, 0, .warm, false⟩
  | .ledgerEnergy => ⟨0xF000700020, 1, 0x0, 1, 0, .warm, false⟩
  | .ledgerStat => ⟨0xF000700028, 1, 0x0, 1, 0, .warm, false⟩
  | .ledgerWait => ⟨0xF000700030, 1, 0x0, 1, 0, .warm, false⟩
  | .ledgerPf => ⟨0xF000700038, 1, 0x0, 1, 0, .warm, false⟩
  | .zmapLand => ⟨0xF000600080, 1, 0x0, 1, 0, .warm, false⟩
  | .zmapBasin => ⟨0xF000600088, 1, 0x0, 1, 0, .warm, false⟩
  | .zmapBasinstat => ⟨0xF000600090, 1, 0x0, 1, 0, .warm, false⟩
  | .stripeJcfg => ⟨0xF001A04000, 1, 0x0, 1, 0, .warm, false⟩
  | .stripeJsn => ⟨0xF001A04008, 1, 0x0, 1, 0, .warm, false⟩
  | .stripeJstat => ⟨0xF001A04010, 1, 0x0, 1, 0, .warm, false⟩
  | .stripeRetry => ⟨0xF001A04018, 1, 0x0, 1, 0, .warm, false⟩
  | .schedCtl => ⟨0xF000800000, 1, 0x0, 1, 0, .warm, false⟩
  | .schedDl => ⟨0xF000800008, 1, 0x0, 1, 0, .warm, false⟩
  | .schedSusp => ⟨0xF000800010, 1, 0x0, 1, 0, .warm, false⟩
  | .schedRun => ⟨0xF000800018, 1, 0x0, 1, 0, .warm, false⟩
  | .schedSpill => ⟨0xF000800020, 1, 0x0, 1, 0, .warm, false⟩
  | .schedStat => ⟨0xF000800028, 1, 0x0, 1, 0, .warm, false⟩
  | .schedCnt => ⟨0xF000800030, 1, 0x0, 1, 0, .warm, false⟩
  | .schedCnt2 => ⟨0xF000800038, 1, 0x0, 1, 0, .warm, false⟩
  | .schedLatctl => ⟨0xF000800040, 1, 0x0, 1, 0, .warm, false⟩
  | .schedD0en => ⟨0xF000801000, 1, 0x0, 16, 8, .warm, false⟩
  | .schedLatbin => ⟨0xF000802000, 3, 0x200, 64, 8, .warm, false⟩
  | .schedDiestat => ⟨0xF000804000, 1, 0x0, 4608, 8, .warm, false⟩
  | .binorCtl => ⟨0xF001400000, 36, 0x10000, 1, 0, .warm, false⟩
  | .binorStat => ⟨0xF001400008, 36, 0x10000, 1, 0, .warm, false⟩
  | .binorBrid => ⟨0xF001400010, 36, 0x10000, 1, 0, .warm, false⟩
  | .binorBrcap => ⟨0xF001400018, 36, 0x10000, 1, 0, .warm, false⟩
  | .binorErr => ⟨0xF001400020, 36, 0x10000, 1, 0, .warm, false⟩
  | .binorErr2 => ⟨0xF001400028, 36, 0x10000, 1, 0, .warm, false⟩
  | .binorCred => ⟨0xF001400030, 36, 0x10000, 1, 0, .warm, false⟩
  | .binorCmdq => ⟨0xF001400038, 36, 0x10000, 1, 0, .warm, false⟩
  | .binorEq => ⟨0xF001400040, 36, 0x10000, 1, 0, .warm, false⟩
  | .binorTemp => ⟨0xF001400048, 36, 0x10000, 9, 8, .warm, false⟩
  | .seqCtl => ⟨0xF001000000, 36, 0x10000, 1, 0, .warm, false⟩
  | .seqProf => ⟨0xF001000008, 36, 0x10000, 1, 0, .warm, false⟩
  | .seqFdq => ⟨0xF001000010, 36, 0x10000, 1, 0, .warm, false⟩
  | .seqFdqPtr => ⟨0xF001000018, 36, 0x10000, 1, 0, .warm, false⟩
  | .seqFcq => ⟨0xF001000020, 36, 0x10000, 1, 0, .warm, false⟩
  | .seqFcqPtr => ⟨0xF001000028, 36, 0x10000, 1, 0, .warm, false⟩
  | .seqBst => ⟨0xF001000030, 36, 0x10000, 1, 0, .warm, false⟩
  | .seqBstcmd => ⟨0xF001000038, 36, 0x10000, 1, 0, .warm, false⟩
  | .seqTmo => ⟨0xF001000040, 36, 0x10000, 1, 0, .warm, false⟩
  | .seqStat => ⟨0xF001000048, 36, 0x10000, 1, 0, .warm, false⟩
  | .seqDieclr => ⟨0xF001000050, 36, 0x10000, 1, 0, .warm, false⟩
  | .seqCnt => ⟨0xF001000058, 36, 0x10000, 1, 0, .warm, false⟩
  | .seqCnt2 => ⟨0xF001000060, 36, 0x10000, 1, 0, .warm, false⟩
  | .ldpcCtl => ⟨0xF001800000, 1, 0x0, 1, 0, .warm, false⟩
  | .ldpcEsc => ⟨0xF001800008, 1, 0x0, 1, 0, .warm, false⟩
  | .ldpcThr => ⟨0xF001800010, 1, 0x0, 1, 0, .warm, false⟩
  | .ldpcCnt => ⟨0xF001800018, 1, 0x0, 1, 0, .warm, false⟩
  | .ldpcCnt2 => ⟨0xF001800020, 1, 0x0, 1, 0, .warm, false⟩
  | .ldpcSoftstat => ⟨0xF001800028, 1, 0x0, 1, 0, .warm, false⟩
  | .ldpcHint => ⟨0xF001801000, 1, 0x0, 4608, 8, .warm, false⟩
  | .patrolCtl => ⟨0xF001900000, 1, 0x0, 1, 0, .warm, false⟩
  | .patrolLap => ⟨0xF001900008, 1, 0x0, 1, 0, .warm, false⟩
  | .patrolStat => ⟨0xF001900010, 1, 0x0, 1, 0, .warm, false⟩
  | .patrolCnt => ⟨0xF001900018, 1, 0x0, 1, 0, .warm, false⟩
  | .patrolScan => ⟨0xF001900020, 1, 0x0, 1, 0, .warm, false⟩
  | .reclaimCtl => ⟨0xF001901000, 1, 0x0, 1, 0, .warm, false⟩
  | .reclaimW => ⟨0xF001901008, 1, 0x0, 1, 0, .warm, false⟩
  | .reclaimStat => ⟨0xF001901010, 1, 0x0, 1, 0, .warm, false⟩
  | .reclaimCnt => ⟨0xF001901018, 1, 0x0, 1, 0, .warm, false⟩
  | .reclaimCmd => ⟨0xF001901020, 1, 0x0, 1, 0, .warm, false⟩
  | .stripeCtl => ⟨0xF001A00000, 1, 0x0, 1, 0, .warm, false⟩
  | .stripePt => ⟨0xF001A00008, 1, 0x0, 1, 0, .warm, false⟩
  | .stripePtcnt => ⟨0xF001A00010, 1, 0x0, 1, 0, .warm, false⟩
  | .stripeLayout => ⟨0xF001A00018, 1, 0x0, 1, 0, .warm, false⟩
  | .stripePtcmd => ⟨0xF001A00020, 1, 0x0, 1, 0, .warm, false⟩
  | .stripeRbcmd => ⟨0xF001A00028, 1, 0x0, 1, 0, .warm, false⟩
  | .stripeRbrate => ⟨0xF001A00030, 1, 0x0, 1, 0, .warm, false⟩
  | .stripeRbstat => ⟨0xF001A00038, 1, 0x0, 1, 0, .warm, false⟩
  | .stripeRbprog => ⟨0xF001A00040, 1, 0x0, 1, 0, .warm, false⟩
  | .stripeCrit => ⟨0xF001A00048, 1, 0x0, 1, 0, .warm, false⟩
  | .stripeMemstat => ⟨0xF001A00050, 1, 0x0, 1, 0, .warm, false⟩
  | .stripeCnt => ⟨0xF001A00058, 1, 0x0, 1, 0, .warm, false⟩
  | .stripeJmir => ⟨0xF001A04020, 1, 0x0, 1, 0, .warm, false⟩
  | .digestAlloc => ⟨0xF001B00000, 1, 0x0, 16, 8, .warm, false⟩
  | .digestCtxmap => ⟨0xF001B00080, 1, 0x0, 1, 0, .warm, false⟩
  | .digestCtxuse => ⟨0xF001B00088, 1, 0x0, 1, 0, .warm, false⟩
  | .digestSealstat => ⟨0xF001B00200, 1, 0x0, 1, 0, .warm, false⟩
  | .digestSealcnt => ⟨0xF001B00208, 1, 0x0, 1, 0, .warm, false⟩
  | .digestCtl => ⟨0xF001B01000, 16, 0x100, 1, 0, .warm, false⟩
  | .digestLen => ⟨0xF001B01008, 16, 0x100, 1, 0, .warm, false⟩
  | .digestData => ⟨0xF001B01010, 16, 0x100, 1, 0, .warm, false⟩
  | .digestStat => ⟨0xF001B01018, 16, 0x100, 1, 0, .warm, false⟩
  | .digestSrc => ⟨0xF001B01020, 16, 0x100, 1, 0, .warm, false⟩
  | .digestResult => ⟨0xF001B01040, 16, 0x100, 8, 8, .warm, false⟩
  | .keysStage => ⟨0xF001B80000, 1, 0x0, 8, 8, .warm, false⟩
  | .keysCmd => ⟨0xF001B80040, 1, 0x0, 1, 0, .warm, false⟩
  | .keysWtbl => ⟨0xF001B80048, 1, 0x0, 1, 0, .warm, false⟩
  | .keysCache => ⟨0xF001B80050, 1, 0x0, 1, 0, .warm, false⟩
  | .keysSlotinfo => ⟨0xF001B81000, 1, 0x0, 1024, 8, .warm, false⟩
  | .xtsNscfg => ⟨0xF001C01000, 1, 0x0, 8192, 8, .warm, false⟩
  | .tenantPfcap => ⟨0xF001D00000, 1, 0x0, 4, 8, .warm, false⟩
  | .tenantMig => ⟨0xF001D00020, 1, 0x0, 1, 0, .warm, false⟩
  | .tenantCnt => ⟨0xF001D00028, 1, 0x0, 1, 0, .warm, false⟩
  | .tenantFncmd => ⟨0xF001D00030, 1, 0x0, 1, 0, .warm, false⟩
  | .tenantMigcmd => ⟨0xF001D00038, 1, 0x0, 1, 0, .warm, false⟩
  | .tenantEpoch => ⟨0xF001D00040, 1, 0x0, 1, 0, .warm, false⟩
  | .tenantFncfg => ⟨0xF001D01000, 1, 0x0, 1024, 8, .warm, false⟩
  | .tenantFnstat => ⟨0xF001D03000, 1, 0x0, 1024, 8, .warm, false⟩
  | .tenantNscfg => ⟨0xF001D05000, 1, 0x0, 8192, 8, .warm, false⟩
  | .drcGeom => ⟨0xF002000000, 8, 0x100000, 1, 0, .warm, false⟩
  | .drcQos => ⟨0xF002000008, 8, 0x100000, 1, 0, .warm, false⟩
  | .drcRef => ⟨0xF002000010, 8, 0x100000, 1, 0, .warm, false⟩
  | .drcTrain => ⟨0xF002000018, 8, 0x100000, 1, 0, .warm, false⟩
  | .drcOp => ⟨0xF002000020, 8, 0x100000, 1, 0, .warm, false⟩
  | .drcPar => ⟨0xF002000028, 8, 0x100000, 1, 0, .warm, false⟩
  | .drcEcc => ⟨0xF002000030, 8, 0x100000, 1, 0, .warm, false⟩
  | .drcUeaddr => ⟨0xF002000038, 8, 0x100000, 1, 0, .warm, false⟩
  | .drcScrub => ⟨0xF002000040, 8, 0x100000, 1, 0, .warm, false⟩
  | .drcRet => ⟨0xF002000048, 8, 0x100000, 1, 0, .warm, false⟩
  | .drcRetcmd => ⟨0xF002000050, 8, 0x100000, 1, 0, .warm, false⟩
  | .drcSelftest => ⟨0xF002000058, 8, 0x100000, 1, 0, .warm, false⟩
  | .drcSpare => ⟨0xF002000060, 1, 0x0, 1, 0, .warm, false⟩
  | .drcRemap => ⟨0xF002001000, 8, 0x100000, 64, 8, .warm, false⟩
  | .resvPflvl => ⟨0xF003000000, 1, 0x0, 1, 0, .por, false⟩
  | .resvPfstat => ⟨0xF003000008, 1, 0x0, 1, 0, .por, false⟩
  | .resvRcfg => ⟨0xF003000010, 1, 0x0, 1, 0, .por, false⟩
  | .resvCtl => ⟨0xF003000018, 1, 0x0, 1, 0, .por, false⟩
  | .resvRcfg2 => ⟨0xF003000020, 1, 0x0, 1, 0, .por, false⟩
  | .resvTres => ⟨0xF003000028, 1, 0x0, 1, 0, .por, false⟩
  | .resvTtime => ⟨0xF003000030, 1, 0x0, 1, 0, .por, false⟩
  | .resvRstat => ⟨0xF003000038, 1, 0x0, 1, 0, .por, false⟩
  | .resvTlim => ⟨0xF003000040, 1, 0x0, 1, 0, .por, false⟩
  | .resvFan => ⟨0xF003000048, 1, 0x0, 1, 0, .por, false⟩
  | .resvHeat => ⟨0xF003000050, 1, 0x0, 1, 0, .por, false⟩
  | .resvDiff => ⟨0xF003000058, 1, 0x0, 1, 0, .por, false⟩
  | .resvDts => ⟨0xF003000100, 1, 0x0, 8, 8, .por, false⟩
  | .sluiceBudget => ⟨0xF000700100, 1, 0x0, 1, 0, .warm, false⟩
  | .sluiceCost => ⟨0xF000700108, 1, 0x0, 1, 0, .warm, false⟩
  | .sluiceCost2 => ⟨0xF000700110, 1, 0x0, 1, 0, .warm, false⟩
  | .sluiceCtl => ⟨0xF000700118, 1, 0x0, 1, 0, .warm, false⟩
  | .sluiceStat => ⟨0xF000700120, 1, 0x0, 1, 0, .warm, false⟩
  | .pwrDom => ⟨0xF000100000, 1, 0x0, 33, 8, .por, false⟩
  | .pwrTimer => ⟨0xF000100200, 1, 0x0, 1, 0, .por, false⟩
  | .pwrEdge => ⟨0xF000100208, 1, 0x0, 1, 0, .por, false⟩
  | .pwrRetstat => ⟨0xF000100210, 1, 0x0, 1, 0, .por, false⟩
  | .pwrCnt => ⟨0xF000100218, 1, 0x0, 1, 0, .por, false⟩
  | .pwrPins => ⟨0xF000100220, 1, 0x0, 1, 0, .por, false⟩
  | .evwCur => ⟨0x0, 5, 0x0, 1, 0, .func, true⟩
  | .evwStat => ⟨0x8, 5, 0x0, 1, 0, .func, true⟩
  | .evwNext => ⟨0x10, 5, 0x0, 1, 0, .func, true⟩
  | .evrecCtl => ⟨0xF003100000, 1, 0x0, 1, 0, .por, false⟩
  | .evrecCfg => ⟨0xF003100008, 1, 0x0, 1, 0, .por, false⟩
  | .evrecAuth => ⟨0xF003100010, 1, 0x0, 1, 0, .por, false⟩
  | .evrecNonce => ⟨0xF003100018, 1, 0x0, 1, 0, .por, false⟩
  | .evrecStat => ⟨0xF003100020, 1, 0x0, 1, 0, .por, false⟩
  | .evrecRsn => ⟨0xF003100028, 1, 0x0, 1, 0, .por, false⟩
  | .evrecTime => ⟨0xF003100030, 1, 0x0, 1, 0, .por, false⟩
  | .evrecClrcmd => ⟨0xF003100038, 1, 0x0, 1, 0, .por, false⟩
  | .evrecPost => ⟨0xF003100040, 16, 0x0, 1, 0, .por, false⟩
  | .evrecPdata => ⟨0xF003100048, 16, 0x0, 6, 8, .por, false⟩
  | .sysRstcause => ⟨0xF000000028, 1, 0x0, 1, 0, .por, false⟩
  | .sysBoot => ⟨0xF000000030, 1, 0x0, 1, 0, .por, false⟩
  | .sysWdog => ⟨0xF000000038, 1, 0x0, 1, 0, .warm, false⟩
  | .sysLockstep => ⟨0xF000000040, 1, 0x0, 1, 0, .warm, false⟩
  | .sysFwact => ⟨0xF000000048, 1, 0x0, 1, 0, .warm, false⟩
  | .sysRst => ⟨0xF000000050, 1, 0x0, 1, 0, .warm, false⟩
  | .sysSvn => ⟨0xF000000058, 1, 0x0, 1, 0, .por, false⟩
  | .sysCwdog => ⟨0xF000000100, 1, 0x0, 16, 8, .warm, false⟩

/-- One line of a register table. -/
def fld (t : FieldType) (hi lo rst : Nat) : FieldSpec := ⟨hi, lo, t, rst⟩

open FieldType in def fields_sysId : List FieldSpec := [fld ro 63 48 0xA59, fld ro 47 40 0, fld ro 39 32 0, fld ro 31 0 0]
open FieldType in def fields_sysCap : List FieldSpec := [fld ro 47 40 0, fld ro 39 36 0xF, fld ro 35 0 0]
open FieldType in def fields_sysClkstat : List FieldSpec := [fld rw1c 17 17 0, fld rw1c 16 16 0, fld rw1c 15 8 0, fld rw1c 7 7 0, fld rw1c 6 6 0, fld rw1c 5 5 0, fld rw1c 3 0 0]
open FieldType in def fields_sysAccerr : List FieldSpec := [fld rw1c 63 63 0, fld ro 62 60 0, fld ro 55 52 0, fld ro 47 0 0]
open FieldType in def fields_sysScratch : List FieldSpec := [fld rw 63 0 0]
open FieldType in def fields_bar2WinId : List FieldSpec := [fld ro 63 48 0xA59, fld ro 15 8 1, fld ro 1 0 0]
open FieldType in def fields_bar2AsgCmd : List FieldSpec := [fld wo 63 63 0, fld rw 7 0 0]
open FieldType in def fields_bar2AsgStat : List FieldSpec := [fld ro 63 63 0, fld ro 11 8 0, fld ro 7 0 0]
open FieldType in def fields_bar2MbxDb : List FieldSpec := [fld rw1c 1 1 0, fld rw1s 0 0 0]
open FieldType in def fields_bar2AsgQt : List FieldSpec := [fld rw 47 32 0, fld rw 31 16 0, fld rw 11 0 0]
open FieldType in def fields_bar2AsgVn : List FieldSpec := [fld rw 24 16 0, fld rw 10 0 0]
open FieldType in def fields_bar2AsgPasid : List FieldSpec := [fld rw 63 63 0, fld rw 19 0 0]
open FieldType in def fields_hpAnast : List FieldSpec := [fld rw 3 0 1, fld rw 7 4 1, fld rw 11 8 1, fld rw 15 12 1, fld rw 19 16 1, fld rw 23 20 1, fld rw 27 24 1, fld rw 31 28 1, fld rw 35 32 1, fld rw 39 36 1, fld rw 43 40 1, fld rw 47 44 1, fld rw 51 48 1, fld rw 55 52 1, fld rw 59 56 1, fld rw 63 60 1]
open FieldType in def fields_hpCtl : List FieldSpec := [fld wo 10 10 0, fld rw 9 9 0, fld rw 8 8 0, fld rw 7 6 1, fld rw 3 0 6]
open FieldType in def fields_hpLstat : List FieldSpec := [fld ro 31 24 0, fld ro 23 16 0, fld ro 15 15 0, fld ro 14 14 0, fld ro 13 13 0, fld ro 12 12 0, fld ro 3 0 0]
open FieldType in def fields_hpFault : List FieldSpec := [fld ro 8 8 0, fld rw1c 4 4 0, fld rw1c 3 3 0, fld rw1c 2 2 0, fld rw1c 1 1 0, fld rw1c 0 0 0]
open FieldType in def fields_hpIdestat : List FieldSpec := [fld ro 31 16 0, fld ro 15 0 0]
open FieldType in def fields_intakeCtl : List FieldSpec := [fld rw 22 16 0x40, fld rw 0 0 0]
open FieldType in def fields_intakeTagstat : List FieldSpec := [fld ro 56 40 0, fld ro 39 23 0, fld ro 22 16 0x40, fld rc 15 0 0]
open FieldType in def fields_intakeTmo : List FieldSpec := [fld rw 63 32 0x7D0, fld rw 31 0 0x3E8]
open FieldType in def fields_intakeFwact : List FieldSpec := [fld rw1s 63 63 0, fld ro 62 62 0, fld wo 61 61 0, fld ro 60 60 0, fld rw 47 32 0x64, fld ro 31 0 0]
open FieldType in def fields_intakeErrcnt : List FieldSpec := [fld rc 63 48 0, fld rc 47 32 0, fld rc 31 16 0, fld rc 15 0 0]
open FieldType in def fields_intakeAbortcnt : List FieldSpec := [fld rc 31 16 0, fld rc 15 0 0]
open FieldType in def fields_confSlstat : List FieldSpec := [fld rc 47 32 0, fld ro 31 16 0, fld ro 15 0 0]
open FieldType in def fields_confSeq : List FieldSpec := [fld rwl 63 0 0]
open FieldType in def fields_confCtl : List FieldSpec := [fld rw1s 0 0 0]
open FieldType in def fields_zmapCtl : List FieldSpec := [fld rw 31 16 0xA8, fld rw 15 0 0xC8]
open FieldType in def fields_zmapPoolres : List FieldSpec := [fld rw 51 32 0x100, fld rw 19 0 0x40]
open FieldType in def fields_zmapPoolstat : List FieldSpec := [fld rw1c 63 63 0, fld ro 51 32 0, fld ro 19 0 0]
open FieldType in def fields_zmapActstat : List FieldSpec := [fld ro 45 32 0, fld ro 29 16 0, fld ro 13 0 0]
open FieldType in def fields_zmapConv : List FieldSpec := [fld rwl 55 52 1, fld rwl 47 12 0, fld rw1s 0 0 0]
open FieldType in def fields_zmapConvcap : List FieldSpec := [fld ro 49 32 0, fld ro 17 0 0]
open FieldType in def fields_zmapZtbase : List FieldSpec := [fld rwl 47 12 0]
open FieldType in def fields_zmapCkpt : List FieldSpec := [fld ro 63 32 0, fld rw 31 16 0x1000, fld rw 15 0 0x3C]
open FieldType in def fields_zmapCkptlow : List FieldSpec := [fld ro 63 0 0]
open FieldType in def fields_zmapNsz : List FieldSpec := [fld ro 63 63 0, fld rw 29 16 0, fld rw 13 0 0]
open FieldType in def fields_ledgerCtl : List FieldSpec := [fld rw1s 63 63 0, fld rw 47 32 0x800, fld rw 31 16 0x3E8, fld rw 3 0 7]
open FieldType in def fields_ledgerFixed : List FieldSpec := [fld rwl 15 0 0xBB8]
open FieldType in def fields_ledgerChg0 : List FieldSpec := [fld rwl 51 32 0x190, fld rwl 19 0 0x104]
open FieldType in def fields_ledgerChg1 : List FieldSpec := [fld rwl 51 32 0x190, fld rwl 19 0 0x1E]
open FieldType in def fields_ledgerEnergy : List FieldSpec := [fld ro 47 32 0, fld ro 15 0 0]
open FieldType in def fields_ledgerStat : List FieldSpec := [fld ro 63 63 0, fld ro 62 62 0, fld ro 47 32 0, fld ro 31 16 0, fld ro 15 0 0]
open FieldType in def fields_ledgerWait : List FieldSpec := [fld rc 63 32 0, fld rc 31 0 0]
open FieldType in def fields_ledgerPf : List FieldSpec := [fld ro 47 32 0x50, fld rw 8 0 0x100]
open FieldType in def fields_zmapLand : List FieldSpec := [fld rw 47 32 0x1F4, fld rw 15 0 0x80]
open FieldType in def fields_zmapBasin : List FieldSpec := [fld rw 55 48 0x19, fld rw 47 40 0xA, fld rw 39 32 0x14, fld rwl 4 0 0x10]
open FieldType in def fields_zmapBasinstat : List FieldSpec := [fld ro 47 32 0, fld ro 31 24 0, fld ro 15 0 0]
open FieldType in def fields_stripeJcfg : List FieldSpec := [fld rw 39 32 2, fld rw 15 0 0x14]
open FieldType in def fields_stripeJsn : List FieldSpec := [fld ro 63 0 0]
open FieldType in def fields_stripeJstat : List FieldSpec := [fld ro 63 32 0, fld ro 7 0 0]
open FieldType in def fields_stripeRetry : List FieldSpec := [fld rw1s 63 63 0, fld rwl 47 12 0, fld rwl 7 0 0x30]
open FieldType in def fields_schedCtl : List FieldSpec := [fld rw 3 3 0, fld rw 2 2 1, fld rw 1 1 1, fld rw 0 0 1]
open FieldType in def fields_schedDl : List FieldSpec := [fld rw 63 48 0x32, fld rw 47 32 0x190, fld rw 31 16 0x3E8, fld rw 15 0 0xA0]
open FieldType in def fields_schedSusp : List FieldSpec := [fld rw 63 56 8, fld rw 47 40 0x10, fld rw 39 32 0xC, fld rw 31 24 4]
open FieldType in def fields_schedRun : List FieldSpec := [fld rw 63 48 0x320, fld rw 47 32 0x12C, fld rw 31 16 0x190, fld rw 15 0 0xC8]
open FieldType in def fields_schedSpill : List FieldSpec := [fld rw 63 48 0x800, fld rw 47 40 0x14, fld rw 31 24 0x3C, fld rw 23 16 0xA, fld rw 15 8 0x4B]
open FieldType in def fields_schedStat : List FieldSpec := [fld ro 63 48 0, fld ro 47 32 0, fld ro 31 16 0]
open FieldType in def fields_schedCnt : List FieldSpec := [fld rc 63 32 0, fld rc 31 0 0]
open FieldType in def fields_schedCnt2 : List FieldSpec := [fld rc 63 32 0, fld rc 31 0 0]
open FieldType in def fields_schedLatctl : List FieldSpec := [fld rw1s 0 0 0]
open FieldType in def fields_schedD0en : List FieldSpec := [fld rw 63 0 0]
open FieldType in def fields_schedLatbin : List FieldSpec := [fld ro 47 0 0]
open FieldType in def fields_schedDiestat : List FieldSpec := [fld ro 63 60 0, fld ro 59 56 0, fld ro 55 48 0, fld ro 47 32 0, fld ro 31 0 0]
open FieldType in def fields_binorCtl : List FieldSpec := [fld rw 15 8 0x40, fld wo 4 4 0, fld rw 3 3 0, fld wo 2 2 0, fld wo 1 1 0, fld rw 0 0 0]
open FieldType in def fields_binorStat : List FieldSpec := [fld ro 31 31 0, fld ro 30 28 0, fld ro 24 24 0, fld ro 23 23 0, fld ro 22 22 0, fld ro 21 21 0, fld ro 20 20 0, fld ro 11 8 0, fld ro 3 0 0]
open FieldType in def fields_binorBrid : List FieldSpec := [fld ro 63 32 0, fld ro 31 0 0]
open FieldType in def fields_binorBrcap : List FieldSpec := [fld ro 63 32 0, fld ro 31 0 0]
open FieldType in def fields_binorErr : List FieldSpec := [fld rc 63 48 0, fld rc 47 32 0, fld rc 31 16 0, fld rc 15 0 0]
open FieldType in def fields_binorErr2 : List FieldSpec := [fld rc 47 32 0, fld rc 31 16 0, fld rc 7 0 0]
open FieldType in def fields_binorCred : List FieldSpec := [fld ro 50 48 0, fld ro 43 32 0]
open FieldType in def fields_binorCmdq : List FieldSpec := [fld ro 5 0 0, fld ro 11 6 0, fld ro 17 12 0, fld ro 23 18 0, fld ro 29 24 0, fld ro 35 30 0, fld ro 41 36 0, fld ro 47 42 0]
open FieldType in def fields_binorEq : List FieldSpec := [fld ro 15 12 0, fld ro 11 8 0, fld ro 7 4 0, fld ro 3 0 0]
open FieldType in def fields_binorTemp : List FieldSpec := [fld ro 63 63 0, fld ro 62 62 0, fld ro 47 32 0, fld ro 15 0 0]
open FieldType in def fields_seqCtl : List FieldSpec := [fld rw1s 63 63 0, fld rw 1 1 0, fld rw 0 0 0]
open FieldType in def fields_seqProf : List FieldSpec := [fld ro 63 63 0, fld ro 47 32 0, fld ro 31 16 0, fld ro 15 0 0]
open FieldType in def fields_seqFdq : List FieldSpec := [fld rwl 47 12 0, fld rwl 2 0 6]
open FieldType in def fields_seqFdqPtr : List FieldSpec := [fld ro 43 32 0, fld rw 11 0 0]
open FieldType in def fields_seqFcq : List FieldSpec := [fld rwl 47 12 0]
open FieldType in def fields_seqFcqPtr : List FieldSpec := [fld ro 43 32 0, fld rw 11 0 0]
open FieldType in def fields_seqBst : List FieldSpec := [fld rwl 47 12 0]
open FieldType in def fields_seqBstcmd : List FieldSpec := [fld wo 63 63 0, fld ro 62 62 0, fld rw 61 60 0, fld rw 59 56 0, fld ro 55 54 0, fld rw 30 28 0, fld rw 27 24 0, fld rw 11 0 0]
open FieldType in def fields_seqTmo : List FieldSpec := [fld rw 15 0 0xC8]
open FieldType in def fields_seqStat : List FieldSpec := [fld rw1c 63 63 0, fld ro 62 62 0, fld ro 47 32 0, fld ro 9 0 0]
open FieldType in def fields_seqDieclr : List FieldSpec := [fld wo 63 63 0, fld rw 6 4 0, fld rw 3 0 0]
open FieldType in def fields_seqCnt : List FieldSpec := [fld rc 63 48 0, fld rc 47 32 0, fld rc 31 16 0, fld rc 15 0 0]
open FieldType in def fields_seqCnt2 : List FieldSpec := [fld rc 63 48 0, fld rc 47 32 0, fld rc 31 16 0, fld rc 15 0 0]
open FieldType in def fields_ldpcCtl : List FieldSpec := [fld rw 23 16 0x28, fld rw 15 8 0x14, fld rw 0 0 1]
open FieldType in def fields_ldpcEsc : List FieldSpec := [fld rw 31 28 4, fld rw 27 24 4, fld rw 23 20 4, fld rw 7 0 0x10]
open FieldType in def fields_ldpcThr : List FieldSpec := [fld rw 15 0 0xB4]
open FieldType in def fields_ldpcCnt : List FieldSpec := [fld rc 63 48 0, fld rc 47 32 0, fld rc 31 16 0, fld rc 15 0 0]
open FieldType in def fields_ldpcCnt2 : List FieldSpec := [fld rc 63 32 0, fld rc 31 16 0]
open FieldType in def fields_ldpcSoftstat : List FieldSpec := [fld ro 31 16 0, fld ro 4 0 0]
open FieldType in def fields_ldpcHint : List FieldSpec := [fld rw 39 32 0, fld rw 31 24 0, fld rw 23 16 0, fld rw 15 8 0, fld rw 7 0 0]
open FieldType in def fields_patrolCtl : List FieldSpec := [fld rw 23 16 3, fld rw 15 8 0xE, fld rw 0 0 0]
open FieldType in def fields_patrolLap : List FieldSpec := [fld ro 63 32 0, fld ro 15 0 0]
open FieldType in def fields_patrolStat : List FieldSpec := [fld ro 63 63 0, fld ro 62 62 0, fld ro 47 32 0, fld ro 31 16 0]
open FieldType in def fields_patrolCnt : List FieldSpec := [fld rc 63 32 0, fld rc 31 16 0, fld rc 15 0 0]
open FieldType in def fields_patrolScan : List FieldSpec := [fld ro 63 63 0, fld ro 62 60 0, fld ro 47 16 0, fld ro 15 0 0]
open FieldType in def fields_reclaimCtl : List FieldSpec := [fld rw 63 48 0x64, fld rw 23 16 4, fld rw 0 0 0]
open FieldType in def fields_reclaimW : List FieldSpec := [fld rw 63 48 0x2D0, fld rw 23 16 0x28, fld rw 15 8 0x1E, fld rw 7 0 0xC8]
open FieldType in def fields_reclaimStat : List FieldSpec := [fld ro 63 48 0, fld ro 47 32 0, fld ro 31 16 0]
open FieldType in def fields_reclaimCnt : List FieldSpec := [fld rc 63 32 0, fld rc 31 16 0, fld rc 15 0 0]
open FieldType in def fields_reclaimCmd : List FieldSpec := [fld wo 63 63 0, fld ro 62 62 0, fld ro 59 56 0, fld rw 23 0 0]
open FieldType in def fields_stripeCtl : List FieldSpec := [fld rw1s 63 63 0, fld rw 2 2 1, fld rw 1 1 0, fld rw 0 0 0]
open FieldType in def fields_stripePt : List FieldSpec := [fld rwl 47 12 0]
open FieldType in def fields_stripePtcnt : List FieldSpec := [fld rwl 19 0 0]
open FieldType in def fields_stripeLayout : List FieldSpec := [fld rwl 47 12 0, fld rwl 11 0 0]
open FieldType in def fields_stripePtcmd : List FieldSpec := [fld wo 63 63 0, fld ro 62 62 0, fld rw 61 60 0, fld ro 59 56 0, fld rw 19 0 0]
open FieldType in def fields_stripeRbcmd : List FieldSpec := [fld wo 63 63 0, fld ro 62 62 0, fld rw 61 60 0, fld ro 59 56 0, fld rw 21 16 0, fld rw 14 12 0, fld rw 11 8 0]
open FieldType in def fields_stripeRbrate : List FieldSpec := [fld rw 63 32 0x2EE0, fld rw 31 0 0xFA0]
open FieldType in def fields_stripeRbstat : List FieldSpec := [fld ro 63 60 0, fld ro 59 58 0, fld ro 31 0 0]
open FieldType in def fields_stripeRbprog : List FieldSpec := [fld ro 63 32 0, fld ro 31 0 0]
open FieldType in def fields_stripeCrit : List FieldSpec := [fld ro 63 32 0, fld ro 31 0 0]
open FieldType in def fields_stripeMemstat : List FieldSpec := [fld ro 35 0 0]
open FieldType in def fields_stripeCnt : List FieldSpec := [fld rc 63 32 0, fld rc 31 16 0, fld rc 15 0 0]
open FieldType in def fields_stripeJmir : List FieldSpec := [fld ro 63 63 0, fld ro 53 48 0, fld ro 45 40 0, fld ro 37 32 0, fld rw 15 0 0x1000]
open FieldType in def fields_digestAlloc : List FieldSpec := [fld wo 63 63 0, fld ro 62 62 0, fld ro 61 61 0, fld ro 3 0 0]
open FieldType in def fields_digestCtxmap : List FieldSpec := [fld ro 3 0 0, fld ro 7 4 0, fld ro 11 8 0, fld ro 15 12 0, fld ro 19 16 0, fld ro 23 20 0, fld ro 27 24 0, fld ro 31 28 0, fld ro 35 32 0, fld ro 39 36 0, fld ro 43 40 0, fld ro 47 44 0, fld ro 51 48 0, fld ro 55 52 0, fld ro 59 56 0, fld ro 63 60 0]
open FieldType in def fields_digestCtxuse : List FieldSpec := [fld ro 15 0 0]
open FieldType in def fields_digestSealstat : List FieldSpec := [fld ro 63 56 0, fld ro 31 0 0]
open FieldType in def fields_digestSealcnt : List FieldSpec := [fld rc 63 32 0, fld rc 31 16 0, fld rc 15 0 0]
open FieldType in def fields_digestCtl : List FieldSpec := [fld wo 63 63 0, fld wo 62 62 0, fld wo 61 61 0, fld rw 60 60 0, fld rw 59 52 0, fld rw 41 32 0, fld rw 31 31 0, fld rw 25 16 0, fld rw 4 4 0, fld rw 3 0 1]
open FieldType in def fields_digestLen : List FieldSpec := [fld rw 47 0 0]
open FieldType in def fields_digestData : List FieldSpec := [fld wo 63 0 0]
open FieldType in def fields_digestStat : List FieldSpec := [fld ro 63 63 0, fld ro 62 62 0, fld ro 61 61 0, fld ro 60 60 0, fld ro 59 59 0, fld ro 58 58 0, fld ro 55 52 0, fld ro 47 0 0]
open FieldType in def fields_digestSrc : List FieldSpec := [fld rw 47 0 0]
open FieldType in def fields_digestResult : List FieldSpec := [fld ro 63 0 0]
open FieldType in def fields_keysStage : List FieldSpec := [fld wo 63 0 0]
open FieldType in def fields_keysCmd : List FieldSpec := [fld wo 63 63 0, fld ro 62 62 0, fld rw 61 58 0, fld ro 57 54 0, fld rw 47 40 0, fld rw 39 36 0, fld rw 35 34 0, fld rw 29 16 0, fld rw 9 0 0]
open FieldType in def fields_keysWtbl : List FieldSpec := [fld rw1s 63 63 0, fld rwl 47 12 0]
open FieldType in def fields_keysCache : List FieldSpec := [fld rc 63 32 0, fld rc 31 16 0, fld ro 9 0 0]
open FieldType in def fields_keysSlotinfo : List FieldSpec := [fld ro 63 63 0, fld ro 62 62 0, fld ro 61 48 0, fld ro 47 40 0, fld ro 39 36 0, fld ro 35 34 0, fld ro 29 16 0]
open FieldType in def fields_xtsNscfg : List FieldSpec := [fld rw 63 63 0, fld rw 13 0 0]
open FieldType in def fields_tenantPfcap : List FieldSpec := [fld rw 47 32 0x3000, fld rw 31 16 0x1000, fld rw 15 0 0x1000]
open FieldType in def fields_tenantMig : List FieldSpec := [fld rw 15 0 0x64]
open FieldType in def fields_tenantCnt : List FieldSpec := [fld rc 63 48 0, fld rc 47 32 0, fld rc 31 16 0, fld rc 15 0 0]
open FieldType in def fields_tenantFncmd : List FieldSpec := [fld wo 63 63 0, fld ro 62 62 0, fld rw 61 60 0, fld ro 59 58 0, fld rw 9 0 0]
open FieldType in def fields_tenantMigcmd : List FieldSpec := [fld wo 63 63 0, fld ro 62 62 0, fld rw 59 56 0, fld ro 55 48 0, fld ro 47 44 0, fld rw 31 16 0, fld rw 9 0 0]
open FieldType in def fields_tenantEpoch : List FieldSpec := [fld ro 31 0 0]
open FieldType in def fields_tenantFncfg : List FieldSpec := [fld rw 63 63 0, fld rw 62 62 0, fld rw 11 0 0]
open FieldType in def fields_tenantFnstat : List FieldSpec := [fld ro 63 63 0, fld ro 62 60 0, fld ro 59 56 0, fld ro 55 52 0, fld ro 47 32 0, fld ro 31 16 0, fld ro 15 0 0]
open FieldType in def fields_tenantNscfg : List FieldSpec := [fld rw 11 0 0]
open FieldType in def fields_drcGeom : List FieldSpec := [fld ro 55 48 0, fld ro 47 30 0, fld ro 23 20 0, fld ro 19 16 0, fld ro 15 12 0, fld ro 11 8 0, fld ro 0 0 0]
open FieldType in def fields_drcQos : List FieldSpec := [fld rw 63 48 0xC8, fld rw 47 32 0x7D0, fld rw 31 24 0x10, fld rw 23 16 0x30, fld rw 15 8 0x10]
open FieldType in def fields_drcRef : List FieldSpec := [fld rc 47 32 0, fld rc 31 16 0, fld rc 11 8 0, fld ro 7 4 4, fld ro 0 0 0]
open FieldType in def fields_drcTrain : List FieldSpec := [fld rw 63 48 0x64, fld rw 47 40 5, fld ro 39 32 0, fld rc 31 16 0, fld rc 15 0 0]
open FieldType in def fields_drcOp : List FieldSpec := [fld wo 63 63 0, fld ro 62 62 0, fld ro 60 60 0, fld rw 59 59 0, fld ro 31 16 0, fld rc 15 0 0]
open FieldType in def fields_drcPar : List FieldSpec := [fld ro 63 63 0, fld rc 31 16 0, fld rc 15 0 0]
open FieldType in def fields_drcEcc : List FieldSpec := [fld rc 63 32 0, fld rc 31 16 0, fld rc 15 0 0]
open FieldType in def fields_drcUeaddr : List FieldSpec := [fld rw1c 63 63 0, fld ro 62 60 0, fld ro 39 0 0]
open FieldType in def fields_drcScrub : List FieldSpec := [fld rw 63 48 0x3E8, fld ro 31 16 0, fld ro 15 0 0]
open FieldType in def fields_drcRet : List FieldSpec := [fld rwl 63 63 0, fld rw 47 40 8, fld rw 39 32 0x10, fld ro 23 16 0, fld ro 7 0 0]
open FieldType in def fields_drcRetcmd : List FieldSpec := [fld wo 63 63 0, fld ro 62 62 0, fld rw 61 60 0, fld ro 59 58 0, fld rw 39 0 0]
open FieldType in def fields_drcSelftest : List FieldSpec := [fld ro 63 62 0, fld ro 61 61 0, fld ro 47 32 0, fld ro 31 16 0, fld ro 15 0 0]
open FieldType in def fields_drcSpare : List FieldSpec := [fld rw1s 63 63 0, fld rwl 47 16 0, fld rwl 15 0 0]
open FieldType in def fields_drcRemap : List FieldSpec := [fld ro 63 62 0, fld ro 39 13 0]
open FieldType in def fields_resvPflvl : List FieldSpec := [fld rw 55 48 0x14, fld rw 47 32 0xC8, fld rw 31 16 0x2580, fld rw 15 0 0x2A30]
open FieldType in def fields_resvPfstat : List FieldSpec := [fld ro 63 63 0, fld ro 62 62 0, fld ro 47 32 0, fld rc 31 16 0, fld rc 15 0 0]
open FieldType in def fields_resvRcfg : List FieldSpec := [fld rwl 63 48 0xCE4, fld rwl 47 32 0x514, fld rwl 31 24 0x78, fld rwl 23 16 0x28, fld rwl 15 0 0xA]
open FieldType in def fields_resvCtl : List FieldSpec := [fld rw1s 63 63 0, fld rw 15 8 0x18, fld wo 7 7 0, fld rw 1 1 0]
open FieldType in def fields_resvRcfg2 : List FieldSpec := [fld rwl 47 32 0x1770, fld rwl 31 24 0x3C, fld rwl 23 16 0x78, fld rwl 15 0 0xBB8]
open FieldType in def fields_resvTres : List FieldSpec := [fld ro 63 63 0, fld ro 62 62 0, fld ro 47 32 0, fld ro 31 0 0]
open FieldType in def fields_resvTtime : List FieldSpec := [fld ro 55 32 0, fld ro 31 0 0]
open FieldType in def fields_resvRstat : List FieldSpec := [fld ro 63 63 0, fld ro 62 62 0, fld ro 61 61 0, fld ro 60 60 0, fld ro 47 32 0, fld ro 31 16 0, fld ro 15 0 0]
open FieldType in def fields_resvTlim : List FieldSpec := [fld rw 63 48 0x1B8, fld rw 47 32 0x190, fld rw 31 16 0x12C, fld rw 15 0 0xFFEC]
open FieldType in def fields_resvFan : List FieldSpec := [fld ro 63 63 0, fld rw 47 32 0x7D0, fld rw 23 16 0x19, fld rw 7 0 0x64]
open FieldType in def fields_resvHeat : List FieldSpec := [fld ro 63 63 0, fld ro 62 62 0, fld rw 56 56 1, fld rw 47 32 0xA0, fld rw 15 8 0x64, fld rw 7 0 0]
open FieldType in def fields_resvDiff : List FieldSpec := [fld ro 63 63 0, fld ro 62 62 0, fld rc 47 32 0, fld rc 15 0 0]
open FieldType in def fields_resvDts : List FieldSpec := [fld ro 63 63 0, fld ro 15 0 0]
open FieldType in def fields_sluiceBudget : List FieldSpec := [fld rw 31 0 0x38270]
open FieldType in def fields_sluiceCost : List FieldSpec := [fld rw 63 48 0x69, fld rw 47 32 0x5A, fld rw 31 16 0x3C, fld rw 15 0 0x1F4]
open FieldType in def fields_sluiceCost2 : List FieldSpec := [fld rw 15 0 0x258]
open FieldType in def fields_sluiceCtl : List FieldSpec := [fld rw 7 0 0x28]
open FieldType in def fields_sluiceStat : List FieldSpec := [fld ro 63 56 0x64, fld ro 55 32 0, fld ro 31 0 0]
open FieldType in def fields_pwrDom : List FieldSpec := [fld ro 55 48 0, fld rw1c 47 47 0, fld rw1c 46 46 0, fld ro 43 40 0, fld rw 35 32 0, fld rw 23 16 0, fld wo 4 4 0, fld rw 3 2 0, fld ro 1 0 0]
open FieldType in def fields_pwrTimer : List FieldSpec := [fld rw1c 63 63 0, fld rw 62 62 0, fld rw 31 0 0]
open FieldType in def fields_pwrEdge : List FieldSpec := [fld rw1c 2 2 0, fld rw1c 1 1 0, fld rw1c 0 0 0]
open FieldType in def fields_pwrRetstat : List FieldSpec := [fld ro 47 32 0, fld rw1c 13 13 0, fld rw1c 12 12 0, fld rw1c 11 8 0, fld rw1c 7 0 0]
open FieldType in def fields_pwrCnt : List FieldSpec := [fld ro 63 32 0, fld rc 31 16 0]
open FieldType in def fields_pwrPins : List FieldSpec := [fld ro 3 0 0]
open FieldType in def fields_evwCur : List FieldSpec := [fld rw 63 62 0, fld wo 61 61 0, fld rw 55 48 0, fld rw 47 0 0]
open FieldType in def fields_evwStat : List FieldSpec := [fld ro 63 63 0, fld ro 55 48 0, fld ro 7 0 0]
open FieldType in def fields_evwNext : List FieldSpec := [fld ro 63 0 0]
open FieldType in def fields_evrecCtl : List FieldSpec := [fld rw 63 48 0x670, fld rw 47 32 0x670, fld rw 31 16 0x3E8, fld rw 15 0 0x64]
open FieldType in def fields_evrecCfg : List FieldSpec := [fld rw 63 48 0xE10, fld rwl 3 0 2]
open FieldType in def fields_evrecAuth : List FieldSpec := [fld rw1s 63 63 0, fld rwl 9 0 0]
open FieldType in def fields_evrecNonce : List FieldSpec := [fld ro 63 0 0]
open FieldType in def fields_evrecStat : List FieldSpec := [fld ro 63 63 0, fld ro 62 62 0, fld rc 47 32 0, fld ro 31 24 0, fld ro 17 0 0]
open FieldType in def fields_evrecRsn : List FieldSpec := [fld ro 63 0 0]
open FieldType in def fields_evrecTime : List FieldSpec := [fld ro 55 32 0, fld ro 31 0 0]
open FieldType in def fields_evrecClrcmd : List FieldSpec := [fld wo 63 63 0, fld ro 62 62 0, fld ro 59 56 0, fld rw 15 0 0]
open FieldType in def fields_evrecPost : List FieldSpec := [fld wo 63 63 0, fld rw1c 62 62 0, fld rw 19 16 0, fld rw 15 0 0]
open FieldType in def fields_evrecPdata : List FieldSpec := [fld rw 63 0 0]
open FieldType in def fields_sysRstcause : List FieldSpec := [fld ro 7 4 0, fld ro 3 0 1]
open FieldType in def fields_sysBoot : List FieldSpec := [fld rw1s 63 63 0, fld ro 62 62 0, fld ro 61 61 0, fld ro 58 58 0, fld ro 57 56 0, fld ro 15 8 0, fld ro 7 0 0]
open FieldType in def fields_sysWdog : List FieldSpec := [fld rw1s 63 63 0, fld wo 62 62 0, fld rwl 31 0 0xEA60]
open FieldType in def fields_sysLockstep : List FieldSpec := [fld ro 47 32 0, fld rc 31 16 0, fld rc 15 0 0]
open FieldType in def fields_sysFwact : List FieldSpec := [fld wo 63 63 0, fld ro 62 62 0, fld ro 61 60 0, fld rw 59 58 0, fld rw 47 12 0]
open FieldType in def fields_sysRst : List FieldSpec := [fld wo 0 0 0]
open FieldType in def fields_sysSvn : List FieldSpec := [fld wo 63 63 0, fld rw 39 32 0, fld ro 7 0 0]
open FieldType in def fields_sysCwdog : List FieldSpec := [fld rw 63 63 0, fld wo 62 62 0, fld rw 31 0 0x186A0]

/-- The fields of each register: bits, type, reset value. A reset value "per fuse", "per training", "strap", "ball" or "per R…"
stands as 0 here: such a field is computed from the state when it is read, or loaded where the manual says. -/
def regFields : RegId → List FieldSpec
  | .sysId => fields_sysId
  | .sysCap => fields_sysCap
  | .sysClkstat => fields_sysClkstat
  | .sysAccerr => fields_sysAccerr
  | .sysScratch => fields_sysScratch
  | .bar2WinId => fields_bar2WinId
  | .bar2AsgCmd => fields_bar2AsgCmd
  | .bar2AsgStat => fields_bar2AsgStat
  | .bar2MbxDb => fields_bar2MbxDb
  | .bar2AsgQt => fields_bar2AsgQt
  | .bar2AsgVn => fields_bar2AsgVn
  | .bar2AsgPasid => fields_bar2AsgPasid
  | .hpAnast => fields_hpAnast
  | .hpCtl => fields_hpCtl
  | .hpLstat => fields_hpLstat
  | .hpFault => fields_hpFault
  | .hpIdestat => fields_hpIdestat
  | .intakeCtl => fields_intakeCtl
  | .intakeTagstat => fields_intakeTagstat
  | .intakeTmo => fields_intakeTmo
  | .intakeFwact => fields_intakeFwact
  | .intakeErrcnt => fields_intakeErrcnt
  | .intakeAbortcnt => fields_intakeAbortcnt
  | .confSlstat => fields_confSlstat
  | .confSeq => fields_confSeq
  | .confCtl => fields_confCtl
  | .zmapCtl => fields_zmapCtl
  | .zmapPoolres => fields_zmapPoolres
  | .zmapPoolstat => fields_zmapPoolstat
  | .zmapActstat => fields_zmapActstat
  | .zmapConv => fields_zmapConv
  | .zmapConvcap => fields_zmapConvcap
  | .zmapZtbase => fields_zmapZtbase
  | .zmapCkpt => fields_zmapCkpt
  | .zmapCkptlow => fields_zmapCkptlow
  | .zmapNsz => fields_zmapNsz
  | .ledgerCtl => fields_ledgerCtl
  | .ledgerFixed => fields_ledgerFixed
  | .ledgerChg0 => fields_ledgerChg0
  | .ledgerChg1 => fields_ledgerChg1
  | .ledgerEnergy => fields_ledgerEnergy
  | .ledgerStat => fields_ledgerStat
  | .ledgerWait => fields_ledgerWait
  | .ledgerPf => fields_ledgerPf
  | .zmapLand => fields_zmapLand
  | .zmapBasin => fields_zmapBasin
  | .zmapBasinstat => fields_zmapBasinstat
  | .stripeJcfg => fields_stripeJcfg
  | .stripeJsn => fields_stripeJsn
  | .stripeJstat => fields_stripeJstat
  | .stripeRetry => fields_stripeRetry
  | .schedCtl => fields_schedCtl
  | .schedDl => fields_schedDl
  | .schedSusp => fields_schedSusp
  | .schedRun => fields_schedRun
  | .schedSpill => fields_schedSpill
  | .schedStat => fields_schedStat
  | .schedCnt => fields_schedCnt
  | .schedCnt2 => fields_schedCnt2
  | .schedLatctl => fields_schedLatctl
  | .schedD0en => fields_schedD0en
  | .schedLatbin => fields_schedLatbin
  | .schedDiestat => fields_schedDiestat
  | .binorCtl => fields_binorCtl
  | .binorStat => fields_binorStat
  | .binorBrid => fields_binorBrid
  | .binorBrcap => fields_binorBrcap
  | .binorErr => fields_binorErr
  | .binorErr2 => fields_binorErr2
  | .binorCred => fields_binorCred
  | .binorCmdq => fields_binorCmdq
  | .binorEq => fields_binorEq
  | .binorTemp => fields_binorTemp
  | .seqCtl => fields_seqCtl
  | .seqProf => fields_seqProf
  | .seqFdq => fields_seqFdq
  | .seqFdqPtr => fields_seqFdqPtr
  | .seqFcq => fields_seqFcq
  | .seqFcqPtr => fields_seqFcqPtr
  | .seqBst => fields_seqBst
  | .seqBstcmd => fields_seqBstcmd
  | .seqTmo => fields_seqTmo
  | .seqStat => fields_seqStat
  | .seqDieclr => fields_seqDieclr
  | .seqCnt => fields_seqCnt
  | .seqCnt2 => fields_seqCnt2
  | .ldpcCtl => fields_ldpcCtl
  | .ldpcEsc => fields_ldpcEsc
  | .ldpcThr => fields_ldpcThr
  | .ldpcCnt => fields_ldpcCnt
  | .ldpcCnt2 => fields_ldpcCnt2
  | .ldpcSoftstat => fields_ldpcSoftstat
  | .ldpcHint => fields_ldpcHint
  | .patrolCtl => fields_patrolCtl
  | .patrolLap => fields_patrolLap
  | .patrolStat => fields_patrolStat
  | .patrolCnt => fields_patrolCnt
  | .patrolScan => fields_patrolScan
  | .reclaimCtl => fields_reclaimCtl
  | .reclaimW => fields_reclaimW
  | .reclaimStat => fields_reclaimStat
  | .reclaimCnt => fields_reclaimCnt
  | .reclaimCmd => fields_reclaimCmd
  | .stripeCtl => fields_stripeCtl
  | .stripePt => fields_stripePt
  | .stripePtcnt => fields_stripePtcnt
  | .stripeLayout => fields_stripeLayout
  | .stripePtcmd => fields_stripePtcmd
  | .stripeRbcmd => fields_stripeRbcmd
  | .stripeRbrate => fields_stripeRbrate
  | .stripeRbstat => fields_stripeRbstat
  | .stripeRbprog => fields_stripeRbprog
  | .stripeCrit => fields_stripeCrit
  | .stripeMemstat => fields_stripeMemstat
  | .stripeCnt => fields_stripeCnt
  | .stripeJmir => fields_stripeJmir
  | .digestAlloc => fields_digestAlloc
  | .digestCtxmap => fields_digestCtxmap
  | .digestCtxuse => fields_digestCtxuse
  | .digestSealstat => fields_digestSealstat
  | .digestSealcnt => fields_digestSealcnt
  | .digestCtl => fields_digestCtl
  | .digestLen => fields_digestLen
  | .digestData => fields_digestData
  | .digestStat => fields_digestStat
  | .digestSrc => fields_digestSrc
  | .digestResult => fields_digestResult
  | .keysStage => fields_keysStage
  | .keysCmd => fields_keysCmd
  | .keysWtbl => fields_keysWtbl
  | .keysCache => fields_keysCache
  | .keysSlotinfo => fields_keysSlotinfo
  | .xtsNscfg => fields_xtsNscfg
  | .tenantPfcap => fields_tenantPfcap
  | .tenantMig => fields_tenantMig
  | .tenantCnt => fields_tenantCnt
  | .tenantFncmd => fields_tenantFncmd
  | .tenantMigcmd => fields_tenantMigcmd
  | .tenantEpoch => fields_tenantEpoch
  | .tenantFncfg => fields_tenantFncfg
  | .tenantFnstat => fields_tenantFnstat
  | .tenantNscfg => fields_tenantNscfg
  | .drcGeom => fields_drcGeom
  | .drcQos => fields_drcQos
  | .drcRef => fields_drcRef
  | .drcTrain => fields_drcTrain
  | .drcOp => fields_drcOp
  | .drcPar => fields_drcPar
  | .drcEcc => fields_drcEcc
  | .drcUeaddr => fields_drcUeaddr
  | .drcScrub => fields_drcScrub
  | .drcRet => fields_drcRet
  | .drcRetcmd => fields_drcRetcmd
  | .drcSelftest => fields_drcSelftest
  | .drcSpare => fields_drcSpare
  | .drcRemap => fields_drcRemap
  | .resvPflvl => fields_resvPflvl
  | .resvPfstat => fields_resvPfstat
  | .resvRcfg => fields_resvRcfg
  | .resvCtl => fields_resvCtl
  | .resvRcfg2 => fields_resvRcfg2
  | .resvTres => fields_resvTres
  | .resvTtime => fields_resvTtime
  | .resvRstat => fields_resvRstat
  | .resvTlim => fields_resvTlim
  | .resvFan => fields_resvFan
  | .resvHeat => fields_resvHeat
  | .resvDiff => fields_resvDiff
  | .resvDts => fields_resvDts
  | .sluiceBudget => fields_sluiceBudget
  | .sluiceCost => fields_sluiceCost
  | .sluiceCost2 => fields_sluiceCost2
  | .sluiceCtl => fields_sluiceCtl
  | .sluiceStat => fields_sluiceStat
  | .pwrDom => fields_pwrDom
  | .pwrTimer => fields_pwrTimer
  | .pwrEdge => fields_pwrEdge
  | .pwrRetstat => fields_pwrRetstat
  | .pwrCnt => fields_pwrCnt
  | .pwrPins => fields_pwrPins
  | .evwCur => fields_evwCur
  | .evwStat => fields_evwStat
  | .evwNext => fields_evwNext
  | .evrecCtl => fields_evrecCtl
  | .evrecCfg => fields_evrecCfg
  | .evrecAuth => fields_evrecAuth
  | .evrecNonce => fields_evrecNonce
  | .evrecStat => fields_evrecStat
  | .evrecRsn => fields_evrecRsn
  | .evrecTime => fields_evrecTime
  | .evrecClrcmd => fields_evrecClrcmd
  | .evrecPost => fields_evrecPost
  | .evrecPdata => fields_evrecPdata
  | .sysRstcause => fields_sysRstcause
  | .sysBoot => fields_sysBoot
  | .sysWdog => fields_sysWdog
  | .sysLockstep => fields_sysLockstep
  | .sysFwact => fields_sysFwact
  | .sysRst => fields_sysRst
  | .sysSvn => fields_sysSvn
  | .sysCwdog => fields_sysCwdog

/-- Registers of the manual, part 1. -/
def regs0 : List RegId := [.sysId, .sysCap, .sysClkstat, .sysAccerr, .sysScratch, .bar2WinId, .bar2AsgCmd, .bar2AsgStat, .bar2MbxDb, .bar2AsgQt, .bar2AsgVn, .bar2AsgPasid, .hpAnast, .hpCtl, .hpLstat, .hpFault, .hpIdestat, .intakeCtl, .intakeTagstat, .intakeTmo, .intakeFwact, .intakeErrcnt, .intakeAbortcnt, .confSlstat, .confSeq]
/-- Registers of the manual, part 2. -/
def regs1 : List RegId := [.confCtl, .zmapCtl, .zmapPoolres, .zmapPoolstat, .zmapActstat, .zmapConv, .zmapConvcap, .zmapZtbase, .zmapCkpt, .zmapCkptlow, .zmapNsz, .ledgerCtl, .ledgerFixed, .ledgerChg0, .ledgerChg1, .ledgerEnergy, .ledgerStat, .ledgerWait, .ledgerPf, .zmapLand, .zmapBasin, .zmapBasinstat, .stripeJcfg, .stripeJsn, .stripeJstat]
/-- Registers of the manual, part 3. -/
def regs2 : List RegId := [.stripeRetry, .schedCtl, .schedDl, .schedSusp, .schedRun, .schedSpill, .schedStat, .schedCnt, .schedCnt2, .schedLatctl, .schedD0en, .schedLatbin, .schedDiestat, .binorCtl, .binorStat, .binorBrid, .binorBrcap, .binorErr, .binorErr2, .binorCred, .binorCmdq, .binorEq, .binorTemp, .seqCtl, .seqProf]
/-- Registers of the manual, part 4. -/
def regs3 : List RegId := [.seqFdq, .seqFdqPtr, .seqFcq, .seqFcqPtr, .seqBst, .seqBstcmd, .seqTmo, .seqStat, .seqDieclr, .seqCnt, .seqCnt2, .ldpcCtl, .ldpcEsc, .ldpcThr, .ldpcCnt, .ldpcCnt2, .ldpcSoftstat, .ldpcHint, .patrolCtl, .patrolLap, .patrolStat, .patrolCnt, .patrolScan, .reclaimCtl, .reclaimW]
/-- Registers of the manual, part 5. -/
def regs4 : List RegId := [.reclaimStat, .reclaimCnt, .reclaimCmd, .stripeCtl, .stripePt, .stripePtcnt, .stripeLayout, .stripePtcmd, .stripeRbcmd, .stripeRbrate, .stripeRbstat, .stripeRbprog, .stripeCrit, .stripeMemstat, .stripeCnt, .stripeJmir, .digestAlloc, .digestCtxmap, .digestCtxuse, .digestSealstat, .digestSealcnt, .digestCtl, .digestLen, .digestData, .digestStat]
/-- Registers of the manual, part 6. -/
def regs5 : List RegId := [.digestSrc, .digestResult, .keysStage, .keysCmd, .keysWtbl, .keysCache, .keysSlotinfo, .xtsNscfg, .tenantPfcap, .tenantMig, .tenantCnt, .tenantFncmd, .tenantMigcmd, .tenantEpoch, .tenantFncfg, .tenantFnstat, .tenantNscfg, .drcGeom, .drcQos, .drcRef, .drcTrain, .drcOp, .drcPar, .drcEcc, .drcUeaddr]
/-- Registers of the manual, part 7. -/
def regs6 : List RegId := [.drcScrub, .drcRet, .drcRetcmd, .drcSelftest, .drcSpare, .drcRemap, .resvPflvl, .resvPfstat, .resvRcfg, .resvCtl, .resvRcfg2, .resvTres, .resvTtime, .resvRstat, .resvTlim, .resvFan, .resvHeat, .resvDiff, .resvDts, .sluiceBudget, .sluiceCost, .sluiceCost2, .sluiceCtl, .sluiceStat, .pwrDom]
/-- Registers of the manual, part 8. -/
def regs7 : List RegId := [.pwrTimer, .pwrEdge, .pwrRetstat, .pwrCnt, .pwrPins, .evwCur, .evwStat, .evwNext, .evrecCtl, .evrecCfg, .evrecAuth, .evrecNonce, .evrecStat, .evrecRsn, .evrecTime, .evrecClrcmd, .evrecPost, .evrecPdata, .sysRstcause, .sysBoot, .sysWdog, .sysLockstep, .sysFwact, .sysRst, .sysSvn]
/-- Registers of the manual, part 9. -/
def regs8 : List RegId := [.sysCwdog]

/-- Every register, in the order of the manual. -/
def allRegs : List RegId := List.flatten [regs0, regs1, regs2, regs3, regs4, regs5, regs6, regs7, regs8]

end Sys2Proof.Machine
end

