-- ==== Sys2Proof/Machine/ChipTypes.lean ====
section
/-! DEFINITION. The whole part: registers, fuses and pins, and the structures of every block. -/

namespace Sys2Proof.Machine

/-- Fuses and straps (R1, R40, R289, R546) and the masked part codes of SYS_ID. -/
structure Fuses where
  /-- SYS_ID.GRADE: 0 C36-S, 1 C36-L, 2 C18-S. -/
  grade    : Nat
  fport    : Nat
  stepping : Nat
  lotTag   : Nat
  /-- SYS_BOOT.INIT and the lowest accepted SVN. -/
  init     : Bool
  svn      : Nat
  /-- Straps HP_MRG0 and HP_MRG1 as sampled at POR (R40). -/
  mrg0     : Bool
  mrg1     : Bool
  /-- Populated DRAM in GiB (SYS_CAP). -/
  dramGib  : Nat
  deriving DecidableEq, Repr

/-- A host port (R40 to R45, R62 to R65). -/
structure Port where
  /-- PERST# asserted. -/
  perst    : Bool
  training : Bool
  up       : Bool
  /-- IDE streams with keys installed and Secure; streams Insecure. -/
  secure   : List Nat
  insecure : List Nat
  deriving DecidableEq, Repr

/-- A slot of the XTS key cache (R404, R409): its number, namespace, handle, key, tags that hold a reference, time of last use. -/
structure XtsSlot where
  slot : Nat
  nsid : Nat
  handle : Nat
  key  : List Byte
  refs : List Nat
  used : Nat
  deriving DecidableEq, Repr

/-- A key slot (R403): TYPE, LEN, USAGE, handle, key material (64 bytes). -/
structure KeySlot where
  ty    : Nat
  len   : Nat
  usage : Nat
  handle : Nat
  key   : List Byte
  deriving DecidableEq, Repr

/-- What PWR keeps of domains under way and of the cores (R496 to R503): domains in entry with their commit time and target state,
domains in exit with the wake time and the state they left, cores in WFI, the last commit, levels held active by domain and source, the time
PWR_TIMER was last written. -/
structure Power where
  entry  : PMap (Nat × Nat)
  exits  : PMap (Nat × Nat)
  wfi    : List Nat
  commitAt : Option Nat
  levels : List (Nat × Nat)
  timerAt : Nat
  deriving DecidableEq, Repr

/-- A context of the digest engine (R396 to R401), allocated to a core. -/
structure DigestCtx where
  owner : Nat
  algo  : Nat
  hmac  : Bool
  keySlot : Nat
  destEn : Bool
  destSlot : Nat
  destUsage : Nat
  declLen : Nat
  /-- A message has been started; its bytes; bytes still in the 128-byte input buffer; it is being finalised. -/
  running : Bool
  msg   : List Byte
  buf   : Nat
  final : Bool
  done  : Bool
  trunc : Bool
  short : Bool
  overrun : Bool
  err   : Nat
  result : List Byte
  deriving DecidableEq, Repr

/-- The part, but for its memories and its queue of commands. -/
structure Chip where
  /-- Registers that hold another value than their reset value, by register and index. -/
  regs   : PMap Word
  fuses  : Fuses
  /-- TENANT_EPOCH.VALUE (R426). -/
  epoch  : Nat
  ports  : PMap Port
  fns    : PMap FnRec
  intake : Intake
  slices : PMap Slice
  ev     : Recorder
  z      : Zmap
  m      : Media
  xts    : List XtsSlot
  keys   : PMap KeySlot
  /-- The image MAC key of R426. -/
  macKey : List Byte
  digest : PMap DigestCtx
  pwr    : Power
  links  : PMap Link
  supply : Supply
  drcs   : PMap Drc
  /-- 64-bit words of DRAM stored poisoned (R455), by address / 8. -/
  poison : List Nat
  sys    : Sys
  /-- Bytes the step under way stores in memory, oldest first: address and bytes. It is empty between steps. -/
  wr     : List (Nat × List Byte)
  out    : List Out
  /-- Time since power-on, in ns. -/
  now    : Nat
  /-- The next free value (log 2). -/
  fresh  : Nat
  deriving DecidableEq, Repr

end Sys2Proof.Machine
end

