-- ==== Sys2Proof/Machine/ChipReset.lean ====
section
/-! DEFINITION. The part right after a power-on reset (R9): every block at the values the manual gives, and where it gives none, at
the values named in the assumption log. -/

namespace Sys2Proof.Machine

/-- INTAKE after reset: no tag in use (R84). -/
def intakeReset : Intake := { tags := [], postQ := [], nextFn := 0, drainAt := none, atc := [] }

/-- The recorder after POR (R518, R519): AON SRAM is lost; the nonce is random (EVREC_NONCE). -/
def recorderReset (nonce : Word) : Recorder where
  queues := []
  counters := []
  ring := []
  staging := []
  stagedAt := 0
  log := []
  logPages := 0
  logFull := false
  images := []
  imageSerial := 0
  ckptSerial := 0
  nextRsn := 0
  time := 0
  since := 0
  cycles := 0
  restored := false
  counting := false
  dropRun := 0
  dropped := false
  clears := 0
  nonce := nonce
  clear := none
  lastPage := none
  waitPage := false
  lastImage := none
  turn := 0
  windows := []
  ckpt := none
  ckptNew := none
  resetRsn := 0

/-- The journal before replay. -/
def journalReset : Journal where
  nextJsn := 0
  nextFrame := 0
  opened := []
  openAt := 0
  flying := []
  durable := []
  durableTo := 0
  waits := []
  trio := [0, 1, 2]
  trioCist := []
  nextPage := 0
  retained := []

/-- The ledger after reset (R187, R193). -/
def ledgerReset : Ledger where
  frozen := false
  pfCommit := false
  step := .none
  pfAt := 0
  charges := []
  erases := []
  resv := []
  opQ := []
  commitQ := []
  below := true
  starting := true
  eUse := 0
  landed := 0
  pfEnergy := 0

/-- ZMAP and the write path before replay: no namespace, no zone, no pool (log 11). -/
def zmapReset : Zmap where
  nss := []
  nsOrder := 0
  zones := []
  chains := []
  lanes := []
  sealJobs := []
  rebuilds := []
  rebuildCount := 0
  rebuildAt := 0
  mismatches := []
  imports := []
  keyNoted := []
  stamp := 0
  map := []
  reserve := []
  eraseQ := []
  handles := []
  reclaimPool := none
  hPairs := []
  zPairs := []
  foldRows := []
  bindQ := []
  relocQ := []
  fdp := false
  fdpEvents := []
  parts := []
  nextPart := 0
  rows := []
  nextRowId := 0
  pairs := []
  nextPair := 0
  freePairs := []
  tailPairs := []
  landRes := []
  loose := []
  totalPairs := 0
  landStop := false
  nextCommit := 0
  scanning := []
  retryQ := []
  segs := []
  pass := 0
  passSegs := []
  lastPassAt := 0
  resvs := []
  journal := journalReset
  ledger := ledgerReset

/-- No patrol lap. -/
def patrolReset : Patrol where
  todo := []
  page := 0
  total := 0
  pages := 0
  startNs := 0
  startTs := (0, 0)
  nextNs := 0
  pagesLast := 0
  lastTime := 0
  marks := 0
  marksLast := 0
  escalated := 0
  escalatedLast := 0
  uncorr := 0
  uncorrLast := 0
  lost := 0
  lostLast := 0
  verified := 0
  verifiedLast := 0
  mismatch := 0
  mismatchLast := 0
  hist := []
  histLast := []
  open_ := []
  zones := []
  done := true
  fresh := true
  pace := (0, 0)

/-- SCHED, the sequencers and STRIPE before the ROM loads the profile. -/
def mediaReset : Media where
  ops := []
  nextOp := 0
  rds := []
  nextRd := 0
  dies := []
  bst := []
  defects := []
  profile := none
  fcqPhase := []
  cold := []
  pools := []
  jobs := []
  rbRow := none
  rbStart := (0, 0)
  rbStartNs := 0
  slotsTotal := 0
  slotsDone := 0
  rbTimes := []
  retired := 0
  lostList := []
  rowsLost := 0
  rbLost := 0
  spillStarted := 0
  spillNoted := 0
  winReads := 0
  prevReads := 0
  hist := []
  sluice := { inUse := [], q1 := [], qb := [] }
  pins := []
  marks := []
  patrol := patrolReset
  victims := []
  folds := []
  scores := []
  progAt := []
  warned := []
  remirror := []
  copies := []
  three := none
  degUnits := []
  lapCkpt := 0

/-- The fuses and straps of a GWRX9-C36-S before its first start (log 12). -/
def fusesReset : Fuses where
  grade := 0
  fport := 2 ^ 36 - 1
  stepping := 0
  lotTag := 0
  init := false
  svn := 0
  mrg0 := false
  mrg1 := false
  dramGib := 512

/-- The bytes of an ASCII text. -/
def asciiBytes (s : String) : List Byte := s.toList.map fun ch => BitVec.ofNat 8 ch.toNat

/-- The slots the ROM sets at every reset: root key, wrap key, open seal key (R380, R404). -/
def bootKeys : PMap KeySlot :=
  [(0, ⟨2, 1, 8, 0, padTo 64 Config.rootKey⟩),
   (1, ⟨3, 1, 32, 0, padTo 64 (Config.hmac256 (padTo 64 Config.rootKey) (asciiBytes "GW-WRAP-V1"))⟩),
   (2, ⟨2, 1, 16, 0, padTo 64 (Config.hmac256 (padTo 64 (List.replicate 32 0)) (asciiBytes "GW-ZONE-SEAL-V1"))⟩)]

/-- RESV and the supply side after a POR with POR_L low and MAIN_PG low; the WARM reset is held (R471, R561). -/
def supplyReset (now : Nat) : Supply where
  porLow := true
  mainPg := false
  resChg := false
  held := true
  holdFrom := now
  cycle := true
  code := 2
  windowAt := none
  crossed := false
  posted := false
  commits := 0
  ridden := 0
  chgFrom := none
  test := none
  lowered := none
  owed := none
  overdue := false
  nextTest := 0
  fanAt := now
  autoDuty := 0
  samples := []
  tripping := []
  diff25 := []
  diff30 := []
  islands := []
  apart := []
  clamp := none
  sampleAt := now
  islandAt := now
  energyAt := now
  smart := 0

/-- A DRAM controller after a WARM reset. -/
def drcReset : Drc where
  queue := []
  rows := []
  hits := []
  ptr := []
  owed := []
  mr4 := []
  mr4Round := []
  hotRanks := []
  round := false
  window := none
  roundAt := 0
  opSince := none
  alert := false
  replayTo := 0
  broken := 0
  issued := []
  ces := []
  scrub := 0
  lapAt := 0
  spares := []
  badSpares := []
  bank := none
  pendBank := none

/-- The boot side after a WARM reset: no core runs before the ROM has started (R540). -/
def sysReset (now : Nat) (flash : PMap (List Byte)) (recs : PMap BootRec) : Sys where
  released := now
  wdogAt := now
  cores := []
  flash := flash
  bootRecs := recs
  mbox := []
  pieces := []
  running := none
  romMapped := true
  booted := false
  replayed := none
  commit := none

/-- The part after a power-on reset with the given fuses; free values are taken from `fresh` on. -/
def chipPor (fuses : Fuses) (fresh now : Nat) : Chip where
  regs := []
  fuses := fuses
  epoch := (Config.freeValue fresh).toNat % 2 ^ 32
  ports := []
  fns := []
  intake := intakeReset
  slices := []
  ev := recorderReset (Config.freeValue (fresh + 1))
  z := zmapReset
  m := mediaReset
  xts := []
  keys := []
  macKey := Config.hmac256 (padTo 64 Config.rootKey) (asciiBytes "GW-FNSTATE-V1")
  digest := []
  pwr := ⟨[], [], [], none, [], 0⟩
  links := []
  supply := supplyReset now
  drcs := []
  poison := []
  sys := sysReset now [] []
  wr := []
  out := []
  now := now
  fresh := fresh + 2

/-- The part right after its first power-on reset. -/
def chipReset : Chip := chipPor fusesReset 0 0

end Sys2Proof.Machine
end

