-- ==== Sys2Proof/Machine/State.lean ====
section
/-! DEFINITION. The state of the part as plain data, the reasons a step can stop, and the state right after reset. -/

namespace Sys2Proof.Machine

/-- A step never stops with a fault: the part raises an error flag, an event or a core's access fault, which are effects on the
state. The one name stands for the memory addresses the map of R32 does not hold, which no meaning reaches. -/
inductive Fault where
  /-- Raised by no meaning: a byte address outside R32 is answered by the access fault of R33. Safe. -/
  | outsideMap
  deriving DecidableEq, Repr

/-- Why a command has no meaning. -/
inductive Refusal where
  /-- Raised by exec for a command not modelled yet. Safe. -/
  | notModelled (mnemonic : String)
  deriving DecidableEq, Repr

/-- The whole state: the memories the cores see (R32), the part, and the commands that wait, first in, first out. -/
structure State where
  /-- Bytes of DRAM, of the SRAM buffer and of the cores' own memories, by physical address. -/
  mem     : List Host.Cell
  chip    : Chip
  pending : List Instr
  deriving DecidableEq, Repr

/-- What a byte of memory nothing has written reads as: DRAM is zero after the self-test (R465); log 7. -/
def memUnlisted : Byte := 0

/-- Memory in its canonical form: addresses strictly rising, and no entry that an unlisted address would read as. -/
def Memory.wf (m : List Host.Cell) : Bool := keysRise m && m.all fun c => c.2 != memUnlisted

/-- The part right after a power-on reset: every register and memory reset (R9). -/
def State.reset : State := { mem := [], chip := chipReset, pending := [] }

end Sys2Proof.Machine
end

