-- ==== Sys2Proof/Machine/Ops.lean ====
section
/-! DEFINITION. The named operations every meaning is written with: registers, memory, events, outputs, functions. -/

namespace Sys2Proof.Machine

/-- What a meaning answers. -/
abbrev Outcome := Host.Outcome State Fault Refusal

/-- A meaning that acts on the part alone: memory and the queue keep their contents. -/
def onChip (f : Chip → Chip) (s : State) : Outcome := .next { s with chip := f s.chip }

/-- A meaning that acts on the part and on memory. -/
def onState (f : State → State) (s : State) : Outcome := .next (f s)

/-! Registers -/

/-- Where a register's value is listed. -/
def regKey (r : RegId) (i : Nat) : Nat := r.ctorIdx * 65536 + i

/-- The reset values of the assignment entries (R53), on top of the tables' values. -/
def resetExtra (r : RegId) (i : Nat) : Nat :=
  match r with
  | .bar2AsgQt => if i % 256 = 0 then 16384 * 2 ^ 32 + 1024 * 2 ^ 16 + 64 else 1024 * 2 ^ 32 + 32 * 2 ^ 16 + 4
  | .bar2AsgVn => if i % 256 = 0 then 256 * 2 ^ 16 + 65 else 16 * 2 ^ 16 + 8
  | .bar2WinId => i
  | _ => 0

/-- The reset value of a register (the tables of spec/). -/
def regReset (r : RegId) (i : Nat) : Nat :=
  (regFields r).foldl (fun a f => a + f.rst * 2 ^ f.lo) 0 + resetExtra r i

/-- The stored value of a register. -/
def Chip.reg (c : Chip) (r : RegId) (i : Nat) : Nat :=
  match pget c.regs (regKey r i) with
  | some w => w.toNat
  | none => regReset r i

/-- Store a register's value; a register at its reset value is not listed. -/
def Chip.setReg (c : Chip) (r : RegId) (i v : Nat) : Chip :=
  if v % 2 ^ 64 = regReset r i then { c with regs := pdel c.regs (regKey r i) }
  else { c with regs := pset c.regs (regKey r i) (BitVec.ofNat 64 v) }

/-- A field of a register. -/
def Chip.fld (c : Chip) (f : Fld) (i : Nat := 0) : Nat := bitsOf (c.reg f.reg i) f.hi f.lo

/-- Whether a one-bit field is 1. -/
def Chip.flag (c : Chip) (f : Fld) (i : Nat := 0) : Bool := c.fld f i = 1

/-- Set a field of a register. -/
def Chip.setFld (c : Chip) (f : Fld) (v : Nat) (i : Nat := 0) : Chip :=
  c.setReg f.reg i (putBits (c.reg f.reg i) f.hi f.lo v)

/-- Add to a saturating counter field. -/
def Chip.addFld (c : Chip) (f : Fld) (n : Nat) (i : Nat := 0) : Chip :=
  c.setFld f (satAdd (f.hi + 1 - f.lo) (c.fld f i) n) i

/-- A field whose small values are taken as `lo`, and whose values above `hi` are taken as `hi`. -/
def Chip.clampFld (c : Chip) (f : Fld) (lo hi : Nat) (i : Nat := 0) : Nat := max lo (min hi (c.fld f i))

/-- A word made of fields. -/
def withBits (fs : List (Fld × Nat)) : Nat := fs.foldl (fun w x => putBits w x.1.hi x.1.lo x.2) 0

/-! Memory -/

/-- One byte of memory. -/
def readByte (s : State) (a : Nat) : Byte := mget memUnlisted s.mem a

/-- Store one byte of memory, keeping the canonical form. -/
def writeByte (s : State) (a : Nat) (b : Byte) : State := { s with mem := mset memUnlisted s.mem a b }

/-- The bytes from an address upward. -/
def readBytes (s : State) (a : Nat) : Nat → List Byte
  | 0 => []
  | n + 1 => readByte s a :: readBytes s (a + 1) n

/-- Store bytes from an address upward. -/
def writeBytes (s : State) (a : Nat) : List Byte → State
  | [] => s
  | b :: t => writeBytes (writeByte s a b) (a + 1) t

/-- A little-endian number in memory. -/
def readNum (s : State) (a n : Nat) : Nat := leNum (readBytes s a n)

/-- Store what a step put down for memory. -/
def flushWrites (s : State) : State :=
  s.chip.wr.foldl (fun s w => writeBytes s w.1 w.2) { s with chip := { s.chip with wr := [] } }

/-- A meaning that acts on the part and stores in memory what it put down. -/
def onChipMem (f : Chip → Chip) (s : State) : Outcome := .next (flushWrites { s with chip := f s.chip })

/-- Put bytes down to be stored in memory at the end of the step. -/
def Chip.put (c : Chip) (a : Nat) (bs : List Byte) : Chip := { c with wr := c.wr ++ [(a, bs)] }

/-! Free values, outputs, time -/

/-- Take the next free value. -/
def Chip.take (c : Chip) : Nat × Chip := ((Config.freeValue c.fresh).toNat, { c with fresh := c.fresh + 1 })

/-- Send something out. -/
def Chip.emit (c : Chip) (o : Out) : Chip := { c with out := o :: c.out }

/-- Time is at least `t`: a limit that has expired puts the present at or after its end (log 9). -/
def Chip.advanceTo (c : Chip) (t : Nat) : Chip := { c with now := max c.now t }

/-- Microseconds, milliseconds, seconds and hours in ns. -/
def us (n : Nat) : Nat := n * 1000
def ms (n : Nat) : Nat := n * 1000000
def seconds (n : Nat) : Nat := n * 1000000000
def hours (n : Nat) : Nat := n * 3600000000000

/-! The recorder's queues and counters (R513 to R517) -/

/-- The operating time now, in units of 1/1,024 h (R518). -/
def Chip.opTime (c : Chip) : Nat :=
  if c.ev.counting then c.ev.time + (c.now - c.ev.since) / 3515625000 else c.ev.time

/-- The time stamp of R11: operating time and power-cycle count. -/
def Chip.stamp (c : Chip) : Nat × Nat := (c.opTime, c.ev.cycles)

/-- The counter entry of an event that has not occurred. -/
def counterZero : Counter := ⟨0, 0, 0, (0, 0), (0, 0), (0, 0), List.replicate 8 0⟩

/-- The HIST bin of a value (R515). -/
def histBin (v : Nat) : Nat := if v < 4 then 0 else min 7 (v.log2 / 2)

/-- Add one to a bin, holding at 0xFFFF. -/
def bumpBin (h : List Nat) (k : Nat) : List Nat := h.modify k fun n => min (n + 1) 65535

/-- Update a counter entry for one event (R514, R515). -/
def countOne (e : Counter) (value : Option Nat) (ts : Nat × Nat) : Counter :=
  let e1 : Counter := { e with
    first := if e.count = 0 then ts else e.first
    last  := ts
    count := min (e.count + 1) 0xFFFFFFFF
    sat   := if e.count + 1 ≥ 0xFFFFFFFF then putBits e.sat 0 0 1 else e.sat }
  match value with
  | none => e1
  | some v =>
    let e2 : Counter := if v > e1.max then
        { e1 with max := min v 0xFFFFFFFF, maxTs := ts, sat := if v ≥ 0xFFFFFFFF then putBits e1.sat 1 1 1 else e1.sat }
      else e1
    { e2 with hist := bumpBin e2.hist (histBin v)
              sat := if e2.hist.getD (histBin v) 0 + 1 ≥ 65535 then putBits e2.sat 2 2 1 else e2.sat }

/-- Count an event in the table (R513). -/
def Chip.count (c : Chip) (e : Event) : Chip :=
  let i := counterIndex e.id
  let v := if eventHasValue e.id then e.items.getLast? else none
  { c with ev := { c.ev with counters := pset c.ev.counters i (countOne ((pget c.ev.counters i).getD counterZero) v c.stamp) } }

/-- A record is left out (R519, R528). -/
def Chip.leftOut (c : Chip) : Chip := { c with ev := { c.ev with dropped := true } }

/-- Fused fabric ports post nothing (R517). -/
def Chip.sourcePresent (c : Chip) (src : Nat) : Bool :=
  if 11 ≤ src ∧ src ≤ 46 then bitOf c.fuses.fport (src - 11)
  else if 47 ≤ src ∧ src ≤ 82 then bitOf c.fuses.fport (src - 47)
  else true

/-- Post an event from a source of R517; a full queue keeps the count and drops the record. -/
def Chip.postAs (c : Chip) (src id : Nat) (items : List Nat) (srcCode : Nat) : Chip :=
  if c.sourcePresent src then
    let e : Event := ⟨id, items, src, srcCode⟩
    let q := (pget c.ev.queues src).getD []
    if q.length < 16 then { c with ev := { c.ev with queues := pset c.ev.queues src (q ++ [e]) } }
    else ((c.count e).leftOut).addFld F.EVREC_STAT_DROPPED 1
  else c

/-- Post an event of a hardware source. -/
def Chip.post (c : Chip) (src id : Nat) (items : List Nat) : Chip := c.postAs src id items 0

/-- The source indices of R517. -/
def srcHp (n : Nat) : Nat := n
def srcIntake : Nat := 4
def srcConf : Nat := 5
def srcZmap : Nat := 6
def srcStripe : Nat := 7
def srcLedger : Nat := 8
def srcSluice : Nat := 9
def srcSched : Nat := 10
def srcSeq (n : Nat) : Nat := 11 + n
def srcBinor (n : Nat) : Nat := 47 + n
def srcLdpc : Nat := 83
def srcPatrol : Nat := 84
def srcReclaim : Nat := 85
def srcDigest : Nat := 86
def srcKeys : Nat := 87
def srcXts : Nat := 88
def srcTenant : Nat := 89
def srcDrc (n : Nat) : Nat := 90 + n
def srcSys : Nat := 98
def srcPwr : Nat := 99
def srcResv : Nat := 100
def srcEvrec : Nat := 101
def srcCore (n : Nat) : Nat := 102 + n

/-! Functions -/

/-- The assignment a function holds after POR (R53). -/
def assignReset (f : Nat) : Assign :=
  if f % 256 = 0 then ⟨64, 65, 1024, 16384, 256, false, 0⟩ else ⟨4, 8, 32, 1024, 16, false, 0⟩

/-- A function right after reset. -/
def fnReset (f : Nat) : FnRec where
  d3hot := false
  vfe := false
  pasidCap := false
  cc := 0
  rdy := false
  shst := 0
  aqa := 0
  asq := 0
  acq := 0
  intms := 0
  resetAt := none
  cleanReset := false
  shutdown := false
  abrupt := false
  sqs := []
  cqs := []
  msix := []
  pba := []
  feats := []
  coalDis := []
  coal := []
  hostId := 0
  aers := []
  pendEv := []
  d3Held := []
  asg := assignReset f
  nsids := []
  stream := none
  fence := none
  mstate := .active
  saveGen := 0
  gen := 0
  trail := []
  trailHeld := []
  aerCids := []
  freeze := none
  query := none
  ioNext := 1
  changed := []

/-- The record of a function. -/
def Chip.fn (c : Chip) (f : Nat) : FnRec := (pget c.fns f).getD (fnReset f)

/-- Replace the record of a function. -/
def Chip.setFn (c : Chip) (f : Nat) (r : FnRec) : Chip := { c with fns := pset c.fns f r }

/-- Change the record of a function. -/
def Chip.modFn (c : Chip) (f : Nat) (g : FnRec → FnRec) : Chip := c.setFn f (g (c.fn f))

/-- The port a function belongs to (R46). -/
def portOf (f : Nat) : Nat := f / 256

/-- Whether a function is a PF. -/
def isPf (f : Nat) : Bool := f % 256 = 0

/-- Whether a function exists: a PF, or a VF whose PF has VF Enable set. -/
def Chip.fnExists (c : Chip) (f : Nat) : Bool := decide (f < 1024) && (isPf f || (c.fn (portOf f * 256)).vfe)

/-- CC.EN (log 6). -/
def FnRec.en (r : FnRec) : Bool := bitOf r.cc 0

/-- CSTS.CFS: a fenced function reports a fatal status (R75). -/
def FnRec.cfs (r : FnRec) : Bool := r.fence.isSome

/-- CSTS as it reads: RDY, CFS, SHST (log 6). -/
def FnRec.csts (r : FnRec) : Nat := b2n r.rdy + 2 * b2n r.cfs + 4 * r.shst

/-- Functions of a port that exist. -/
def Chip.portFns (c : Chip) (p : Nat) : List Nat := ((List.range 256).map (p * 256 + ·)).filter c.fnExists

/-- Functions frozen, or on the way there, hold doorbells and fetch (R421 to R423). -/
def FnRec.active (r : FnRec) : Bool := r.mstate = .active

/-- No DMA and no interrupt is issued for a function: fenced, in D3hot, or frozen (R48, R75, R422). -/
def FnRec.silent (r : FnRec) : Bool :=
  r.fence.isSome || r.d3hot || !(r.mstate = .active || r.mstate = .freezing)

/-- Signal a vector of a function: nothing for a silent one; a masked vector sets its pending bit (R49, R105). -/
def Chip.msix (c : Chip) (f v : Nat) : Chip :=
  let r := c.fn f
  if r.silent then
    if r.fence.isSome then c else c.modFn f fun r => { r with pba := if r.pba.contains v then r.pba else v :: r.pba }
  else if ((pget r.msix v).map MsixEntry.mask).getD false then
    c.modFn f fun r => { r with pba := if r.pba.contains v then r.pba else v :: r.pba }
  else c.emit (.msix f v)

/-- The context of a tag in use. -/
def Chip.ctx (c : Chip) (t : Nat) : Option Ctx := pget c.intake.tags t

/-- Change the context of a tag in use. -/
def Chip.modCtx (c : Chip) (t : Nat) (g : Ctx → Ctx) : Chip :=
  { c with intake := { c.intake with tags := pmod c.intake.tags t g } }

/-- Tags in use by a function (R85), and those taken from the shared part or the admin reserve. -/
def Chip.inUse (c : Chip) (f : Nat) : Nat := (c.intake.tags.filter fun e => e.2.fn == f).length
def Chip.sharedUsed (c : Chip) : Nat := (c.intake.tags.filter fun e => e.2.part == .shared).length
def Chip.adminUsed (c : Chip) : Nat := (c.intake.tags.filter fun e => e.2.part == .adminReserve).length

/-- The guaranteed part of the tag pool (R84): every entry in force counts. -/
def Chip.guaranteed (c : Chip) : Nat := ((List.range 1024).map fun f => (c.fn f).asg.tagMin).sum

/-- Free tags of the shared part (R84). -/
def Chip.sharedFree (c : Chip) : Nat := 65536 - 64 - c.guaranteed - c.sharedUsed

/-- Send a command's completion event to the post stage (R103); a command sends one (R110). -/
def Chip.complete (c : Chip) (t : Nat) (st : Status) (dw0 : Nat := 0) : Chip :=
  match c.ctx t with
  | none => c
  | some x =>
    if x.sent then c
    else
      let c := c.modCtx t fun x => { x with sent := true, st := .post, status := st, dw0 := dw0 }
      { c with intake := { c.intake with postQ := c.intake.postQ ++ [.done t st dw0] } }

/-- The words of a submission entry, and the fields every command has (log 6). -/
def sqeDw (e : Sqe) (i : Nat) : Nat := e.getD i 0
def sqeOpc (e : Sqe) : Nat := bitsOf (sqeDw e 0) 7 0
def sqeCid (e : Sqe) : Nat := bitsOf (sqeDw e 0) 31 16
def sqeNsid (e : Sqe) : Nat := sqeDw e 1
def sqeSlba (e : Sqe) : Nat := sqeDw e 10 + sqeDw e 11 * 2 ^ 32
def sqeNlb (e : Sqe) : Nat := bitsOf (sqeDw e 12) 15 0 + 1

/-- The kind of a command: the word of a submission entry at its context. -/
def Ctx.dw (x : Ctx) (i : Nat) : Nat := sqeDw x.sqe i
def Ctx.nsid (x : Ctx) : Nat := sqeNsid x.sqe
def Ctx.cid (x : Ctx) : Nat := sqeCid x.sqe

/-- The status code type and code of a status (R120; the rest is the NVMe standard's, log 6): SCT × 65536 + SC, as R87 packs it. -/
def statusCode : Status → Nat
  | .success => 0
  | .invalidOpcode => 0x01
  | .invalidField => 0x02
  | .dataTransferError => 0x04
  | .internalError => 0x06
  | .abortRequested => 0x07
  | .invalidNamespaceOrFormat => 0x0B
  | .commandSequenceError => 0x0C
  | .invalidSglSegment => 0x0D
  | .invalidSglCount => 0x0E
  | .dataSglLength => 0x0F
  | .metadataSglLength => 0x10
  | .sglType => 0x11
  | .prpOffset => 0x13
  | .sanitizeFailed => 0x1C
  | .namespaceWriteProtected => 0x20
  | .lbaOutOfRange => 0x80
  | .capacityExceeded => 0x81
  | .namespaceNotReady => 0x82
  | .reservationConflict => 0x83
  | .invalidQueueId => 0x10001
  | .invalidQueueSize => 0x10002
  | .abortLimit => 0x10003
  | .asyncLimit => 0x10005
  | .invalidFirmwareSlot => 0x10006
  | .invalidFirmwareImage => 0x10007
  | .invalidLogPage => 0x10009
  | .firmwareNeedsReset => 0x1000B
  | .featureNotSaveable => 0x1000D
  | .featureNotChangeable => 0x1000E
  | .activationTimeViolation => 0x10012
  | .firmwareProhibited => 0x10013
  | .overlappingRange => 0x10014
  | .nsInsufficientCapacity => 0x10015
  | .nsIdUnavailable => 0x10016
  | .nsAlreadyAttached => 0x10018
  | .nsNotAttached => 0x1001A
  | .controllerListInvalid => 0x1001C
  | .nsAttachLimit => 0x10027
  | .invalidPlacement => 0x1002A
  | .zoneBoundary => 0x100B8
  | .zoneFull => 0x100B9
  | .zoneReadOnly => 0x100BA
  | .zoneOffline => 0x100BB
  | .zoneInvalidWrite => 0x100BC
  | .tooManyActive => 0x100BD
  | .tooManyOpen => 0x100BE
  | .invalidZoneTransition => 0x100BF
  | .writeFault => 0x20080
  | .unrecoveredRead => 0x20081
  | .guardError => 0x20082
  | .appTagError => 0x20083
  | .refTagError => 0x20084
  | .compareFailure => 0x20085
  | .accessDenied => 0x20086
  | .deallocatedRead => 0x20087
  | .asymPersistentLoss => 0x30001
  | .asymInaccessible => 0x30002
  | .asymTransition => 0x30003
  | .sealMismatch => 0x70080
  | .functionFrozen => 0x70081
  | .energyTimeout => 0x70082
  | .rowLost => 0x70083

/-- Do something with the command in a tag; an event for a tag that holds none has no effect (log 10). -/
def Chip.withCtx (c : Chip) (t : Nat) (g : Ctx → Chip → Chip) : Chip :=
  match c.ctx t with
  | some x => g x c
  | none => c

/-- Dword 0 of the completion of an Asynchronous Event Request: a number per kind of event (log 6). -/
def asyncCode : AsyncEvent → Nat
  | .invalidDoorbell => 0x100
  | .anaChange => 0x302
  | .zoneDescriptorChanged _ => 0xEF02
  | .namespaceChanged _ => 0x002
  | .lbaStatus _ => 0x502
  | .fdpEvent _ => 0x602
  | .criticalWarning _ => 0x001
  | .reservationLog _ => 0x006
  | .firmwareActivation => 0x102

/-- An asynchronous event of a function: it completes the oldest outstanding request, or stays pending (R50, R159, R422). -/
def Chip.asyncEvent (c : Chip) (f : Nat) (e : AsyncEvent) : Chip :=
  let r := c.fn f
  if r.fence.isSome then c
  else match r.aers, r.active with
    | t :: rest, true => (c.modFn f fun r => { r with aers := rest }).complete t .success (asyncCode e)
    | _, _ => c.modFn f fun r => { r with pendEv := if r.pendEv.contains e then r.pendEv else r.pendEv ++ [e] }

/-- Whether a namespace exists. -/
def Chip.ns (c : Chip) (n : Nat) : Option NsRec := pget c.z.nss n

/-- Bytes of an LBA of a format (R126), and metadata bytes. -/
def lbaBytes (fmt : Nat) : Nat := if fmt = 4 ∨ fmt = 5 then 512 else 4096
def metaBytes (fmt : Nat) : Nat := [0, 8, 16, 64, 0, 8].getD fmt 0

/-- LBAs of a format in a 4 KiB unit, and in a granule of 1 MiB (R20). -/
def lbasPerUnit (fmt : Nat) : Nat := 4096 / lbaBytes fmt
def lbasPerGranule (fmt : Nat) : Nat := 1048576 / lbaBytes fmt

/-- Functions attached to a namespace. -/
def Chip.attached (c : Chip) (n : Nat) : List Nat := (c.fns.filter fun e => e.2.nsids.contains n).map (·.1)

end Sys2Proof.Machine
end

