-- ==== Sys2Proof/Machine/Pipeline.lean ====
section
/-! DEFINITION. The way of a media operation: its request to the ledger, its request to the sluice, its die's queue and the pick that
posts it to the sequencer (R187 to R194, R206 to R212, R478, R479). -/

namespace Sys2Proof.Machine

/-- Change ZMAP's state, the ledger's, the media side's. -/
def Chip.modZ (c : Chip) (g : Zmap → Zmap) : Chip := { c with z := g c.z }
def Chip.modL (c : Chip) (g : Ledger → Ledger) : Chip := { c with z := { c.z with ledger := g c.z.ledger } }
def Chip.modM (c : Chip) (g : Media → Media) : Chip := { c with m := g c.m }

/-- An operation. -/
def Chip.op (c : Chip) (o : Nat) : Option Op := pget c.m.ops o

/-- Change an operation. -/
def Chip.modOp (c : Chip) (o : Nat) (g : Op → Op) : Chip := c.modM fun m => { m with ops := pmod m.ops o g }

/-- A die nothing has used yet. -/
def dieReset : Die where
  st := .idle
  queue := []
  posted := []
  skips := 0
  susp := none
  suspAt := 0
  confAt := none
  served := 0
  faulted := false
  retired := false
  identifying := false

/-- A die. -/
def Chip.die (c : Chip) (d : Nat) : Die := (pget c.m.dies d).getD dieReset

/-- Change a die. -/
def Chip.modDie (c : Chip) (d : Nat) (g : Die → Die) : Chip :=
  c.modM fun m => { m with dies := pset m.dies d (g ((pget m.dies d).getD dieReset)) }

/-- Whether an operation reads. -/
def Routine.isRead : Routine → Bool
  | .read | .readRetry | .softRead => true
  | _ => false

/-- Whether an operation programs or erases. -/
def Routine.isProgram : Routine → Bool
  | .programQlc | .programSlc => true
  | _ => false

/-- Whether an operation is charged by the ledger (R188). -/
def Routine.charged (r : Routine) : Bool := r.isProgram || r = .erase

/-- The charge of an operation in µJ (R188). -/
def Chip.charge (c : Chip) (o : Op) : Nat :=
  match o.rt with
  | .programQlc => c.fld F.LEDGER_CHG0_QLC_PRG_UJ
  | .programSlc => c.fld F.LEDGER_CHG1_SLC_PRG_UJ
  | .erase => if o.pslc then c.fld F.LEDGER_CHG1_SLC_ERASE_UJ else c.fld F.LEDGER_CHG0_QLC_ERASE_UJ
  | _ => 0

/-- The tokens an operation asks the sluice for, in mW (R478). -/
def Chip.tokenCost (c : Chip) (o : Op) : Nat :=
  match o.rt with
  | .programQlc => c.fld F.SLUICE_COST_PRG_QLC_MW
  | .programSlc => c.fld F.SLUICE_COST_PRG_SLC_MW
  | .erase => c.fld F.SLUICE_COST_ERASE_MW
  | .softRead => c.fld F.SLUICE_COST_SOFT_MW
  | _ => 0

/-- FIXED_MJ as taken: at least 3,000 (LEDGER_FIXED), in µJ. -/
def Chip.fixedUj (c : Chip) : Nat := max 3000 (c.fld F.LEDGER_FIXED_FIXED_MJ) * 1000

/-- need of R187, in µJ. -/
def Chip.needUj (c : Chip) : Nat :=
  c.fixedUj + (c.z.ledger.charges.map (·.2)).sum + (c.z.ledger.resv.map (·.2.uj)).sum

/-- DERATE_EIGHTHS as taken: 4 to 8, otherwise 7 (LEDGER_CTL). -/
def Chip.derate (c : Chip) : Nat :=
  let d := c.fld F.LEDGER_CTL_DERATE_EIGHTHS
  if 4 ≤ d ∧ d ≤ 8 then d else 7

/-- avail of R187, in µJ. -/
def Chip.availUj (c : Chip) : Nat := c.z.ledger.eUse * c.derate / 8

/-- Data of admitted commitments not yet released, in bytes (R189). -/
def Chip.committedBytes (c : Chip) : Nat := (c.z.ledger.resv.map (·.2.bytes)).sum

/-- Room of the erased landing reserve, in bytes: 24 MiB for each cistern (R189, R194). -/
def Chip.landRoom (c : Chip) : Nat := c.z.landRes.length * 24 * 2 ^ 20

/-- An operation fits (R189). -/
def Chip.opFits (c : Chip) (r : LedgerReq) : Bool := !c.z.ledger.frozen && decide (c.needUj + r.uj ≤ c.availUj)

/-- A commitment fits (R189). -/
def Chip.commitFits (c : Chip) (r : LedgerReq) : Bool :=
  !c.z.ledger.frozen
    && decide (c.needUj + r.uj + max 500 (c.fld F.LEDGER_CTL_OPS_FLOOR_MJ) * 1000 ≤ c.availUj)
    && decide (c.committedBytes + r.bytes ≤ c.clampFld F.LEDGER_CTL_COMMIT_MAX_MIB 64 4096 * 2 ^ 20)
    && decide (2 * (c.committedBytes + r.bytes) ≤ c.landRoom)

/-- The ledger admits an operation: it holds its charge and goes on to the sluice (R187, R192). -/
def Chip.admitOp (c : Chip) (r : LedgerReq) : Chip :=
  let er := ((c.op r.id).map fun o => o.rt == .erase).getD false
  (c.modL fun l => { l with charges := pset l.charges r.id r.uj, erases := if er then r.id :: l.erases else l.erases }).modOp r.id
    fun o => { o with stage := .admitted, charge := r.uj }

/-- Admit waiting operations in arrival order; one that does not fit holds those behind it (R190). -/
def Chip.admitOps : List LedgerReq → Chip → Chip
  | [], c => c.modL fun l => { l with opQ := [] }
  | r :: t, c => if c.opFits r then admitOps t (c.admitOp r) else c.modL fun l => { l with opQ := r :: t }

/-- Admit waiting commitments in arrival order; the tags admitted are returned (R190). -/
def Chip.admitCommits : List LedgerReq → Chip → Chip × List Nat
  | [], c => (c.modL fun l => { l with commitQ := [] }, [])
  | r :: t, c =>
    if c.commitFits r then
      let (c', ts) := admitCommits t ((c.modL fun l => { l with resv := pset l.resv r.id r }).modCtx r.tag
        fun x => { x with admitted := true })
      (c', r.tag :: ts)
    else (c.modL fun l => { l with commitQ := r :: t }, [])

/-- The ledger takes what it can: operations, then commitments; the two queues do not block each other (R190). -/
def Chip.ledgerPump (c : Chip) : Chip × List Nat :=
  let c := admitOps c.z.ledger.opQ c
  admitCommits c.z.ledger.commitQ c

/-- FLASH_MW as taken, times the thermal factor (R479, R480). -/
def Chip.effectiveMw (c : Chip) : Nat :=
  max 2000 (c.fld F.SLUICE_BUDGET_FLASH_MW) * c.fld F.SLUICE_STAT_FACTOR_PCT / 100

/-- Tokens in use, and those in use by class B. -/
def Chip.tokensUsed (c : Chip) : Nat := (c.m.sluice.inUse.map SlReq.mw).sum
def Chip.tokensB (c : Chip) : Nat := ((c.m.sluice.inUse.filter (·.cls = .b)).map SlReq.mw).sum

/-- A request fits: within the budget, or larger than the budget and alone; none is granted while a request larger than the
budget holds tokens or stands at the head of a queue, but that one (R479). -/
def Chip.tokensFit (c : Chip) (r : SlReq) (otherHead : Option SlReq) : Bool :=
  let eff := c.effectiveMw
  if r.mw > eff then c.m.sluice.inUse.isEmpty
  else decide (c.tokensUsed + r.mw ≤ eff) && !(c.m.sluice.inUse.any (·.mw > eff)) && !(otherHead.any fun h => h.mw > eff)

/-- A B request stays within its share while a D1 request waits (R479). -/
def Chip.bShareOk (c : Chip) (r : SlReq) : Bool :=
  c.m.sluice.q1.isEmpty || decide ((c.tokensB + r.mw) * 100 ≤ min 100 (c.fld F.SLUICE_CTL_B_MAX_PCT) * c.effectiveMw)

/-- The class order of picks: lower is first (R208). -/
def Cls.rank : Cls → Nat
  | .rt => 0
  | .d0 => 1
  | .d1 => 2
  | .b => 3

/-- The key under which a block's pool or cistern is pinned (R324, R325). -/
def cisternKey (die block : Nat) : Nat := 2 ^ 63 + die * 65536 + block

/-- The pin key of an operation's block: its pool where a pool holds the block, otherwise the cistern. -/
def Chip.pinKey (c : Chip) (die block : Nat) : Nat :=
  match pfind c.m.pools fun _ p => p.ptstate ≠ 0 && p.slots.any fun s => (s.die, s.block) == (die, block) || s.r == some (die, block) ||
      (s.f.map fun x => (x.1, x.2.1)) == some (die, block) with
  | some (p, _) => p
  | none => cisternKey die block

/-- Pins on a key. -/
def Chip.pinned (c : Chip) (k : Nat) : Nat := mget 0 c.m.pins k

/-- Add a pin, take one away (R325). -/
def Chip.pin (c : Chip) (k : Nat) : Chip := c.modM fun m => { m with pins := mset 0 m.pins k (mget 0 m.pins k + 1) }
def Chip.unpin (c : Chip) (k : Nat) : Chip := c.modM fun m => { m with pins := mset 0 m.pins k (mget 0 m.pins k - 1) }

/-- An operation of the die's queue may be picked: an erase not while its block is pinned; while an operation is suspended only
D0 and D1 reads; from PF_COMMIT on class RT only (R197, R208, R325). -/
def Chip.pickable (c : Chip) (d : Die) (o : Op) : Bool :=
  (!c.z.ledger.pfCommit || o.cls = .rt) &&
  (if o.rt = .erase then c.pinned (c.pinKey o.die o.block) = 0 else true) &&
  (if d.susp.isSome then o.rt.isRead && (o.cls = .d0 || o.cls = .d1) else true)

/-- The oldest of a class in a queue. -/
def Chip.oldest (c : Chip) (d : Die) (k : Cls) : Option Nat :=
  d.queue.find? fun o => (c.op o).any fun x => x.cls = k && c.pickable d x

/-- The one with the earliest deadline of a class in a queue. -/
def Chip.earliest (c : Chip) (d : Die) (k : Cls) : Option Nat :=
  (d.queue.filter fun o => (c.op o).any fun x => x.cls = k && c.pickable d x).foldl (init := none) fun best o =>
    match best with
    | none => some o
    | some b =>
      let dl := fun i => ((c.op i).bind Op.deadline).getD (2 ^ 64)
      if dl o < dl b then some o else some b

/-- B_SHARE as taken: 1 to 64 (SCHED_SUSP). -/
def Chip.bShare (c : Chip) : Nat := c.clampFld F.SCHED_SUSP_B_SHARE 1 64

/-- The pick of R208: the operation, and the skips after it. -/
def Chip.pickNext (c : Chip) (d : Die) : Option (Nat × Nat) :=
  match c.oldest d .rt with
  | some o => some (o, d.skips)
  | none =>
  match c.earliest d .d0 with
  | some o => some (o, d.skips)
  | none =>
    let b := c.oldest d .b
    let aged := (b.bind c.op).any fun x => c.now - x.arrived ≥ ms (max 5 (c.fld F.SCHED_DL_B_AGE_MS))
    match aged, b with
    | true, some o => some (o, 0)
    | _, _ =>
      match c.earliest d .d1 with
      | some o => if b.isNone || d.skips < c.bShare then some (o, d.skips + 1) else b.map (·, 0)
      | none => b.map (·, 0)

/-- The state a die takes when an operation is picked (R209). -/
def stateFor (r : Routine) : DieState :=
  match r with
  | .programQlc | .programSlc => .program
  | .erase => .erase
  | _ => .read

/-- A die can start an operation: its array is free and no resume has been issued (R206, R209, R212). -/
def Die.canStart (d : Die) : Bool :=
  match d.st with
  | .idle => d.posted.isEmpty
  | .prgSusp | .ersSusp => d.posted.length ≤ 1
  | _ => false

/-- Pick and post the next operation of a die that can start one (R206, R208). -/
def Chip.diePick (c : Chip) (d : Nat) : Chip :=
  let die := c.die d
  if die.canStart && !die.faulted then
    match c.pickNext die with
    | none => c
    | some (o, sk) =>
      let rt := ((c.op o).map Op.rt).getD .status
      (c.modDie d fun x => { x with queue := x.queue.filter (· != o), posted := x.posted ++ [o], skips := sk, st := stateFor rt }).modOp o
        fun x => { x with stage := .posted }
  else c

/-- Queue an operation on its die (R206) and pick if the die is free. -/
def Chip.queueOp (c : Chip) (o : Nat) : Chip :=
  match c.op o with
  | none => c
  | some x =>
    ((c.modOp o fun x => { x with stage := .queued }).modDie x.die fun d => { d with queue := d.queue ++ [o] }).diePick x.die

/-- Grant a request its tokens: the operation goes to its die's queue (R207, R479). -/
def Chip.grantTokens (c : Chip) (r : SlReq) : Chip :=
  let c := c.modM fun m => { m with sluice := { m.sluice with inUse := r :: m.sluice.inUse } }
  if r.key % 2 = 0 then (c.modOp (r.key / 2) fun o => { o with tokens := r.mw }).queueOp (r.key / 2) else c

/-- Let the sluice grant what it can, in at most `n` grants (R479). -/
def Chip.sluicePump : Nat → Chip → Chip
  | 0, c => c
  | n + 1, c =>
    match c.m.sluice.q1, c.m.sluice.qb with
    | r :: t, qb =>
      if c.tokensFit r qb.head? then
        sluicePump n ((c.modM fun m => { m with sluice := { m.sluice with q1 := t } }).grantTokens r)
      else match qb with
        | b :: bt =>
          if c.tokensFit b (some r) && c.bShareOk b then
            sluicePump n ((c.modM fun m => { m with sluice := { m.sluice with qb := bt } }).grantTokens b)
          else c
        | [] => c
    | [], b :: bt =>
      if c.tokensFit b none then
        sluicePump n ((c.modM fun m => { m with sluice := { m.sluice with qb := bt } }).grantTokens b)
      else c
    | [], [] => c

/-- Let the sluice grant what it can. -/
def Chip.sluiceGo (c : Chip) : Chip := sluicePump (c.m.sluice.q1.length + c.m.sluice.qb.length) c

/-- Ask the sluice for tokens; RT passes without (R479). -/
def Chip.askSluice (c : Chip) (r : SlReq) : Chip :=
  if r.cls = .rt then if r.key % 2 = 0 then c.queueOp (r.key / 2) else c
  else
    (c.modM fun m => { m with sluice :=
      if r.cls = .b then { m.sluice with qb := m.sluice.qb ++ [r] } else { m.sluice with q1 := m.sluice.q1 ++ [r] } }).sluiceGo

/-- Give tokens back and grant anew (R478, R479). -/
def Chip.releaseTokens (c : Chip) (key : Nat) : Chip :=
  let keep := fun l : List SlReq => l.filter (·.key != key)
  (c.modM fun m => { m with sluice := ⟨keep m.sluice.inUse, keep m.sluice.q1, keep m.sluice.qb⟩ }).sluiceGo

/-- An operation as it is posted, with what does not vary. -/
def mkOp (rt : Routine) (die block wl : Nat) (pslc : Bool) (cls : Cls) (p : Purpose) (data : List (List Byte) := []) : Op where
  rt := rt
  die := die
  block := block
  wl := wl
  cuFirst := 0
  cuCount := 1
  retryIdx := 0
  pslc := pslc
  param := 0
  pdata := 0
  cls := cls
  purpose := p
  data := data
  stage := .created
  arrived := 0
  deadline := none
  runAt := 0
  ran := 0
  suspends := 0
  wasSusp := false
  started := false
  lost := 0
  badPolls := 0
  charge := 0
  tokens := 0
  ranOut := false
  phase := .idle
  step := 0
  raw := []
  dieStatus := 0
  eraseCount := 0
  buf := 0

/-- Post a new operation: a program or erase waits for its ledger request (R192), but passes neither ledger nor sluice from
PF_COMMIT on (R197); a soft read waits for its sluice request; any other goes to its die. -/
def Chip.newOp (c : Chip) (o : Op) : Chip × Nat :=
  let i := c.m.nextOp
  let o := { o with arrived := c.now }
  let c1 := c.modM fun m => { m with ops := pset m.ops i o, nextOp := i + 1 }
  if o.cls = .rt then (c1.queueOp i, i)
  else if o.rt.charged then (c1, i)
  else if o.rt = .softRead then (c1.modOp i fun o => { o with stage := .admitted }, i)
  else (c1.queueOp i, i)

/-- LEDGER_ADMIT_OPERATION (R189, R190): an operation asks the ledger in arrival order. -/
def Chip.askLedger (c : Chip) (i : Nat) : Chip × List Nat :=
  match c.op i with
  | some o =>
    if o.stage = .created && o.rt.charged then
      let r : LedgerReq := ⟨i, 0, c.charge o, 0⟩
      let waits := !(c.z.ledger.opQ.isEmpty && c.opFits r)
      let c := (c.modOp i fun o => { o with stage := .ledger }).modL fun l => { l with opQ := l.opQ ++ [r] }
      (if waits then c.addFld F.LEDGER_WAIT_OP_WAITS 1 else c).ledgerPump
    else (c, [])
  | none => (c, [])

/-- An operation gives up its ledger charge (R191). -/
def Chip.releaseCharge (c : Chip) (i : Nat) : Chip :=
  c.modL fun l => { l with charges := pdel l.charges i, erases := l.erases.filter (· != i), opQ := l.opQ.filter (·.id != i) }

/-- Forget an operation: charge, tokens, its places on its die. -/
def Chip.dropOp (c : Chip) (i : Nat) : Chip :=
  match c.op i with
  | none => c
  | some o =>
    let c := (c.releaseCharge i).modM fun m => { m with ops := pdel m.ops i }
    let c := c.modDie o.die fun d => { d with queue := d.queue.filter (· != i), posted := d.posted.filter (· != i) }
    c.releaseTokens (2 * i)

end Sys2Proof.Machine
end

