-- ==== Sys2Proof/Machine/Stripes.lean ====
section
/-! DEFINITION. Pools on dies: roles and places of strips, P and Q, and the choice of spare blocks (R138, R279, R352 to R361, R576). -/

namespace Sys2Proof.Machine

/-- The parts of a die number (R516). -/
def memberOf (die : Nat) : Nat := die / 128
def subOf (die : Nat) : Nat := die / 16 % 8

/-- The slot that holds strip k of row r (R352). -/
def slotOf (r k : Nat) : Nat := (k + r) % 18

/-- The data strip, row and code unit of a 4 KiB unit of a pool (R138). -/
def rowOfUnit (u : Nat) : Nat := u / 1024
def stripOfUnit (u : Nat) : Nat := u % 1024 / 64
def cuOfUnit (u : Nat) : Nat := u % 64

/-- A pool-table entry. -/
def Chip.pool (c : Chip) (p : Nat) : Option Pool := pget c.m.pools p

/-- Change a pool-table entry. -/
def Chip.modPool (c : Chip) (p : Nat) (g : Pool → Pool) : Chip := c.modM fun m => { m with pools := pmod m.pools p g }

/-- Change a slot of a pool. -/
def Chip.modSlot (c : Chip) (p j : Nat) (g : Slot → Slot) : Chip := c.modPool p fun q => { q with slots := q.slots.modify j g }

/-- Slots degraded and not fully rebuilt (R351 DEG). -/
def Pool.deg (p : Pool) : Nat := (p.slots.filter fun s => s.pstate == 1 || s.pstate == 2 || s.pstate == 4).length

/-- The places of R355 but the forward substitute. -/
def Slot.homePlace (s : Slot) (r : Nat) : Option (Nat × Nat × Nat) :=
  if (s.pstate = 2 ∨ s.pstate = 3) ∧ r < s.rDone then s.r.map fun x => (x.1, x.2, r)
  else if s.pstate = 0 then some (s.die, s.block, r)
  else none

/-- Where chunk (r, j) is read from (R355); `none` is reconstruction from the row. -/
def Slot.readPlace (s : Slot) (r : Nat) : Option (Nat × Nat × Nat) :=
  match s.f with
  | some (d, b, r0) => if r ≥ r0 then some (d, b, r - r0) else s.homePlace r
  | none => s.homePlace r

/-- Where a host row's strip in slot j is programmed: the forward substitute or the primary block (R159, R364). -/
def Slot.writePlace (s : Slot) (r : Nat) : Nat × Nat × Nat :=
  match s.f with
  | some (d, b, r0) => if r ≥ r0 then (d, b, r - r0) else (s.die, s.block, r)
  | none => (s.die, s.block, r)

/-- The place strip k of a row of a pool is read from. -/
def Chip.stripPlace (c : Chip) (p r k : Nat) : Option (Nat × Nat × Nat) :=
  ((c.pool p).bind fun q => q.slots[slotOf r k]?).bind fun s => s.readPlace r

/-- The chunk of a pool's 4 KiB unit, if it is not reconstructed (R138, R355). -/
def Chip.unitChunk (c : Chip) (p u : Nat) : Option Chunk :=
  (c.stripPlace p (rowOfUnit u) (stripOfUnit u)).map fun x => ⟨x.1, x.2.1, x.2.2, cuOfUnit u, false⟩

/-! GF(2^8) with x^8 + x^4 + x^3 + x^2 + 1, g = 2 (R356) -/

/-- Multiply by g. -/
def gfDouble (a : Byte) : Byte := if a.msb then (a <<< 1) ^^^ 0x1D#8 else a <<< 1

/-- Multiply by g^n. -/
def gfPow (a : Byte) : Nat → Byte
  | 0 => a
  | n + 1 => gfPow (gfDouble a) n

/-- Product, over the bits of the second factor. -/
def gfMul (a b : Byte) : Byte :=
  (List.range 8).foldl (fun acc i => if b.getLsbD i then acc ^^^ gfPow a i else acc) 0

/-- Inverse: a^254. -/
def gfInv (a : Byte) : Byte :=
  let a2 := gfMul a a
  let a4 := gfMul a2 a2
  let a8 := gfMul a4 a4
  let a16 := gfMul a8 a8
  let a32 := gfMul a16 a16
  let a64 := gfMul a32 a32
  let a128 := gfMul a64 a64
  gfMul a128 (gfMul a64 (gfMul a32 (gfMul a16 (gfMul a8 (gfMul a4 a2)))))

/-- Combine two byte strings place by place; the shorter is taken as followed by zeros. -/
def zipBytes (f : Byte → Byte → Byte) : List Byte → List Byte → List Byte
  | [], [] => []
  | a :: s, [] => f a 0 :: zipBytes f s []
  | [], b :: t => f 0 b :: zipBytes f [] t
  | a :: s, b :: t => f a b :: zipBytes f s t

/-- The sum of two chunks. -/
def xorBytes (a b : List Byte) : List Byte := trimZeros (zipBytes (· ^^^ ·) a b)

/-- A chunk times g^k. -/
def scaleBytes (k : Nat) (a : List Byte) : List Byte := a.map fun x => gfPow x k

/-- P of the data chunks at one offset (R356). -/
def parityP (ds : List (List Byte)) : List Byte := ds.foldl xorBytes []

/-- Q of the data chunks at one offset (R356). -/
def parityQ (ds : List (List Byte)) : List Byte := (ds.zipIdx.map fun x => scaleBytes x.2 x.1).foldl xorBytes []

/-- g^-i for one chunk: multiply by g^(255 - i). -/
def unscaleBytes (i : Nat) (a : List Byte) : List Byte := scaleBytes ((255 - i) % 255) a

/-- The chunk of strip k from 16 others of its row, by strip (R357). `none`: the choice does not determine it. -/
def reconstruct (k : Nat) (got : PMap (List Byte)) : Option (List Byte) :=
  let data := (List.range 16).filter fun i => (pget got i).isSome
  let missing := (List.range 16).filter fun i => (pget got i).isNone
  let pd := (pget got 16).map fun p => data.foldl (fun a i => xorBytes a ((pget got i).getD [])) p
  let qd := (pget got 17).map fun q => data.foldl (fun a i => xorBytes a (scaleBytes i ((pget got i).getD []))) q
  let all : Option (List (List Byte)) :=
    match missing, pd, qd with
    | [], _, _ => some ((List.range 16).map fun i => (pget got i).getD [])
    | [i], some p, _ => some ((List.range 16).map fun x => if x = i then p else (pget got x).getD [])
    | [i], none, some q => some ((List.range 16).map fun x => if x = i then trimZeros (unscaleBytes i q) else (pget got x).getD [])
    | [i, j], some p, some q =>
      let den := gfInv (gfPow 1 i ^^^ gfPow 1 j)
      let di := trimZeros ((xorBytes q (scaleBytes j p)).map fun b => gfMul b den)
      let dj := xorBytes p di
      some ((List.range 16).map fun x => if x = i then di else if x = j then dj else (pget got x).getD [])
    | _, _, _ => none
  all.map fun ds => if k = 16 then parityP ds else if k = 17 then parityQ ds else ds.getD k []

/-! Spare blocks -/

/-- BLOCKS of the loaded profile (R284). -/
def Chip.blocks (c : Chip) : Nat := (c.m.profile.map Profile.blocks).getD 2748

/-- A block the tables say nothing else of (R289): spare, not trusted as erased. -/
def bstFresh : Bst where
  count := 0
  owner := 6
  ptr := 0
  pslc := false
  st := .incomplete
  rated := false

/-- The key of a block: die × 4096 + block. -/
def bkey (die block : Nat) : Nat := die * 4096 + block

/-- The block state table entry of a block (R287). -/
def Chip.bst (c : Chip) (die block : Nat) : Bst := mget bstFresh c.m.bst (bkey die block)

/-- Change a block state table entry. -/
def Chip.modBst (c : Chip) (die block : Nat) (g : Bst → Bst) : Chip :=
  c.modM fun m => { m with bst := mset bstFresh m.bst (bkey die block) (g (c.bst die block)) }

/-- A block is bad. -/
def Bst.bad (b : Bst) : Bool := b.st = .factoryBad || b.st = .grownBad

/-- A member whose slots are degraded is lost (STRIPE_MEMSTAT.LOST, R358). -/
def Chip.memberLost (c : Chip) (m : Nat) : Bool := bitOf (c.fld F.STRIPE_MEMSTAT_LOST) m || c.flag F.BINOR_STAT_LOST m

/-- A member of the drive: its port is present. -/
def Chip.memberPresent (c : Chip) (m : Nat) : Bool := bitOf c.fuses.fport m

/-- Spare blocks of a die, outside the set-aside area (R361, R576). -/
def Chip.spares (c : Chip) (die : Nat) : List Nat :=
  (List.range (c.blocks - 24)).filter fun b => (c.bst die b).owner == 6 && !(c.bst die b).bad && (c.bst die b).st != .erasing

/-- Spare blocks of a member. -/
def Chip.memberSpares (c : Chip) (m : Nat) : Nat := ((List.range 128).map fun d => (c.spares (m * 128 + d)).length).sum

/-- Members that hold a primary, rebuild or forward block of a pool. -/
def Pool.members (p : Pool) : List Nat :=
  (p.slots.map fun s => memberOf s.die) ++ (p.slots.filterMap fun s => s.r.map fun x => memberOf x.1)
    ++ (p.slots.filterMap fun s => s.f.map fun x => memberOf x.1)

/-- The first element that is best by a score. -/
def bestBy (score : Nat → Nat) : List Nat → Option Nat
  | [] => none
  | a :: t =>
    match bestBy score t with
    | none => some a
    | some b => if score b > score a then some b else some a

/-- A slot without a spare tries the choice again when pools or spares change (R365). -/
def Chip.spareRetry (c : Chip) : Chip :=
  c.modM fun m => { m with pools := m.pools.map fun e => (e.1, { e.2 with slots := e.2.slots.map fun s => if s.pstate = 4 then { s with pstate := 1 } else s }) }

/-- The choice of a spare block for a pool: die and block (R361). On GWRX9-C18-S every member is one of the pool's, so there is none (R373). -/
def Chip.chooseSpare (c : Chip) (p : Pool) : Option (Nat × Nat) :=
  let ms := (List.range 36).filter fun m => c.memberPresent m && !c.memberLost m &&
    !(p.members.contains m) && decide (c.memberSpares m > 0)
  (bestBy c.memberSpares ms).bind fun m =>
  (bestBy (fun d => (c.spares d).length) (((List.range 128).map (m * 128 + ·)).filter fun d => !(c.die d).retired)).bind fun d =>
  (bestBy (fun b => 2 ^ 20 - (c.bst d b).count) (c.spares d)).map fun b => (d, b)

/-- CIST_PER_DIE as taken (ZMAP_BASIN). -/
def Chip.cistPerDie (c : Chip) : Nat :=
  let n := c.fld F.ZMAP_BASIN_CIST_PER_DIE
  if 8 ≤ n ∧ n ≤ 20 then n else 16

/-- The usable cisterns of a die's set-aside area, lowest first (R576). -/
def Chip.setAside (c : Chip) (die : Nat) : List Nat :=
  ((List.range 24).map (c.blocks - 24 + ·)).filter fun b => !(c.bst die b).bad

/-- The free, erased cisterns of the shared set of a die (R576). -/
def Chip.sharedFreeOf (c : Chip) (die : Nat) : List Nat :=
  ((c.setAside die).drop c.cistPerDie).filter fun b =>
    (c.bst die b).owner == 6 && (c.bst die b).st == .erased && (c.bst die b).pslc

/-- Take a cistern of the shared set on a member for a role: the die with the most free ones, its lowest free index
(R369, R576). -/
def Chip.takeCistern (c : Chip) (m owner : Nat) : Chip × Option (Nat × Nat) :=
  match bestBy (fun d => (c.sharedFreeOf d).length) ((List.range 128).map (m * 128 + ·)) with
  | some d =>
    match c.sharedFreeOf d with
    | b :: _ => (c.modBst d b fun x => { x with owner := owner }, some (d, b))
    | [] => (c, none)
  | none => (c, none)

end Sys2Proof.Machine
end

