-- ==== Sys2Proof/Machine/Journal.lean ====
section
/-! DEFINITION. The stripe journal: records, frames, mirrors and durability (R172 to R177, R369, R370). -/

namespace Sys2Proof.Machine

/-- Change the journal. -/
def Chip.modJ (c : Chip) (g : Journal → Journal) : Chip := { c with z := { c.z with journal := g c.z.journal } }

/-- The length of a record in bytes: its header of 32 bytes and its payload, a multiple of 16 (R173 to R176, R298). -/
def jLen : JBody → Nat
  | .rowOpen .. => 64
  | .rowSubst .. => 48
  | .rowDone .. => 48
  | .map _ es => 32 + (8 + 5 * es.length + 15) / 16 * 16
  | .zwp .. => 48
  | .land .. => 64
  | .dealloc rs => 32 + 16 * rs.length
  | .zreset .. => 48
  | .move is => 32 + (24 * is.length + 15) / 16 * 16
  | .eraseStart is => 32 + 16 * is.length
  | .resv _ st => 32 + (16 * st.length + 15) / 16 * 16
  | .pfBegin .. => 48
  | .pfEnd .. => 48

/-- Bytes in use in the open frame (R172 USED). -/
def Journal.used (j : Journal) : Nat := 64 + (j.opened.map fun r => jLen r.body).sum

/-- The trio that follows MIR2 of the last: three members in ascending order modulo 36, lost and parked ones skipped (R369). -/
def Chip.nextTrio (c : Chip) (after : Nat) : List Nat :=
  (((List.range 36).map fun i => (after + 1 + i) % 36).filter fun m =>
    c.memberPresent m && !c.memberLost m && !c.flag F.BINOR_STAT_PARKED m).take 3

/-- Open a trio: take its cisterns and show its members in STRIPE_JMIR (R369). -/
def Chip.openTrio (c : Chip) (ms : List Nat) : Chip :=
  let step := fun (acc : Chip × List Nat) m =>
    match acc.1.takeCistern m 2 with
    | (c', some (d, b)) => (c', acc.2 ++ [bkey d b])
    | (c', none) => (c', acc.2)
  let (c, cs) := ms.foldl step (c, [])
  let c := c.modJ fun j => { j with
    retained := if j.trioCist.isEmpty then j.retained else j.retained ++ [(j.nextJsn, j.trioCist)]
    trio := ms, trioCist := cs, nextPage := 0 }
  ((c.setFld F.STRIPE_JMIR_MIR0 (ms.getD 0 0)).setFld F.STRIPE_JMIR_MIR1 (ms.getD 1 0)).setFld F.STRIPE_JMIR_MIR2 (ms.getD 2 0)

/-- The class of a journal program: D1 before PF_COMMIT, RT from then on (R203). -/
def Chip.jClass (c : Chip) : Cls := if c.z.ledger.pfCommit then .rt else .d1

/-- Post the three programs of a frame at the next page of the trio's cisterns; a full cistern opens the next trio. -/
def Chip.startFrame (c : Chip) (no : Nat) : Chip :=
  let c := if c.z.journal.trioCist.length < 3 || c.z.journal.nextPage ≥ 384 then
      c.openTrio (c.nextTrio ((c.z.journal.trio.getLast?).getD 35)) else c
  if c.z.journal.trioCist.length < 3 then c
  else
    let page := c.z.journal.nextPage
    let cs := c.z.journal.trioCist
    let c := c.modJ fun j => { j with
      nextPage := page + 1
      flying := j.flying.map fun f => if f.no = no then { f with started := true } else f }
    cs.zipIdx.foldl (fun c x => (c.newOp (mkOp .programSlc (x.1 / 4096) (x.1 % 4096) page true c.jClass (.frame no x.2))).1) c

/-- Start waiting frames while fewer than 8 are programming (R177). -/
def Chip.startFrames (c : Chip) : Chip :=
  let room := 8 - (c.z.journal.flying.filter (·.started)).length
  (((c.z.journal.flying.filter (!·.started)).take room).map Frame.no).foldl Chip.startFrame c

/-- Close the open frame and program it (R177). -/
def Chip.closeFrame (c : Chip) : Chip :=
  if c.z.journal.opened.isEmpty then c
  else
    (c.modJ fun j => { j with
      flying := j.flying ++ [⟨j.nextFrame, j.opened, [], false, j.openAt⟩], nextFrame := j.nextFrame + 1, opened := [] }).startFrames

/-- Append a record with the next JSN (R173); `ws` wait for it to be durable. No record crosses a frame (R173). -/
def Chip.jAppend (c : Chip) (nsid seq : Nat) (b : JBody) (ws : List JWait := []) : Chip × Nat :=
  let c := if c.z.journal.used + jLen b > 0x4000 then c.closeFrame else c
  let n := c.z.journal.nextJsn
  let c := c.modJ fun j => { j with
    opened := j.opened ++ [⟨nsid, seq, n, b⟩]
    openAt := if j.opened.isEmpty then c.now else j.openAt
    nextJsn := n + 1
    waits := j.waits ++ ws.map fun w => (n, w) }
  (c, n)

/-- Hand an ERASE_START item to the journal (R298): it joins the record that was appended last, while that is an ERASE_START record of fewer than 32
items in the open frame; otherwise a new record takes one sequence number. -/
def Chip.jErase (c : Chip) (x : EraseItem) (w : JWait) : Chip :=
  let fresh :=
    let seq := c.fld F.CONF_SEQ_NEXT
    ((c.setFld F.CONF_SEQ_NEXT (seq + 1)).jAppend 0 seq (.eraseStart [x]) [w]).1
  match c.z.journal.opened.getLast? with
  | some ⟨_, seq, n, .eraseStart is⟩ =>
    if is.length < 32 ∧ c.z.journal.used + 16 ≤ 0x4000 then
      c.modJ fun j => { j with opened := j.opened.dropLast ++ [⟨0, seq, n, .eraseStart (is ++ [x])⟩], waits := j.waits ++ [(n, w)] }
    else fresh
  | _ => fresh

/-- Whether a record is durable (R177). -/
def Chip.durable (c : Chip) (jsn : Nat) : Bool := decide (jsn < c.z.journal.durableTo)

/-- Take the frames at the head that succeeded on all three mirrors: their records are durable, in JSN order (R177). -/
def Chip.settleFrames : List Frame → Chip → Chip
  | [], c => c.modJ fun j => { j with flying := [] }
  | f :: t, c =>
    if f.ok.length = 3 then
      settleFrames t (c.modJ fun j => { j with
        durable := j.durable ++ f.recs
        durableTo := max j.durableTo (((f.recs.getLast?).map JRec.jsn).getD 0 + 1) })
    else c.modJ fun j => { j with flying := f :: t }

/-- JOURNAL_FRAME_DURABLE (R177): a mirror reports success; the waits whose records became durable are returned. -/
def Chip.frameOk (c : Chip) (no mirror : Nat) : Chip × List JWait :=
  let mark := fun f : Frame => if f.no = no && !f.ok.contains mirror then { f with ok := mirror :: f.ok } else f
  let c := c.modJ fun j => { j with flying := j.flying.map mark }
  let c := (settleFrames c.z.journal.flying c).startFrames
  let ready := c.z.journal.waits.filter fun w => w.1 < c.z.journal.durableTo
  (c.modJ fun j => { j with waits := j.waits.filter fun w => w.1 ≥ j.durableTo }, ready.map (·.2))

/-- Nothing waits for the programs a test picks any more: those not posted go, the others end without effect. -/
def Chip.disown (c : Chip) (p : Purpose → Bool) : Chip :=
  (c.m.ops.filter fun e => p e.2.purpose).foldl (fun (c : Chip) e =>
    if e.2.stage = .posted || e.2.stage = .running then c.modOp e.1 fun o => { o with purpose := .copyPage 0 0 } else c.dropOp e.1) c

/-- Replace the open trio: every frame not durable is programmed again on the next (R370, R577). -/
def Chip.replaceTrio (c : Chip) : Chip :=
  let c := c.openTrio (c.nextTrio ((c.z.journal.trio.getLast?).getD 35))
  let c := c.disown fun p => match p with | .frame .. => true | _ => false
  (c.modJ fun j => { j with flying := j.flying.map fun f => { f with ok := [], started := false } }).startFrames

/-- STRIPE_JSTAT.FRAMES and LAG_US as they read. -/
def Chip.jFrames (c : Chip) : Nat := (c.z.journal.flying.filter (·.started)).length

end Sys2Proof.Machine
end

