-- ==== Sys2Proof/Machine/Write.lean ====
section
/-! DEFINITION. The write path after the commit point: parts, rows, basin pairs, the map and completion
(R99, R149 to R153, R162 to R186, R189, R191). -/

namespace Sys2Proof.Machine

/-! The map (R149, R156) -/

/-- The encodings of a map entry (R149). -/
def mapPool (unit off : Nat) : Nat := unit * 2 ^ 19 + off
def mapBasin (pair off : Nat) : Nat := (0x100000 + pair) * 2 ^ 19 + off
def mapDealloc : Nat := 0x1FFFFF * 2 ^ 19
def mapLost : Nat := 0x1FFFFF * 2 ^ 19 + 1

/-- What a map entry names (R149). -/
inductive MapRef where
  | pool (p off : Nat) | basin (pair off : Nat) | dealloc | lost | invalid
  deriving DecidableEq, Repr

/-- Decode a map entry (R149). -/
def mapDecode (e : Nat) : MapRef :=
  let u := e / 2 ^ 19
  let off := e % 2 ^ 19
  if u ≤ 0xFFFFF then if off ≤ 393215 then .pool u off else .invalid
  else if u ≤ 0x1FFFFE then if off ≤ 6143 then .basin (u - 0x100000) off else .invalid
  else if u = 0x1FFFFF then if off = 0 then .dealloc else if off = 1 then .lost else .invalid
  else .invalid

/-- The map entry of a 4 KiB unit, by its index in the whole map (R150). -/
def Chip.mapAt (c : Chip) (i : Nat) : Nat := mget mapDealloc c.z.map i

/-- The keys of checkpoint segments: map segments, the zone table, the members' tables, the pool table (R156, R291, R372). -/
def segMap (i : Nat) : Nat := i / 2 ^ 20
def segZones : Nat := 0x10000000
def segTable (m : Nat) : Nat := 0x20000000 + m
def segPools (p : Nat) : Nat := 0x30000000 + p / 16384

/-- A segment never checkpointed. -/
def segReset : Segment := ⟨false, 0, 0, none, [], [], none, []⟩

/-- Copies of a segment: map segments have two, the others three (R157, R372). -/
def segCopies (k : Nat) : Nat := if k < segZones then 2 else 3

/-- Mark a segment changed (R157). -/
def Chip.touch (c : Chip) (k : Nat) : Chip :=
  c.modZ fun z => { z with segs := pset z.segs k { (pget z.segs k).getD segReset with changed := true } }

/-- Write a map entry (R151); its segment has changed. -/
def Chip.setMap (c : Chip) (i e : Nat) : Chip := (c.modZ fun z => { z with map := mset mapDealloc z.map i e }).touch (segMap i)

/-- Change an entry only if it still holds the given value (R151, R152). -/
def Chip.moveMap (c : Chip) (i old new : Nat) : Chip := if c.mapAt i = old then c.setMap i new else c

/-! Zones (R144) -/

/-- A zone that nothing has used: Empty. -/
def zoneReset (nsid zidx : Nat) : ZoneRec where
  st := .zse
  zfc := false
  fzr := false
  nsid := nsid
  zidx := zidx
  wpOff := 0
  pool := none
  rowsPad := 0
  openTime := (0, 0)
  lastSeq := 0
  sealVal := []
  sealState := 0
  badUnit := 0
  keySlot := 0
  lap := 0
  extSeq := 0
  label := 0
  finishTag := none
  stamp := 0
  filled := []
  lostRows := []
  newPool := none
  lands := []

/-- The zones of a zoned namespace (R127). Its unit reservation falls by one for each zone taken Offline for lack of a pool (R159). -/
def NsRec.zoneCount (n : NsRec) : Nat := n.size / 0x80000

/-- The namespace and zone number of a device zone index (R144). -/
def Chip.zoneOwner (c : Chip) (g : Nat) : Nat × Nat :=
  match pfind c.z.nss fun _ n => n.zoned && n.zbase ≤ g && g < n.zbase + n.zoneCount with
  | some (i, n) => (i, g - n.zbase)
  | none => (0, 0)

/-- The record of a zone by device index. -/
def Chip.zone (c : Chip) (g : Nat) : ZoneRec := (pget c.z.zones g).getD (zoneReset (c.zoneOwner g).1 (c.zoneOwner g).2)

/-- Change a zone's record; the zone-table segment has changed (R156). -/
def Chip.modZone (c : Chip) (g : Nat) (f : ZoneRec → ZoneRec) : Chip :=
  (c.modZ fun z => { z with zones := pset z.zones g (f (c.zone g)) }).touch segZones

/-- The chain of a zone that has absorbed nothing: F(-1) is set when the first unit is absorbed (R379). -/
def chainReset : SealChain := ⟨[], 0, [], []⟩

/-- Units of a zone whose fragment is known (R383). -/
def Chip.absorbed (c : Chip) (g : Nat) : Nat := ((pget c.z.chains g).getD chainReset).next

/-! Parts -/

/-- A part; change a part; its number of units. -/
def Chip.part (c : Chip) (p : Nat) : Option Part := pget c.z.parts p
def Chip.modPart (c : Chip) (p : Nat) (g : Part → Part) : Chip := c.modZ fun z => { z with parts := pmod z.parts p g }
def Part.len (p : Part) : Nat := p.units.length

/-- A row; change a row. -/
def Chip.row (c : Chip) (r : Nat) : Option RowRec := pget c.z.rows r
def Chip.modRow (c : Chip) (r : Nat) (g : RowRec → RowRec) : Chip := c.modZ fun z => { z with rows := pmod z.rows r g }

/-- A basin pair; change a pair. -/
def Chip.pair (c : Chip) (p : Nat) : Option PairRec := pget c.z.pairs p
def Chip.modPair (c : Chip) (p : Nat) (g : PairRec → PairRec) : Chip := c.modZ fun z => { z with pairs := pmod z.pairs p g }

/-- A part is on the medium: its row, or both basin copies (R15, R18). -/
def Part.onMedium (p : Part) : Bool := p.rowOk || p.basinOk

/-- A part's data leaves the retry region (R162): a conventional part by either route, a zoned one with its row. -/
def Part.released (p : Part) : Bool := if p.zone.isSome then p.rowOk else p.onMedium

/-- Bytes of the retry region in use: data of parts not released, and P and Q of rows not done (R162, R163). -/
def Chip.retryBytes (c : Chip) : Nat :=
  4096 * (((c.z.parts.filter fun p => !p.2.released).map fun p => p.2.len).sum + (c.z.rows.filter fun r => r.2.openJsn.isSome).length * 128)

/-- The size of the retry region (STRIPE_RETRY.SIZE_GIB, at least 8). -/
def Chip.retrySize (c : Chip) : Nat := max 8 (c.fld F.STRIPE_RETRY_SIZE_GIB) * 2 ^ 30

/-- A commitment's reservation goes when every part of it is released (R191); waiting requests are admitted (R190). -/
def Chip.releaseCommit (c : Chip) (k : Nat) : Chip × List Nat :=
  if c.z.parts.any fun p => p.2.commit == k && !p.2.released then (c, [])
  else if (pget c.z.ledger.resv k).isSome then (c.modL fun l => { l with resv := pdel l.resv k }).ledgerPump
  else (c, [])

/-- A write completes when every part is on the medium and every record of it is durable (R164). -/
def Chip.writeCheck (c : Chip) (tag : Nat) : Chip :=
  match c.ctx tag with
  | none => c
  | some x =>
    if x.committed && (x.kind = .write || x.kind = .append || x.kind = .writeZeroes) && x.waiting.isEmpty && x.jsns.all c.durable
    then c.complete tag .success (if x.kind = .append then (x.ranges.head?.map LbaRange.first).getD 0 else 0)
    else c

/-- A part reached the medium: its command waits for it no more, its map entries are written (R151). -/
def Chip.partDone (c : Chip) (p : Nat) : Chip :=
  match c.part p with
  | none => c
  | some x =>
    let here := fun i => if x.rowOk then
        match x.row.bind c.row with
        | some r => mapPool r.pool (r.row * 1024 + x.rowOff + i)
        | none => mapBasin (x.pair.getD 0) (x.pairOff + i)
      else mapBasin (x.pair.getD 0) (x.pairOff + i)
    let c := if x.zone.isSome then c
      else if x.rowOk && x.basinOk then
        (List.range x.len).foldl (fun c i => c.moveMap (x.first + i) (mapBasin (x.pair.getD 0) (x.pairOff + i)) (here i)) c
      else (List.range x.len).foldl (fun c i => c.setMap (x.first + i) (here i)) c
    match c.ctx x.tag with
    | some ctx => if ctx.commit = some x.commit
        then (c.modCtx x.tag fun y => { y with waiting := y.waiting.filter (· != p) }).writeCheck x.tag else c
    | none => c

/-! Chunks (R313 to R317) -/

/-- Whether a namespace is encrypted, and its key from the cache (R407 to R409). -/
def Chip.xtsOn (c : Chip) (nsid : Nat) : Bool := c.flag F.XTS_NSCFG_EN (nsid - 1)
def Chip.xtsKey (c : Chip) (nsid : Nat) : List Byte := ((c.xts.find? (·.nsid == nsid)).map XtsSlot.key).getD []

/-- DATA and HMETA of a unit on their way to the medium, and back: DATA is encrypted with the unit's index as tweak (R408). -/
def Chip.encUnit (c : Chip) (nsid idx : Nat) (u : List Byte) : List Byte :=
  if c.xtsOn nsid then trimZeros (Config.xtsEncrypt (c.xtsKey nsid) idx (padTo 4096 u) ++ u.drop 4096) else u
def Chip.decUnit (c : Chip) (nsid idx : Nat) (u : List Byte) : List Byte :=
  if c.xtsOn nsid then trimZeros (Config.xtsDecrypt (c.xtsKey nsid) idx (padTo 4096 u) ++ u.drop 4096) else u

/-- Bytes 0x0000 to 0x1067 of a chunk: DATA, HMETA and CMETA with its DCRC (R313, R314). -/
def chunkBytes (u : List Byte) (nsid tenant kind flags lba seq : Nat) (frag : List Byte) : List Byte :=
  let b := padTo 4160 u ++ leBytes 4 nsid ++ leBytes 2 tenant ++ leBytes 1 kind ++ leBytes 1 flags ++ leBytes 8 lba ++ leBytes 8 seq
    ++ padTo 8 frag ++ leBytes 4 0
  b ++ leBytes 4 (Config.crc32c b).toNat

/-- SELF of a chunk (R315). -/
def selfBytes (seq jsn pool row strip cu : Nat) : List Byte :=
  leBytes 8 seq ++ leBytes 8 jsn ++ leBytes 3 pool ++ leBytes 2 row ++ leBytes 1 strip ++ leBytes 1 cu ++ leBytes 1 1

/-- A filler chunk: zeros, KIND 0x03 and NSID 0 (R316). -/
def fillerBytes : List Byte := chunkBytes [] 0 0 3 0 0 0 []

/-- The seal key of a namespace is found in its slot (R380); the running fragment F(u) of the hashes absorbed (R379). -/
def fragOf (f0 : List Byte) (hs : List (List Byte)) : List Byte := hs.foldl (fun f h => (Config.hashFn 1 (f ++ h)).take 8) f0

/-- The fragment of a unit of a zone. -/
def Chip.fragAt (c : Chip) (g u : Nat) : List Byte :=
  let ch := (pget c.z.chains g).getD chainReset
  fragOf ch.frag0 (ch.all.take (u + 1))

/-- LBAs per unit of a namespace, and the first LBA of a unit of the map or of a zone. -/
def Chip.perOf (c : Chip) (nsid : Nat) : Nat := ((c.ns nsid).map fun n => lbasPerUnit n.fmt).getD 1
def Chip.unitLba (c : Chip) (nsid : Nat) (zone : Option Nat) (u : Nat) : Nat :=
  match zone with
  | some g => (c.zone g).zidx * 0x80000 + u
  | none => (u - ((c.ns nsid).map NsRec.base).getD 0) * c.perOf nsid

/-- The chunk of unit k of a part, without SELF. -/
def Chip.partChunk (c : Chip) (p : Part) (k : Nat) : List Byte :=
  chunkBytes (p.units.getD k []) p.nsid (c.fld F.TENANT_NSCFG_TENANT (p.nsid - 1)) (if p.zone.isSome then 1 else 2) 0
    (c.unitLba p.nsid p.zone (p.first + k)) p.seq ((p.zone.map fun g => c.fragAt g (p.first + k)).getD [])

/-! Rows -/

/-- The owner code and handle of a row (R175). -/
def RowOwner.kind : RowOwner → Nat
  | .zone _ => 0
  | .handle _ => 1
  | .reclaim _ => 2
  | .fold _ => 3

/-- A row about to be assembled. -/
def rowReset (pool row : Nat) (owner : RowOwner) (gen now : Nat) : RowRec where
  pool := pool
  row := row
  owner := owner
  bindGen := gen
  parts := []
  units := []
  pads := []
  firstSeq := 0
  lastSeq := 0
  openJsn := none
  issued := []
  okStrips := []
  retries := []
  subst := []
  abandoned := false
  finishTag := none
  openedAt := now
  recovered := none
  src := []

/-- The binding generation of a pool. -/
def Chip.genOf (c : Chip) (p : Nat) : Nat := ((c.pool p).map Pool.bindGen).getD 0

/-- Open a row record. -/
def Chip.newRow (c : Chip) (pool row : Nat) (owner : RowOwner) : Chip × Nat :=
  let i := c.z.nextRowId
  (c.modZ fun z => { z with rows := pset z.rows i (rowReset pool row owner (c.genOf pool) c.now), nextRowId := i + 1 }, i)

/-- The row record of a pool's row under way. -/
def Chip.findRow (c : Chip) (pool row : Nat) : Option Nat :=
  (pfind c.z.rows fun _ r => r.pool == pool && r.row == row && !r.abandoned).map (·.1)

/-- A row is full: every one of its 1,024 units is filled or padded. -/
def RowRec.full (r : RowRec) : Bool := r.units.length + r.pads.length ≥ 1024

/-- The zone of a row. -/
def RowRec.zone (r : RowRec) : Option Nat :=
  match r.owner with
  | .zone g => some g
  | _ => none

/-- Every fragment a zoned row needs is known (R383). -/
def Chip.fragsKnown (c : Chip) (r : RowRec) : Bool :=
  match r.zone with
  | some g => (r.units.getLast?.map fun u => decide (r.row * 1024 + u.1 < c.absorbed g)).getD true
  | none => true

/-- Data strips of a row that are filler or pad (R175 PAD). -/
def RowRec.padMask (r : RowRec) : Nat :=
  maskOf ((List.range 16).filter fun k => (List.range 64).all fun i => r.pads.contains (64 * k + i))

/-- A full row writes its ROW_OPEN record; its strips are programmed once it is durable (R16, R175, R383). -/
def Chip.rowGo (c : Chip) (i : Nat) : Chip :=
  match c.row i with
  | none => c
  | some r =>
    if r.full && r.openJsn.isNone && !r.abandoned && c.fragsKnown r then
      let (c, n) := c.jAppend (((r.parts.head?.bind c.part).map Part.nsid).getD 0) r.lastSeq
        (.rowOpen r.pool r.row r.owner r.firstSeq r.bindGen (maskOf (r.subst.map (·.1))) r.padMask) [.row i]
      c.modRow i fun r => { r with openJsn := some n }
    else c

/-- The part that holds a position of a row. -/
def Chip.rowPart (c : Chip) (r : RowRec) (u : Nat) : Option Part :=
  (r.parts.filterMap c.part).find? fun p => decide (p.rowOff ≤ u ∧ u < p.rowOff + p.len)

/-- Bytes 0x0000 to 0x1067 of position u of a row: a part's unit, a unit copied unchanged (R317), a range filled under R133, or
filler (R316). -/
def Chip.rowChunk (c : Chip) (r : RowRec) (u : Nat) : List Byte :=
  match r.owner with
  | .zone g =>
    match c.rowPart r u with
    | some p => c.partChunk p (u - p.rowOff)
    | none =>
      let z := c.zone g
      let off := r.row * 1024 + u
      if z.filled.any fun f => decide (f.1 ≤ off ∧ off < f.1 + f.2) then
        chunkBytes [] z.nsid (c.fld F.TENANT_NSCFG_TENANT (z.nsid - 1)) 1 1 (z.zidx * 0x80000 + off) 0 (c.fragAt g off)
      else match pget r.units u with
        | some b => b
        | none => fillerBytes
  | .handle _ => match c.rowPart r u with
    | some p => c.partChunk p (u - p.rowOff)
    | none => (pget r.units u).getD fillerBytes
  | _ => (pget r.units u).getD fillerBytes

/-- The 64 chunks of strip k of a row: data, P or Q over the data chunks, each with its SELF (R138, R315, R316, R356). -/
def Chip.stripData (c : Chip) (r : RowRec) (k : Nat) : List (List Byte) :=
  (List.range 64).map fun cu =>
    let ds := (List.range 16).map fun s => c.rowChunk r (64 * s + cu)
    padTo 4200 (if k = 16 then parityP ds else if k = 17 then parityQ ds else ds.getD k [])
      ++ selfBytes r.lastSeq (r.openJsn.getD 0) r.pool r.row k cu

/-- The place strip k of a row is programmed (R159, R184, R364). -/
def Chip.rowPlace (c : Chip) (r : RowRec) (k : Nat) : Option (Nat × Nat × Nat) :=
  match pget r.subst k with
  | some (d, b) =>
    match ((c.pool r.pool).bind fun q => q.slots[slotOf r.row k]?).bind Slot.f with
    | some (d', b', r0) => if (d', b') = (d, b) then some (d, b, r.row - r0) else some (d, b, 0)
    | none => some (d, b, 0)
  | none => ((c.pool r.pool).bind fun q => q.slots[slotOf r.row k]?).map fun s => s.writePlace r.row

/-- The class of a row's programs (R203). -/
def RowRec.cls (r : RowRec) : Cls :=
  match r.owner with
  | .zone _ | .handle _ => .d1
  | _ => .b

/-- Program strip k of a row. On GWRX9-C18-S the strip of a lost member is left out and read by reconstruction (R374). -/
def Chip.issueStrip (c : Chip) (i k : Nat) : Chip :=
  match c.row i with
  | none => c
  | some r =>
    match c.rowPlace r k with
    | none => c
    | some (d, b, w) =>
      if c.fuses.grade = 2 && c.memberLost (memberOf d) then
        c.modRow i fun r => { r with issued := k :: r.issued, okStrips := k :: r.okStrips }
      else (c.newOp (mkOp .programQlc d b w false r.cls (.strip i k) (c.stripData r k))).1

/-- Program all 18 strips of a row whose ROW_OPEN is durable (R16, R165). -/
def Chip.issueRow (c : Chip) (i : Nat) : Chip := (List.range 18).foldl (fun c k => c.issueStrip i k) c

/-- Put a strip in a substitute block: its slot's forward substitute from this row on. ROW_SUBST is written, and the strip follows when the
record is durable (R184, R297). -/
def Chip.substTo (c : Chip) (i k d b : Nat) : Chip :=
  match c.row i with
  | none => c
  | some r =>
    let j := slotOf r.row k
    let old := ((c.rowPlace r k).map (·.1)).getD 0
    let hadF := ((c.pool r.pool).bind fun q => (q.slots[j]?).bind Slot.f).any fun f => decide (f.2.2 < r.row)
    let c := (c.modBst d b fun x => { x with owner := 0 }).modSlot r.pool j fun s =>
      { s with f := some (d, b, r.row), pstate := if hadF && s.pstate = 0 then 1 else s.pstate }
    let c := (c.touch (segPools r.pool)).modRow i fun r => { r with subst := pset r.subst k (d, b) }
    let c := c.post srcZmap 0x2004 [r.pool, old, d]
    (c.jAppend 0 r.lastSeq (.rowSubst r.pool r.row k d b) [.subst i k d b]).1

/-- A row that recovery finishes has its data (R182, R308): missing strips are programmed, in a substitute where an abandoned program has used
the wordline; without a substitute the retries count as used up. -/
def Chip.recoverGo (c : Chip) (i : Nat) : Chip :=
  match c.row i with
  | none => c
  | some r =>
    if r.full && r.openJsn.isSome && r.recovered.isSome && r.issued.isEmpty && !r.abandoned then
      let missing := (List.range 18).filter fun k => !r.okStrips.contains k
      let c := c.modRow i fun r => { r with issued := missing }
      missing.foldl (fun (c : Chip) k =>
        let usable := (c.rowPlace r k).any fun x => !(c.bst x.1 x.2.1).bad && (c.bst x.1 x.2.1).ptr == x.2.2
        if usable then c.issueStrip i k
        else match (c.pool r.pool).bind c.chooseSpare with
          | some (d, b) => c.substTo i k d b
          | none => c.modJ fun j => { j with waits := j.waits ++ [(0, .exhaust i k)] }) c
    else c

/-- Fill the unfilled positions of a row with padding (R139, R148, R167) and program it. -/
def Chip.padRow (c : Chip) (i : Nat) : Chip :=
  (c.modRow i fun r => { r with pads := (List.range 1024).filter fun u => (pget r.units u).isNone }).rowGo i

/-- Put a part's data in a row at its position. -/
def Chip.fillRow (c : Chip) (i pid : Nat) (p : Part) : Chip :=
  c.modRow i fun r => { r with
    parts := r.parts ++ [pid]
    units := (p.units.zipIdx p.rowOff).foldl (fun m x => pset m x.2 x.1) r.units
    firstSeq := if r.parts.isEmpty then p.seq else min r.firstSeq p.seq
    lastSeq := max r.lastSeq p.seq }

/-! The basin -/

/-- The open pair for a part: the zone's tail pair or its handle's pair; a full or closed one is replaced by an erased pair
(R166, R168). -/
def Chip.openPair (c : Chip) (p : Part) (n : Nat) : Chip × Option Nat :=
  let cur := match p.zone with
    | some g => pget c.z.zPairs g
    | none => pget c.z.hPairs p.handle
  let fits := (cur.bind c.pair).any fun q => !q.closed && decide (q.next + n ≤ 6144)
  if fits then (c, cur)
  else
    let free := if p.zone.isSome then c.z.tailPairs else c.z.freePairs
    match free with
    | [] => (c, none)
    | (a, b) :: t =>
      let i := c.z.nextPair
      let q : PairRec := ⟨a, b, p.zone, p.handle, 0, none, 0, [], false, [], false⟩
      (c.modZ fun z => { z with
        pairs := pset z.pairs i q, nextPair := i + 1
        freePairs := if p.zone.isSome then z.freePairs else t
        tailPairs := if p.zone.isSome then t else z.tailPairs
        zPairs := match p.zone with | some g => pset z.zPairs g i | none => z.zPairs
        hPairs := match p.zone with | some _ => z.hPairs | none => pset z.hPairs p.handle i }, some i)

/-- The chunk at a unit of a pair: the part's, with the SEQ and JSN of its LAND record in SELF (R315, R18). -/
def Chip.pairChunk (c : Chip) (i : Nat) (q : PairRec) (off : Nat) : List Byte :=
  match pget q.units off with
  | some (u, pid, _) =>
    match c.part pid with
    | some p => c.partChunk p (u - p.first) ++ selfBytes p.seq (p.jsns.getLast?.getD 0) i (off / 16) 255 (off % 16)
    | none => fillerBytes ++ selfBytes 0 0 i (off / 16) 255 (off % 16)
  | none => fillerBytes ++ selfBytes 0 0 i (off / 16) 255 (off % 16)

/-- Program page n of a pair on both cisterns (R168). -/
def Chip.programPage (c : Chip) (i n : Nat) (cls : Cls) : Chip :=
  match c.pair i with
  | none => c
  | some q =>
    let data := (List.range 16).map fun k => c.pairChunk i q (16 * n + k)
    let c := (c.newOp (mkOp .programSlc (q.a / 4096) (q.a % 4096) n true cls (.basinPage i n 0) data)).1
    (c.newOp (mkOp .programSlc (q.b / 4096) (q.b % 4096) n true cls (.basinPage i n 1) data)).1

/-- Program every page of a pair that is filled, at most `fuel` (R168). -/
def Chip.programPages : Nat → Nat → Chip → Chip
  | 0, _, c => c
  | fuel + 1, i, c =>
    match c.pair i with
    | some q =>
      if q.gathered + 16 ≤ q.next then
        programPages fuel i ((c.modPair i fun q => { q with gathered := q.gathered + 16, gatherAt := none }).programPage i (q.gathered / 16) .d1)
      else c
    | none => c

/-- The zoned parts of a pair have the fragments of their units (R383). -/
def Chip.pairFrags (c : Chip) (p : Part) : Bool :=
  match p.zone with
  | some g => decide (p.first + p.len ≤ c.absorbed g)
  | none => true

/-- BASIN_LANDING (R166, R168, R176): a part takes the next units of its pair, with a LAND record; full pages are programmed.
`cause` 0 is a small write, 1 the row wait. -/
def Chip.landPart (c : Chip) (pid cause : Nat) : Chip :=
  match c.part pid with
  | none => c
  | some p =>
    match c.openPair p p.len with
    | (c, none) => c
    | (c, some i) =>
      let off := ((c.pair i).map PairRec.next).getD 0
      let c := c.modPair i fun q => { q with
        next := off + p.len
        gatherAt := if (off + p.len) % 16 = 0 then none else if q.gatherAt.isSome then q.gatherAt else some c.now
        units := (p.units.zipIdx).foldl (fun m x => pset m (off + x.2) (p.first + x.2, pid, x.1)) q.units }
      let (c, n) := c.jAppend p.nsid p.seq
        (.land i off p.zone.isSome p.len (((p.zone.map c.zone).map ZoneRec.zidx).getD 0) p.first p.handle) [.part pid]
      let c := c.modPart pid fun p => { p with route := .basin, pair := some i, pairOff := off, jsns := p.jsns ++ [n] }
      let c := c.modCtx p.tag fun x => if x.commit = some p.commit then { x with jsns := x.jsns ++ [n] } else x
      let c := c.post srcZmap 0x2101 [cause]
      if c.pairFrags p then programPages 384 i c else c

/-- Pairs in all, and the general basin's fill (ZMAP_BASINSTAT). -/
def Chip.basinFreePct (c : Chip) : Nat := if c.z.totalPairs = 0 then 100 else c.z.freePairs.length * 100 / c.z.totalPairs

/-- BASIN_FREE_LOW (R167): landing of conventional parts stops below FREE_LOW_PCT and resumes 5 points above it. -/
def Chip.basinLevel (c : Chip) : Chip :=
  let low := c.fld F.ZMAP_BASIN_FREE_LOW_PCT
  if !c.z.landStop && c.basinFreePct < low then (c.modZ fun z => { z with landStop := true }).post srcZmap 0x2103 [c.basinFreePct]
  else if c.z.landStop && c.basinFreePct > low + 5 then c.modZ fun z => { z with landStop := false }
  else c

/-! Open pools of the handles -/

/-- Bind an erased pool: the oldest of the reserve; its generation rises (R136, R175). RESERVE_LOW_CROSSING (R137). -/
def Chip.bindPool (c : Chip) : Chip × Option Nat :=
  match c.z.reserve with
  | [] => (c, none)
  | p :: t =>
    let low := c.fld F.ZMAP_POOLRES_LOW
    let c := (c.modZ fun z => { z with reserve := t }).modPool p fun q => { q with ptstate := 2, bindGen := q.bindGen + 1, done := [], firstAt := none, fullAt := none }
    let c := c.touch (segPools p)
    let c := if t.length + 1 ≥ low && t.length < low then
        (c.post srcZmap 0x200D [t.length]).setFld F.ZMAP_POOLSTAT_LOW_HIT 1 |>.emit (.fwIrq srcZmap) else c
    (c, some p)

/-- The row of a handle's open pool with room, binding a pool when there is none (R147). -/
def Chip.handleRow (c : Chip) (h : Nat) (owner : RowOwner) : Chip × Option Nat :=
  let openRow := fun (c : Chip) (op : OpenPool) =>
    let (c, i) := c.newRow op.pool op.nextRow owner
    (c.modZ fun z => { z with handles := pset z.handles h { op with nextRow := op.nextRow + 1, rowId := some i } }, some i)
  let fresh := fun (c : Chip) =>
    match c.bindPool with
    | (c, some p) => openRow c ⟨p, 0, none, none⟩
    | (c, none) => (c, none)
  match pget c.z.handles h with
  | none => fresh c
  | some op =>
    match op.rowId.bind c.row with
    | some r => if r.full || r.openJsn.isSome || r.abandoned
        then (if op.nextRow < 384 then openRow c op else fresh c) else (c, op.rowId)
    | none => if op.nextRow < 384 then openRow c op else fresh c

/-- The index of a unit within its namespace: the tweak of R408. -/
def Chip.unitIdx (c : Chip) (p : Part) (u : Nat) : Nat :=
  match p.zone with
  | some g => (c.zone g).zidx * 0x80000 + u
  | none => u - ((c.ns p.nsid).map NsRec.base).getD 0

/-- Consecutive units on their way to the retry region (R408). -/
def Chip.encAll (c : Chip) (nsid idx : Nat) (us : List (List Byte)) : List (List Byte) :=
  us.zipIdx.map fun x => c.encUnit nsid (idx + x.2) x.1

/-- Place a conventional part's units from `units` in rows of its handle, one part per row (R165); at most `fuel` rows. -/
def Chip.placeConv : Nat → Part → List (List Byte) → Nat → Chip → List Nat → Chip × List Nat
  | 0, _, _, _, c, acc => (c, acc)
  | _ + 1, _, [], _, c, acc => (c, acc)
  | fuel + 1, p, us, first, c, acc =>
    match c.handleRow p.handle (.handle p.handle) with
    | (c, none) => (c, acc)
    | (c, some i) =>
      let off := ((c.row i).map fun r => r.units.length).getD 0
      let n := min us.length (1024 - off)
      let pid := c.z.nextPart
      let q := { p with first := first, units := c.encAll p.nsid (c.unitIdx p first) (us.take n), sb := us.take n, row := some i, rowOff := off }
      let c := c.modZ fun z => { z with parts := pset z.parts pid q, nextPart := pid + 1 }
      let c := (c.fillRow i pid q).rowGo i
      placeConv fuel p (us.drop n) (first + n) c (acc ++ [pid])

/-- Place a zoned write's units in rows of its zone's pool, one part per row (R138, R165). -/
def Chip.placeZone : Nat → Part → List (List Byte) → Nat → Chip → List Nat → Chip × List Nat
  | 0, _, _, _, c, acc => (c, acc)
  | _ + 1, _, [], _, c, acc => (c, acc)
  | fuel + 1, p, us, u, c, acc =>
    let g := p.zone.getD 0
    let zr := c.zone g
    let pool := zr.newPool.getD (zr.pool.getD 0)
    let (c, i) := match c.findRow pool (u / 1024) with
      | some i => (c, i)
      | none => c.newRow pool (u / 1024) (.zone g)
    let n := min us.length (1024 - u % 1024)
    let pid := c.z.nextPart
    let q := { p with first := u, units := c.encAll p.nsid (c.unitIdx p u) (us.take n), sb := us.take n, row := some i, rowOff := u % 1024 }
    let c := c.modZ fun z => { z with parts := pset z.parts pid q, nextPart := pid + 1 }
    let c := (c.fillRow i pid q).rowGo i
    placeZone fuel p (us.drop n) (u + n) c (acc ++ [pid])

/-- The reclaim unit handle of a conventional write: the placement handle in DSPEC under Directive Type 2h while FDP is enabled,
otherwise placement handle 0; an unknown one is placed with 0 and reported (R146). -/
def Chip.handleFor (c : Chip) (x : Ctx) (ns : NsRec) : Chip × Nat :=
  let h0 := ns.handles.getD 0 0
  let dtype := bitsOf (x.dw 12) 23 20
  let dspec := bitsOf (x.dw 13) 31 16
  if dtype = 2 && c.z.fdp then
    match ns.handles[dspec]? with
    | some h => (c, h)
    | none =>
      (((c.modZ fun z => { z with fdpEvents := z.fdpEvents ++ [(3, dspec)] }).post srcZmap 0x2009 [x.nsid, dspec]).asyncEvent x.fn
        (.fdpEvent dspec), h0)
  else (c, h0)

/-- A part before it is placed. -/
def mkPart (x : Ctx) (tag seq first : Nat) (zone : Option Nat) (handle : Nat) (route : Route) (units : List (List Byte))
    (commit now : Nat) : Part where
  tag := tag
  commit := commit
  seq := seq
  nsid := x.nsid
  zone := zone
  first := first
  units := units
  sb := units
  handle := handle
  route := route
  row := none
  rowOff := 0
  pair := none
  pairOff := 0
  committedAt := now
  jsns := []
  rowOk := false
  basinOk := false
  sbFreed := false
  landTry := 0
  landDie := 0

/-- The device zone index of an LBA of a zoned namespace (R127, R144). -/
def NsRec.zoneOf (n : NsRec) (lba : Nat) : Nat := n.zbase + lba / 0x80000

/-- A conventional write that is short goes to the basin at once, unless landing has stopped (R165, R167). -/
def Chip.goesSmall (c : Chip) (x : Ctx) : Bool :=
  decide (x.dlen < min 2048 (c.fld F.ZMAP_LAND_SMALL_KIB) * 1024) && !c.z.landStop

/-- A committed conventional write: to the basin at once when it is short, otherwise to rows of its handle (R165, R178). -/
def Chip.routeConv (c : Chip) (tag : Nat) (x : Ctx) (ns : NsRec) (seq commit : Nat) : Chip :=
  let per := lbasPerUnit ns.fmt
  let first := ns.base + sqeSlba x.sqe / per
  let us := (List.range ((sqeSlba x.sqe + sqeNlb x.sqe + per - 1) / per - sqeSlba x.sqe / per)).map fun i => (pget x.units i).getD []
  let n1 := (sqeSlba x.sqe % per + min (sqeNlb x.sqe) (256 * per) + per - 1) / per
  let (c, h) := c.handleFor x ns
  let small := c.goesSmall x
  let p := mkPart x tag seq first none h .row us commit c.now
  if small then
    let one := fun (c : Chip) (a : Nat × List (List Byte)) =>
      if a.2.isEmpty then c else
      let pid := c.z.nextPart
      let c := c.modZ fun z => { z with parts := pset z.parts pid { p with first := a.1, units := c.encAll p.nsid (c.unitIdx p a.1) a.2, sb := a.2, route := .basin }, nextPart := pid + 1 }
      (c.modCtx tag fun x => { x with waiting := x.waiting ++ [pid] }).landPart pid 0
    [(first, us.take n1), (first + n1, us.drop n1)].foldl one c
  else
    let (c, ids) := Chip.placeConv 4 p us first c []
    let entries := ids.flatMap fun i => match c.part i with
      | some q => (List.range q.len).map fun k => mapPool (((q.row.bind c.row).map RowRec.pool).getD 0)
          ((((q.row.bind c.row).map RowRec.row).getD 0) * 1024 + q.rowOff + k)
      | none => []
    let rec1 := fun (c : Chip) (a : Nat × List Nat) =>
      if a.2.isEmpty then c else
      let (c, n) := c.jAppend x.nsid seq (.map a.1 a.2) (ids.map JWait.part)
      c.modCtx tag fun x => { x with jsns := x.jsns ++ [n] }
    let c := [(first, entries.take n1), (first + n1, entries.drop n1)].foldl rec1 c
    c.modCtx tag fun x => { x with waiting := x.waiting ++ ids }

/-- A committed zoned write: rows of the zone's pool, with one ZWP record (R165, R178). -/
def Chip.routeZone (c : Chip) (tag : Nat) (x : Ctx) (ns : NsRec) (seq commit : Nat) : Chip :=
  let lba := (x.ranges.head?.map LbaRange.first).getD (sqeSlba x.sqe)
  let g := ns.zoneOf lba
  let u := lba % 0x80000
  let us := (List.range (sqeNlb x.sqe)).map fun i => (pget x.units i).getD []
  let p := mkPart x tag seq u (some g) 0 .row us commit c.now
  let (c, ids) := Chip.placeZone 4 p us u c []
  let (c, n) := c.jAppend x.nsid seq (.zwp (c.zone g).zidx u us.length) (ids.map JWait.part)
  (c.modCtx tag fun x => { x with jsns := x.jsns ++ [n], waiting := x.waiting ++ ids }).modZone g fun z => { z with lastSeq := max z.lastSeq seq }

/-- The ranges a Dataset Management, or a conventional Write Zeroes, deallocates: 4 KiB map indices, first and count (R153). -/
def Ctx.deallocUnits (x : Ctx) (ns : NsRec) : List (Nat × Nat) :=
  let per := lbasPerUnit ns.fmt
  x.ranges.map fun r => (ns.base + (r.first + per - 1) / per, (r.last + 1) / per - (r.first + per - 1) / per)

/-- Room for `n` units in the open pool of a handle and in the erased reserve (R147). -/
def Chip.handleRoom (c : Chip) (h n : Nat) : Bool :=
  let left := match pget c.z.handles h with
    | some op => (384 - op.nextRow) * 1024 + (match op.rowId.bind c.row with
      | some r => if r.full || r.openJsn.isSome || r.abandoned then 0 else 1024 - r.units.length
      | none => 0)
    | none => 0
  decide (n ≤ left) || !c.z.reserve.isEmpty

/-- The pool of its handle a conventional write needs must be bound first (R136, R147): the key its wait is listed under. -/
def handleKey (h : Nat) : Nat := 2 ^ 20 + h

/-- The handle a conventional write waits for, if its pool is not bound. -/
def Chip.needsPool (c : Chip) (x : Ctx) (ns : NsRec) : Option Nat :=
  if ns.zoned || x.kind != .write || c.goesSmall x then none
  else
    let h := (c.handleFor x ns).2
    if c.handleRoom h 513 then none else some h

/-- COMMIT_POINT (R99): claims granted and sequence number taken, data in, energy admitted. The command is COMMITTED and its parts
are routed; a Deallocate changes its entries and completes once its record is durable (R153). -/
def Chip.tryCommit (c : Chip) (tag : Nat) : Chip :=
  match c.ctx tag with
  | none => c
  | some x =>
    match x.seq, c.ns x.nsid with
    | some seq, some ns =>
      let noData := x.kind = .dealloc || (x.kind = .writeZeroes && !ns.zoned)
      let writes := x.kind = .write || x.kind = .append || x.kind = .writeZeroes || x.kind = .dealloc
      if writes && !x.committed && !x.sent && x.granted.length = x.slices.length && (x.dataIn || noData) && x.admitted then
        match c.needsPool x ns with
        | some h => if c.z.bindQ.any (·.1 == tag) then c else c.modZ fun z => { z with bindQ := z.bindQ ++ [(tag, handleKey h, false, c.now)] }
        | none =>
        let k := x.commit.getD 0
        let c := c.modCtx tag fun x => { x with committed := true, st := .media }
        if noData then
          let rs := x.deallocUnits ns
          let c := if ns.zoned then c else
            rs.foldl (fun c r => (List.range r.2).foldl (fun c i => c.setMap (r.1 + i) mapDealloc) c) c
          let (c, n) := c.jAppend x.nsid seq (.dealloc rs) [.dealloc tag]
          (c.modCtx tag fun x => { x with jsns := [n] }).modL fun l => { l with resv := pdel l.resv k }
        else if ns.zoned then c.routeZone tag x ns seq k
        else c.routeConv tag x ns seq k
      else c
    | _, _ => c

/-- Commands admitted by the ledger pass their commit point if the rest holds (R99). -/
def Chip.commitAll (r : Chip × List Nat) : Chip := r.2.foldl (fun c t => c.tryCommit t) r.1

/-- LEDGER_RELEASE (R191): an operation's charge goes, and waiting requests are admitted. -/
def Chip.opReported (c : Chip) (i : Nat) : Chip := ((c.releaseCharge i).ledgerPump |> Chip.commitAll).releaseTokens (2 * i)

/-- Parts of a commitment were released. -/
def Chip.commitReleased (c : Chip) (k : Nat) : Chip := Chip.commitAll (c.releaseCommit k)

/-- Forget parts that are released and no longer named by a row or a waiting command. -/
def Chip.dropParts (c : Chip) (ids : List Nat) : Chip :=
  ids.foldl (fun c i => match c.part i with
    | some p => if p.released && (p.row.bind c.row).isNone then c.modZ fun z => { z with parts := pdel z.parts i } else c
    | none => c) c

end Sys2Proof.Machine
end

