-- ==== Sys2Proof/Machine/Zones.lean ====
section
/-! DEFINITION. Zones and namespaces: counts and limits, the checks of a write, write pointers, state changes and their notices, pools
behind zones, and the capacity budget (R123 to R125, R129 to R143, R159). -/

namespace Sys2Proof.Machine

/-! Counts (R129 to R131) -/

/-- A zone state counts as open, as active. -/
def ZState.isOpen (s : ZState) : Bool := s = .zsio || s = .zseo
def ZState.isActive (s : ZState) : Bool := s.isOpen || s = .zsc

/-- Zones of a namespace that wait for a binding: they will be open and active (R136). -/
def Chip.binding (c : Chip) (nsid : Nat) : Nat :=
  (((c.z.bindQ.map fun b => b.2.1).eraseDups).filter fun g => (c.zone g).nsid == nsid).length

/-- Open and active zones of a namespace; MOR and MAR (R129). -/
def Chip.openZones (c : Chip) (nsid : Nat) : Nat := (c.z.zones.filter fun z => z.2.nsid == nsid && z.2.st.isOpen).length + c.binding nsid
def Chip.activeZones (c : Chip) (nsid : Nat) : Nat :=
  (c.z.zones.filter fun z => z.2.nsid == nsid && z.2.st.isActive).length + c.binding nsid
def Chip.mor (c : Chip) (nsid : Nat) : Nat := c.fld F.ZMAP_NSZ_MOR (nsid - 1)
def Chip.mar (c : Chip) (nsid : Nat) : Nat := c.fld F.ZMAP_NSZ_MAR (nsid - 1)

/-- Sum of MAR over the zoned namespaces. -/
def Chip.marSum (c : Chip) : Nat := ((c.z.nss.filter fun n => n.2.zoned).map fun n => c.mar n.1).sum

/-! Notices (R159) -/

/-- ZONE_DESCRIPTOR_CHANGED (R159): the zone joins the Changed Zone List of every attached controller that enabled the notices; a list
that was empty posts the event. The list holds 511 zones; beyond them zone number 0xFFFFFFFF stands for all (log 6). -/
def Chip.zoneNotify (c : Chip) (g : Nat) : Chip :=
  let z := c.zone g
  (c.attached z.nsid).foldl (fun c f =>
    let r := c.fn f
    let mine := r.changed.filter (·.1 == z.nsid)
    if !(bitOf ((pget r.feats 0x0B).getD 0) 27) || mine.contains (z.nsid, z.zidx) || mine.contains (z.nsid, 0xFFFFFFFF) then c
    else
      let all := decide (mine.length ≥ 511)
      let others := r.changed.filter (·.1 != z.nsid)
      let now := if all then others ++ [(z.nsid, 0xFFFFFFFF)] else r.changed ++ [(z.nsid, z.zidx)]
      let c := c.modFn f fun r => { r with changed := now }
      if mine.isEmpty then c.asyncEvent f (.zoneDescriptorChanged z.nsid) else c) c

/-- The chain of a zone is rebuilt, or need not be any more; after the last one event 0x700C with the count and seconds (R386). -/
def Chip.rebuildOver (c : Chip) (g : Nat) : Chip :=
  if c.z.rebuilds.contains g then
    let left := c.z.rebuilds.filter (· != g)
    let c := c.modZ fun z => { z with rebuilds := left }
    if left.isEmpty then c.post srcDigest 0x700C [c.z.rebuildCount, (c.now - c.z.rebuildAt) / 1000000000] else c
  else c

/-! Pools -/

/-- POOL_DISSOLVE (R354): usable blocks become spares once erased; GROWN_BAD blocks and blocks of lost members are left out; the entry is
unformed again. -/
def Chip.dissolve (c : Chip) (p : Nat) : Chip :=
  match c.pool p with
  | none => c
  | some q =>
    let blocks := ((q.slots.filter fun s => s.pstate != 3).map fun s => (s.die, s.block)) ++ q.slots.filterMap Slot.r ++ (q.slots.filterMap fun s => s.f.map fun x => (x.1, x.2.1))
    let usable := blocks.filter fun x => !(c.bst x.1 x.2).bad && !c.memberLost (memberOf x.1) && !(c.die x.1).retired
    let free := fun (c : Chip) (x : Nat × Nat) =>
      let c := c.modBst x.1 x.2 fun b => { b with owner := 6 }
      if (c.bst x.1 x.2).st = .erased then c else (c.newOp (mkOp .erase x.1 x.2 0 false .b (.blockErase 1))).1
    let c := usable.foldl free c
    (((c.modM fun m => { m with pools := pdel m.pools p }).modZ fun z => { z with eraseQ := z.eraseQ.filter (· != p) }).touch (segPools p)).spareRetry

/-- A pool of the erase queue must be dissolved: a substitute or rebuild block, a bad block, or a block of a lost member (R354). -/
def Chip.mustDissolve (c : Chip) (q : Pool) : Bool :=
  q.slots.any fun s => s.r.isSome || s.f.isSome || (c.bst s.die s.block).bad || c.memberLost (memberOf s.die)

/-- A pool that nothing uses joins the erase queue (R137, R140, R334), and its refresh mark goes: it is dissolved where R354 asks for it, otherwise its 18 blocks are
erased. Its rebuild stops, event 0x400D (R364). -/
def Chip.freePool (c : Chip) (p : Nat) : Chip :=
  match c.pool p with
  | none => c
  | some q =>
    if q.ptstate = 3 then c
    else
      let c := ((c.modPool p fun q => { q with ptstate := 3 }).modZ fun z => { z with eraseQ := z.eraseQ ++ [p] }).touch (segPools p)
      let c := c.modM fun m => { m with marks := pdel m.marks p, scores := pdel m.scores p }
      let c := if q.slots.any (fun s => s.pstate == 2) then (c.modM fun m => { m with
          rbRow := if m.rbRow.any fun x => x.pool == p then none else m.rbRow }).post srcStripe 0x400D [p] else c
      if c.mustDissolve q then c.dissolve p
      else (q.slots.zipIdx).foldl (fun c x => (c.newOp (mkOp .erase x.1.die x.1.block 0 false .b (.poolErase p x.2))).1) c

/-- A pool in which nothing was programmed returns to the erased reserve (R130, Close of an unwritten zone). -/
def Chip.returnPool (c : Chip) (p : Nat) : Chip :=
  ((c.modPool p fun q => { q with ptstate := 1 }).modZ fun z => { z with reserve := z.reserve ++ [p] }).touch (segPools p)

/-- A cistern pair in which nothing is valid is closed and both cisterns are erased (R19, R171, R578). -/
def Chip.erasePair (c : Chip) (i : Nat) : Chip :=
  match c.pair i with
  | none => c
  | some q =>
    let c := c.modPair i fun q => { q with closed := true, units := [] }
    let c := c.modM fun m => { m with
      marks := [q.a, q.b].foldl (fun k x => pdel k (cisternKey (x / 4096) (x % 4096))) m.marks
      folds := pdel m.folds i }
    let c := c.modZ fun z => { z with hPairs := z.hPairs.filter (·.2 != i), zPairs := z.zPairs.filter (·.2 != i) }
    [q.a, q.b].foldl (fun c x => (c.newOp (mkOp .erase (x / 4096) (x % 4096) 0 true .b (.blockErase 2))).1) c

/-- The tail pair of a zone is released for erase (R166, R171). -/
def Chip.dropTail (c : Chip) (g : Nat) : Chip :=
  match pget c.z.zPairs g with
  | some i => c.erasePair i
  | none => c

/-! The checks of a write (R131 to R133) -/

/-- A claim of a write is still held in a zone: a write of it that passed the checks has not ended (R141). -/
def Chip.writesIn (c : Chip) (g : Nat) : Bool :=
  c.intake.tags.any fun e =>
    e.2.placed && match c.ns e.2.nsid with
      | some n => n.zoned && e.2.ranges.any fun r => n.zoneOf r.first == g
      | none => false

/-- The open zone of a namespace in ZSIO that was written least recently (R131). -/
def Chip.lruOpen (c : Chip) (nsid : Nat) : Option Nat :=
  ((c.z.zones.filter fun z => z.2.nsid == nsid && z.2.st == .zsio).foldl (init := none) fun best z =>
    match best with
    | none => some z
    | some b => if z.2.stamp < b.2.stamp then some z else some b).map (·.1)

/-- What R131 decides for a zone that needs to become open. -/
inductive OpenRes where
  | ok (c : Chip) | wait | fail (st : Status)

/-- R131: at MOR the least recently written ZSIO zone is closed first, once no write that passed the checks is in it (R141); above
MAR the command fails. Either failure changes no zone. -/
def Chip.openRes (c : Chip) (nsid g : Nat) : OpenRes :=
  let st := (c.zone g).st
  if st = .zse || st = .zsc then
    if c.z.bindQ.any fun b => b.2.1 == g then .ok c
    else
      let full := decide (c.openZones nsid ≥ c.mor nsid)
      match full, c.lruOpen nsid with
      | true, none => .fail .tooManyOpen
      | true, some h =>
        if st = .zse && decide (c.activeZones nsid ≥ c.mar nsid) then .fail .tooManyActive
        else if c.writesIn h then .wait
        else .ok (c.modZone h fun z => { z with st := .zsc })
      | false, _ => if st = .zse && decide (c.activeZones nsid ≥ c.mar nsid) then .fail .tooManyActive else .ok c
  else .ok c

/-- The checks of R132 but the last: offline, read only, full, write pointer, zone boundary. -/
def Chip.zoneCheck (c : Chip) (g off n : Nat) (append : Bool) : Option Status :=
  let z := c.zone g
  if z.st = .zso then some .zoneOffline
  else if z.st = .zsro then some .zoneReadOnly
  else if z.st = .zsf then some .zoneFull
  else if !append && off != z.wpOff then some .zoneInvalidWrite
  else if !append && decide (off + n > 0x80000) then some .zoneBoundary
  else if z.wpOff + n > 0x60000 then some .zoneBoundary
  else none

/-- The write pointer moves on by `n` when the checks are passed; a zone that was not open opens implicitly, and one that is now full
becomes ZSF (R130, R133). -/
def Chip.zoneAdvance (c : Chip) (g n : Nat) : Chip :=
  let k := c.z.stamp
  (c.modZone g fun z => { z with
    wpOff := z.wpOff + n
    stamp := k
    st := if z.wpOff + n ≥ 0x60000 then .zsf else if z.st.isOpen then z.st else .zsio }).modZ fun z => { z with stamp := k + 1 }

/-- Fill a range of a zone with zeros in the rows it falls in (R133, R139), one unit at a time. -/
def Chip.fillUnits (c : Chip) (g first n : Nat) : Chip :=
  (List.range n).foldl (fun c k =>
    let u := first + k
    let pool := ((c.zone g).newPool.getD ((c.zone g).pool.getD 0))
    let (c, i) := match c.findRow pool (u / 1024) with
      | some i => (c, i)
      | none => c.newRow pool (u / 1024) (.zone g)
    (c.modRow i fun r => { r with pads := r.pads ++ [u % 1024] }).rowGo i) c

/-- WRITE_POINTER_ROLLBACK (R133): a zoned write ends before its commit point. The write pointer goes back if nothing later took
positions and the write did not make the zone full; otherwise the range counts as written and is filled. -/
def Chip.rollback (c : Chip) (x : Ctx) : Chip :=
  match x.ranges.head?, c.ns x.nsid with
  | some r, some n =>
    if x.placed && n.zoned && !x.committed then
      let g := n.zoneOf r.first
      let off := r.first % 0x80000
      let len := r.last + 1 - r.first
      let z := c.zone g
      if z.wpOff = off + len && z.st != .zsf then c.modZone g fun z => { z with wpOff := off }
      else ((c.modZone g fun z => { z with filled := z.filled ++ [(off, len)] }).fillUnits g off len).post srcZmap 0x200C
        [x.nsid, z.zidx, r.first, len]
    else c
  | _, _ => c

/-! State changes -/

/-- Whether the row at the write pointer of a zone is partly filled (R139). -/
def ZoneRec.tailOpen (z : ZoneRec) : Bool := z.wpOff % 1024 != 0

/-- A zone with no pool, or all of whose rows are whole, becomes ZSF; the seal follows (R130, R384). -/
def Chip.makeFull (c : Chip) (g : Nat) (ctrl : Bool) : Chip :=
  c.modZone g fun z => { z with st := .zsf, zfc := z.zfc || ctrl }

/-- Pad the tail row of a zone (R139); `tag` waits for it. -/
def Chip.padTail (c : Chip) (g : Nat) (tag : Option Nat) : Chip :=
  let z := c.zone g
  let pool := z.newPool.getD (z.pool.getD 0)
  let (c, i) := match c.findRow pool (z.wpOff / 1024) with
    | some i => (c, i)
    | none => c.newRow pool (z.wpOff / 1024) (.zone g)
  let rest := (List.range (1024 - z.wpOff % 1024)).map (z.wpOff % 1024 + ·)
  ((c.modRow i fun r => { r with pads := r.pads ++ rest.filter (fun u => !r.pads.contains u), finishTag := tag }).modZone g
    fun z => { z with rowsPad := z.rowsPad + 1 }).rowGo i

/-- What a Reset or Offline leaves once its record is durable: the pool joins the erase queue, seal and extension are discarded
(R140, R384, R388). A copy of the pool under way ends, and the partly written pool is freed (R339). -/
def Chip.zoneEmptied (c : Chip) (g : Nat) (offline : Bool) : Chip :=
  let z := c.zone g
  let c := match z.pool with
    | some p => if (c.pool p).any (fun (q : Pool) => q.ptstate == 2 || q.ptstate == 4) then c.freePool p else c
    | none => c
  let c := match z.newPool with
    | some p => c.freePool p
    | none => c
  let c := (c.dropTail g).modZ fun y => { y with
    chains := pdel y.chains g
    lanes := y.lanes.filter fun l => l.1 != g
    sealJobs := pdel y.sealJobs g
    relocQ := y.relocQ.filter (· != g)
    rows := y.rows.filter fun r => r.2.zone != some g && !(z.newPool == some r.2.pool) }
  let c := c.modM fun m => { m with victims := m.victims.filter fun v => v.2.zone != some g }
  let c := c.rebuildOver g
  let fresh := zoneReset z.nsid z.zidx
  (c.modZone g fun _ => { fresh with st := if offline then .zso else .zse, stamp := z.stamp }).modZ fun y =>
    { y with parts := y.parts.filter fun p => p.2.zone != some g }

/-! Namespaces -/

/-- The capacity budget in pool units, those reserved, and those a conventional namespace needs (R124). -/
def Chip.budget (c : Chip) : Nat := if c.fuses.grade = 2 then 327680 else 655360
def Chip.unitsUsed (c : Chip) : Nat := (c.z.nss.map fun n => n.2.units).sum
def Chip.opEighths (c : Chip) : Nat :=
  let o := c.fld F.ZMAP_CONV_OP_EIGHTHS
  if 1 ≤ o ∧ o ≤ 4 then o else 1
def Chip.convUnits (c : Chip) (bytes : Nat) : Nat := (bytes * (8 + c.opEighths) / 8 + 1610612735) / 1610612736

/-- The conventional limit and its use in GiB (R125). The populated DRAM is 512 GiB (log 12). -/
def Chip.convLimit (c : Chip) : Nat := min (c.fuses.dramGib / 4 * 1024) ((if c.fuses.grade = 2 then 64 else 128) * 1024)
def Chip.convUsed (c : Chip) : Nat :=
  ((c.z.nss.filter fun n => !n.2.zoned).map fun n => n.2.size * lbaBytes n.2.fmt).sum / 2 ^ 30

/-- The first device zone index from which `n` zones are free. -/
def Chip.zoneBase (c : Chip) (n : Nat) : Nat :=
  let ends := 0 :: (c.z.nss.filter (·.2.zoned)).map fun x => x.2.zbase + x.2.zoneCount
  let free := fun b => (c.z.nss.filter (·.2.zoned)).all fun x => decide (b + n ≤ x.2.zbase ∨ x.2.zbase + x.2.zoneCount ≤ b)
  ((ends.filter free).min?).getD 0

/-- The end of the map array (R150). -/
def Chip.mapEnd (c : Chip) : Nat :=
  ((c.z.nss.filter (!·.2.zoned)).map fun x => x.2.base + (x.2.size + lbasPerUnit x.2.fmt - 1) / lbasPerUnit x.2.fmt).foldl max 0

/-- Namespace Management create (R123 to R126, R129): the namespace and its reservation, or a status. -/
def Chip.createNs (c : Chip) (zoned : Bool) (size fmt : Nat) (ext : Bool) (group : Nat) (handles : List Nat) : Except Status (Chip × Nat) :=
  if fmt > 5 || (zoned && decide (fmt ≥ 4)) || size = 0 || (zoned && size % 0x80000 != 0) then .error .invalidNamespaceOrFormat
  else if handles.length > 32 || handles.any (· ≥ 64) || group < 1 || group > 1024 then .error .invalidField
  else
    let units := if zoned then size / 0x80000 else c.convUnits (size * lbaBytes fmt)
    if c.unitsUsed + units > c.budget then .error .nsInsufficientCapacity
    else if !zoned && c.convUsed + (size * lbaBytes fmt + 2 ^ 30 - 1) / 2 ^ 30 > c.convLimit then .error .nsInsufficientCapacity
    else if zoned && c.marSum + 1 > 8192 then .error .nsInsufficientCapacity
    else match plowest c.z.nss 8192 1 with
      | none => .error .nsIdUnavailable
      | some i =>
        let n : NsRec := ⟨zoned, fmt, ext, size, group, handles, units, c.mapEnd, c.zoneBase units, false, c.z.nsOrder, 2, c.fld F.CONF_SEQ_NEXT⟩
        .ok (c.modZ fun z => { z with nss := pset z.nss i n, nsOrder := z.nsOrder + 1 }, i)

/-- Namespace Management delete: the units are released, zones and map entries go, pools of its zones join the erase queue (R124). -/
def Chip.deleteNs (c : Chip) (i : Nat) : Chip :=
  match c.ns i with
  | none => c
  | some n =>
    let gs := (c.z.zones.filter fun z => n.zoned && decide (n.zbase ≤ z.1 ∧ z.1 < n.zbase + n.zoneCount)).map (·.1)
    let c := gs.foldl (fun c g => c.zoneEmptied g false) c
    let hi := n.base + (n.size + lbasPerUnit n.fmt - 1) / lbasPerUnit n.fmt
    let c := if n.zoned then c else
      (c.z.map.filter fun e => decide (n.base ≤ e.1 ∧ e.1 < hi)).foldl (fun c e => c.setMap e.1 mapDealloc) c
    let fs := c.attached i
    let c := fs.foldl (fun c f => (c.modFn f fun r => { r with nsids := r.nsids.filter (· != i) }).asyncEvent f (.namespaceChanged i)) c
    let c := c.setReg .zmapNsz (i - 1) 0
    c.modZ fun z => { z with
      nss := pdel z.nss i
      zones := z.zones.filter fun x => !gs.contains x.1
      resvs := pdel z.resvs i }

end Sys2Proof.Machine
end

