-- ==== Sys2Proof/Machine/Conf.lean ====
section
/-! DEFINITION. Claims at the confluence slices, sequence numbers, squashing and fences (R20 to R23, R86, R93 to R97, R109, R416, R417). -/

namespace Sys2Proof.Machine

/-- The slice of a granule of a namespace (R20). -/
def sliceOf (nsid granule : Nat) : Nat := Config.sliceHash nsid granule % 32

/-- The granules a range touches (R20). -/
def granulesOf (fmt : Nat) (r : LbaRange) : List Nat :=
  let per := lbasPerGranule fmt
  (List.range (r.last / per + 1 - r.first / per)).map (r.first / per + ·)

/-- The slices of some ranges, in ascending order (R21, R23). -/
def slicesOf (fmt : Nat) (rs : List LbaRange) : List Nat :=
  (List.range 32).filter fun s => rs.any fun r => (granulesOf fmt r).any fun g => sliceOf r.nsid g == s

/-- Ranges restricted to a slice: what a claim records. -/
def restrictTo (fmt s : Nat) (rs : List LbaRange) : List LbaRange :=
  let per := lbasPerGranule fmt
  rs.flatMap fun r => (granulesOf fmt r).filterMap fun g =>
    if sliceOf r.nsid g = s then some ⟨r.nsid, max r.first (g * per), min r.last (g * per + per - 1)⟩ else none

/-- Two ranges overlap; two claims do. -/
def LbaRange.meets (a b : LbaRange) : Bool := a.nsid == b.nsid && decide (a.first ≤ b.last ∧ b.first ≤ a.last)
def Claim.meets (a b : Claim) : Bool := a.ranges.any fun r => b.ranges.any r.meets

/-- A slice; change a slice. -/
def Chip.slice (c : Chip) (s : Nat) : Slice := (pget c.slices s).getD ⟨[], []⟩
def Chip.setSlice (c : Chip) (s : Nat) (x : Slice) : Chip := { c with slices := pset c.slices s x }

/-- The table of R94: a new claim waits for an earlier one it meets. -/
def Chip.waitsFor (c : Chip) (new old : Claim) : Bool :=
  new.meets old && match new.kind, old.kind with
    | .r, .r => false
    | .w, .r => false
    | .r, .w => !((c.ctx old.tag).any Ctx.committed)
    | _, _ => true

/-- The claim of a command in a slice, and the earlier claims it waits for. -/
def Chip.claimOf (c : Chip) (s t : Nat) : Option Claim := (c.slice s).claims.find? (·.tag == t)
def Chip.blockers (c : Chip) (s t : Nat) : List Claim :=
  match c.claimOf s t with
  | some k => (((c.slice s).claims.takeWhile (·.tag != t)).filter (c.waitsFor k ·))
  | none => []

/-- A claim with no earlier claim to wait for is granted (R94). -/
def Chip.grantAt (c : Chip) (s t : Nat) : Chip :=
  match c.claimOf s t with
  | some k =>
    if !k.granted && (c.blockers s t).isEmpty then
      let sl := c.slice s
      (c.setSlice s { sl with claims := sl.claims.map fun k => if k.tag = t then { k with granted := true } else k }).modCtx t
        fun x => { x with granted := x.granted ++ [s] }
    else c
  | none => c

/-- Every slice of a command holds a claim of it (R23). -/
def Chip.allClaimed (c : Chip) (t : Nat) : Bool :=
  match c.ctx t with
  | some x => x.slices.all fun s => (c.claimOf s t).isSome
  | none => true

/-- A command may go on to its next slice: its claim here is granted, or it waits only for commands that have claimed all of theirs. -/
def Chip.mayMoveOn (c : Chip) (t s : Nat) : Bool :=
  match c.claimOf s t with
  | some k => k.granted || (c.blockers s t).all fun b => c.allClaimed b.tag
  | none => false

/-- Place a claim in a slice: at the end of its claims, or in its arrival queue when it holds 4,096 (R96). -/
def Chip.placeClaim (c : Chip) (t s : Nat) (x : Ctx) : Chip :=
  let fmt := ((c.ns x.nsid).map NsRec.fmt).getD 0
  let k : Claim := ⟨t, x.claimKind, restrictTo fmt s x.ranges, false⟩
  let sl := c.slice s
  if sl.claims.length < 4096 then
    let c := c.setSlice s { sl with claims := sl.claims ++ [k] }
    (c.setFld F.CONF_SLSTAT_PEAK (max (c.fld F.CONF_SLSTAT_PEAK s) (sl.claims.length + 1)) s).grantAt s t
  else c.setSlice s { sl with arrival := sl.arrival ++ [k] }

/-- Claim slices one at a time in ascending order, as far as R23 allows; at most `fuel`. -/
def Chip.placeClaims : Nat → Nat → Chip → Chip
  | 0, _, c => c
  | fuel + 1, t, c =>
    match c.ctx t with
    | none => c
    | some x =>
      let todo := x.slices.filter fun s => (c.claimOf s t).isNone
      let last := (x.slices.filter fun s => (c.claimOf s t).isSome).getLast?
      match todo with
      | [] => c
      | s :: _ =>
        if (c.slice s).arrival.any (·.tag == t) then c
        else if (last.map (c.mayMoveOn t)).getD true then placeClaims fuel t (c.placeClaim t s x)
        else c

/-- SEQUENCE_NUMBER_ASSIGN (R23, R122): all claims granted, the command takes the next number, while CONF_CTL.SEQ_LOCK is 1. -/
def Chip.seqAssign (c : Chip) (t : Nat) : Chip :=
  match c.ctx t with
  | some x =>
    if x.seq.isNone && x.st = .claim && !x.slices.isEmpty && x.granted.length = x.slices.length && c.flag F.CONF_CTL_SEQ_LOCK then
      let n := c.fld F.CONF_SEQ_NEXT
      (c.setFld F.CONF_SEQ_NEXT (n + 1)).modCtx t fun x => { x with seq := some n }
    else c
  | none => c

/-- Claim, and take a sequence number when the last claim is granted. -/
def Chip.claimStep (c : Chip) (t : Nat) : Chip := (Chip.placeClaims 33 t c).seqAssign t

/-- Move waiting arrivals into a slice that has room, in order (R96). -/
def Slice.letIn (s : Slice) : Slice :=
  let n := 4096 - s.claims.length
  { s with claims := s.claims ++ s.arrival.take n, arrival := s.arrival.drop n }

/-- Release every claim of a command (R97). -/
def Chip.releaseClaims (c : Chip) (t : Nat) : Chip :=
  { c with slices := c.slices.map fun e =>
      (e.1, Slice.letIn { e.2 with claims := e.2.claims.filter (·.tag != t), arrival := e.2.arrival.filter (·.tag != t) }) }

/-! Squashing (R109, R112, R416) -/

/-- The tag of a command is freed (R86); its events at the post stage go with it. -/
def Chip.freeTag (c : Chip) (t : Nat) : Chip :=
  { c with
    intake := { c.intake with
      tags := pdel c.intake.tags t
      postQ := (c.intake.postQ.filter fun e => match e with | .done u _ _ => u != t | _ => true).map fun e =>
        match e with | .abort (some u) b i f => if u = t then .abort none b i f else e | _ => e }
    xts := c.xts.map fun k => { k with refs := k.refs.filter (· != t) } }

/-- Reads posted for a command finish and their data is discarded (R109). -/
def Chip.dropReads (c : Chip) (t : Nat) : Chip :=
  c.modM fun m => { m with rds := m.rds.map fun e => (e.1, match e.2.for_ with
    | .host u _ | .merge u _ => if u = t then { e.2 with for_ := .discard } else e.2
    | _ => e.2) }

/-- A command that has not passed its commit point loses its claims, its positions, its place in queues and its reservation (R100, R109,
R133). -/
def Chip.undo (c : Chip) (t : Nat) : Chip :=
  match c.ctx t with
  | none => c
  | some x =>
    let c := ((c.rollback x).releaseClaims t).dropReads t
    let c := c.modZ fun z => { z with bindQ := z.bindQ.filter (·.1 != t), retryQ := z.retryQ.filter (· != t) }
    let c := c.modFn x.fn fun r => { r with aers := r.aers.filter (· != t) }
    let c := c.modCtx t fun x => { x with placed := false, seq := none, slices := [], granted := [], st := .squash }
    match x.commit with
    | some k => Chip.commitAll (c.modL fun l => { l with
        commitQ := l.commitQ.filter (·.tag != t), resv := pdel l.resv k }).ledgerPump
    | none => c

/-- COMMAND_SQUASH without a completion (R86, R112, R416). -/
def Chip.squash (c : Chip) (t : Nat) : Chip := (c.undo t).freeTag t

/-- A command ends with an error before its commit point: it has no effect, and its completion is sent. -/
def Chip.failCmd (c : Chip) (t : Nat) (st : Status) (dw0 : Nat := 0) : Chip := (c.undo t).complete t st dw0

/-- Tags of a function whose commands a test picks. -/
def Chip.tagsOf (c : Chip) (f : Nat) (p : Ctx → Bool) : List Nat := (c.intake.tags.filter fun e => e.2.fn == f && p e.2).map (·.1)

/-- Squash every command of a function that has not passed its commit point. -/
def Chip.squashFn (c : Chip) (f : Nat) : Chip := (c.tagsOf f fun x => !x.committed).foldl (fun c t => c.squash t) c

/-! Fences (R75, R416, R417) -/

/-- FUNCTION_FENCE (R75, R416): CFS, the AER report, event 0x1006; uncommitted commands are squashed. A function fenced already keeps
its cause, unless its port fails. -/
def Chip.fence (c : Chip) (f cause : Nat) : Chip :=
  let was := (c.fn f).fence
  if was.isSome && cause != 4 then c
  else
    let c := c.modFn f fun r => { r with fence := some cause, aers := [] }
    if was.isSome then c
    else (((c.emit (.aer f true false)).post (srcHp (portOf f)) 0x1006 [f, cause]).addFld F.TENANT_CNT_FENCES 1).squashFn f

/-- A fence is lifted (R417): event 0x8009. -/
def Chip.unfence (c : Chip) (f : Nat) : Chip :=
  match (c.fn f).fence with
  | some k => (c.modFn f fun r => { r with fence := none }).post srcTenant 0x8009 [f, k]
  | none => c

end Sys2Proof.Machine
end

