-- ==== Sys2Proof/Machine/ReadPath.lean ====
section
/-! DEFINITION. Where a unit of a namespace is read from, and the commands that read: Read, Compare, Verify, and the merge of a
512-byte write (R14, R98, R134, R149, R154, R155, R169, R178, R305, R325). -/

namespace Sys2Proof.Machine

/-- What a lookup finds. -/
inductive Source where
  /-- Data of an earlier committed write, in clear (R98). -/
  | buffer (bytes : List Byte)
  | pool (p u : Nat)
  | basin (pair off : Nat)
  | dealloc | lost
  | invalid (entry : Nat)
  deriving DecidableEq, Repr

/-- A part is still served from its buffer: its write passed its commit point and holds its claims (R14, R94, R98). -/
def Chip.buffered (c : Chip) (p : Part) : Bool :=
  (c.ctx p.tag).any fun x => x.committed && x.commit == some p.commit

/-- The newest buffered part that covers a unit (R98). -/
def Chip.bufferOf (c : Chip) (nsid : Nat) (zone : Option Nat) (u : Nat) : Option Part :=
  ((c.z.parts.map (·.2)).filter fun p =>
    p.nsid == nsid && p.zone == zone && decide (p.first ≤ u ∧ u < p.first + p.len) && c.buffered p).foldl (init := none) fun best p =>
      match best with
      | none => some p
      | some b => if p.seq > b.seq then some p else some b

/-- The basin place of a unit of a zone: the newest copy of it in the zone's tail pair. -/
def Chip.tailAt (c : Chip) (g u : Nat) : Option (Nat × Nat) :=
  let own := (pget c.z.zPairs g).bind fun i => (c.pair i).bind fun q =>
    ((q.units.filter fun e => e.2.1 == u).getLast?).map fun e => (i, e.1)
  let found := ((c.zone g).lands.find? fun l => decide (l.1 ≤ u ∧ u < l.1 + l.2.1)).map fun l => (l.2.2.1, l.2.2.2 + (u - l.1))
  if own.isSome then own else found

/-- The lookup of a conventional unit by map index (R149, R155). -/
def Chip.lookConv (c : Chip) (nsid i : Nat) : Source :=
  match c.bufferOf nsid none i with
  | some p => .buffer (p.sb.getD (i - p.first) [])
  | none =>
    match mapDecode (c.mapAt i) with
    | .pool p u => .pool p u
    | .basin q o => .basin q o
    | .dealloc => .dealloc
    | .lost => .lost
    | .invalid => .invalid (c.mapAt i)

/-- The lookup of a unit of a zone by arithmetic (R134, R138, R186). -/
def Chip.lookZone (c : Chip) (nsid g u : Nat) : Source :=
  let z := c.zone g
  if u ≥ z.wpOff || z.filled.any fun f => decide (f.1 ≤ u ∧ u < f.1 + f.2) then .dealloc
  else if z.lostRows.contains (u / 1024) then .lost
  else match c.bufferOf nsid (some g) u with
    | some p => .buffer (p.sb.getD (u - p.first) [])
    | none =>
      match z.pool with
      | some p => if ((c.pool p).map Pool.done).any (·.contains (u / 1024)) then .pool p u
          else match c.tailAt g u with
            | some (q, o) => .basin q o
            | none => .dealloc
      | none => .dealloc

/-- The lookup of unit `k` (4 KiB, from LBA 0) of a namespace. -/
def Chip.look (c : Chip) (nsid : Nat) (ns : NsRec) (k : Nat) : Source :=
  if ns.zoned then c.lookZone nsid (ns.zbase + k / 0x80000) (k % 0x80000) else c.lookConv nsid (ns.base + k)

/-- The unit a read of deallocated LBAs returns: zeros, and where the format has protection information, the guard over the zeros,
application tag 0xFFFF and reference tag 0xFFFF_FFFF (R154). -/
def deallocUnit (fmt : Nat) : List Byte :=
  let ones := List.replicate 6 (0xFF : Byte)
  let pi := fun n => Config.piGuard fmt (List.replicate n 0) ++ ones
  match fmt with
  | 1 => List.replicate 4096 0 ++ pi 4096
  | 2 => List.replicate 4096 0 ++ pi 4096
  | 3 => List.replicate 4096 0 ++ List.replicate 48 0 ++ pi 4096
  | 5 => List.replicate 4096 0 ++ (List.range 8).flatMap fun _ => pi 512
  | _ => []

/-- The chunk of a unit of a cistern pair: 16 units fill a pSLC page (R168, R279). -/
def pairChunkAt (cist off : Nat) : Chunk := ⟨cist / 4096, cist % 4096, off / 16, off % 16, true⟩

/-- A read of one code unit, before it reaches SCHED. -/
def mkRd (f : RdFor) (ch : Chunk) (place : Option (Nat × Nat × Nat)) (other : Option Chunk) (expect : Nat × Nat) (deg : Bool) : Rd where
  for_ := f
  here := false
  cls := .b
  at_ := ch
  place := place
  other := other
  expect := expect
  arrived := 0
  deadline := none
  op := none
  level := 0
  parts := []
  got := []
  spill := false
  degraded := deg
  failed := []
  await := false
  pinKey := 0
  idx := 0
  best := 0
  weight := 2 ^ 16
  mismatch := false

/-- Post a read: its pool or cistern is pinned with the lookup (R325). -/
def Chip.newRd (c : Chip) (r : Rd) : Chip × Nat :=
  let i := c.m.nextRd
  let key := match r.place with
    | some (p, _, _) => p
    | none => cisternKey r.at_.die r.at_.block
  ((c.modM fun m => { m with rds := pset m.rds i { r with pinKey := key }, nextRd := i + 1 }).pin key, i)

/-- A read ends: its pin goes (R325). -/
def Chip.endRd (c : Chip) (i : Nat) : Chip :=
  match pget c.m.rds i with
  | some r => (c.modM fun m => { m with rds := pdel m.rds i }).unpin r.pinKey
  | none => c

/-- The read of a pool's unit: its chunk, or a degraded read where the chunk is reconstructed (R355, R358). -/
def Chip.poolRd (c : Chip) (f : RdFor) (p u : Nat) (expect : Nat × Nat) : Rd :=
  let place := some (p, rowOfUnit u, stripOfUnit u)
  match c.unitChunk p u with
  | some ch => mkRd f ch place none expect false
  | none => mkRd f ⟨0, 0, rowOfUnit u, cuOfUnit u, false⟩ place none expect true

/-- The read of a basin unit, with its other copy (R169). -/
def Chip.basinRd (c : Chip) (f : RdFor) (pair off : Nat) (expect : Nat × Nat) : Rd :=
  let q := c.pair pair
  mkRd f (pairChunkAt ((q.map PairRec.a).getD 0) off) none (q.map fun q => pairChunkAt q.b off) expect false

/-- Post the read a lookup calls for, if it names the medium. -/
def Chip.readSource (c : Chip) (f : RdFor) (s : Source) (expect : Nat × Nat) : Chip :=
  match s with
  | .pool p u => (c.newRd (c.poolRd f p u expect)).1
  | .basin q o => (c.newRd (c.basinRd f q o expect)).1
  | _ => c

/-- The first and the number of 4 KiB units of an LBA range. -/
def firstUnit (per slba : Nat) : Nat := slba / per
def unitCount (per slba n : Nat) : Nat := (slba + n - 1) / per + 1 - slba / per

/-- A protection-information failure as a status. -/
def piStatus (k : Nat) : Status := if k = 0 then .success else if k = 1 then .guardError else if k = 2 then .appTagError else .refTagError

/-- The check of a unit of a command against its PRINFO (R98). -/
def Chip.piOf (c : Chip) (x : Ctx) (k : Nat) (u : List Byte) : Status :=
  match c.ns x.nsid with
  | some n =>
    if metaBytes n.fmt = 0 then .success
    else piStatus (Config.piCheck n.fmt (bitsOf (x.dw 12) 29 26) (k * lbasPerUnit n.fmt) u)
  | none => .success

/-- A Compare matches when the units the host sent equal those read, over the LBAs compared. -/
def compareOk (x : Ctx) : Bool := x.units.all fun e => trimZeros ((pget x.host e.1).getD []) == trimZeros e.2

/-- A reading command completes when no unit is outstanding, and a Compare when the host's data is there too. -/
def Chip.readCheck (c : Chip) (t : Nat) : Chip :=
  match c.ctx t with
  | some x =>
    if x.st = .media && x.waiting.isEmpty && (x.kind = .read || x.kind = .verify) then c.complete t x.status
    else if x.st = .media && x.waiting.isEmpty && x.kind = .compare && (x.dataIn || x.status != .success) then
      c.complete t (if x.status != .success then x.status else if compareOk x then .success else .compareFailure)
    else c
  | none => c

/-- The first error of a command stays. -/
def Ctx.err (x : Ctx) (s : Status) : Ctx := if x.status = .success then { x with status := s } else x

/-- A unit of a reading command arrives in clear, or fails with a status: data goes to the host (R102), a Compare keeps it. -/
def Chip.unitArrives (c : Chip) (t j : Nat) (u : List Byte) (err : Status) (checked : Bool) : Chip :=
  match c.ctx t with
  | none => c
  | some x =>
    let per := c.perOf x.nsid
    let k := firstUnit per (sqeSlba x.sqe) + j
    let st := if err != .success then err else if checked then c.piOf x k u else .success
    let c := if x.kind = .read && st = .success then c.emit (.hostData t j u) else c
    (c.modCtx t fun x => Ctx.err { x with
      waiting := x.waiting.filter (· != j)
      units := if x.kind = .compare && st = .success then pset x.units j u else x.units } st).readCheck t

/-- What a lost LBA answers (R120, R155, R367). -/
def lostStatus (k : CmdKind) : Status := if k = .verify then .rowLost else .unrecoveredRead

/-- INVALID_MAP_ENTRY (R149): the functions of the namespace are fenced with cause 0x3, event 0x200E. -/
def Chip.badMapEntry (c : Chip) (nsid lba entry : Nat) : Chip :=
  (c.attached nsid).foldl (fun c f => c.fence f 3) (c.post srcZmap 0x200E [nsid, lba, entry])

/-- One unit of a reading command: from a buffer, as deallocated, or from the medium. -/
def Chip.readUnit (t : Nat) (nsid : Nat) (ns : NsRec) (k0 : Nat) (c : Chip) (j : Nat) : Chip :=
  match c.ctx t with
  | none => c
  | some x =>
    let lba := (k0 + j) * lbasPerUnit ns.fmt
    match c.look nsid ns (k0 + j) with
    | .buffer b => (c.modCtx t fun x => { x with bufferHit := true }).unitArrives t j b .success true
    | .dealloc => c.unitArrives t j (deallocUnit ns.fmt) .success false
    | .lost => c.unitArrives t j [] (lostStatus x.kind) false
    | .invalid e => c.badMapEntry nsid lba e
    | s => c.readSource (.host t j) s (nsid, lba)

/-- Zones of a range of LBAs. -/
def NsRec.zonesOf (n : NsRec) (r : LbaRange) : List Nat :=
  (List.range (r.last / 0x80000 + 1 - r.first / 0x80000)).map (n.zbase + r.first / 0x80000 + ·)

/-- A reading command whose claims are granted reads each unit (R98, R134). A range with an Offline zone returns nothing. -/
def Chip.startRead (c : Chip) (t : Nat) : Chip :=
  match c.ctx t with
  | none => c
  | some x =>
    match c.ns x.nsid with
    | none => c
    | some ns =>
      if ns.zoned && x.ranges.any fun r => (ns.zonesOf r).any fun g => (c.zone g).st == .zso then c.complete t .zoneOffline
      else
        let per := lbasPerUnit ns.fmt
        let k0 := firstUnit per (sqeSlba x.sqe)
        let n := unitCount per (sqeSlba x.sqe) (sqeNlb x.sqe)
        let c := c.modCtx t fun x => { x with st := .media, waiting := List.range n }
        (List.range n).foldl (Chip.readUnit t x.nsid ns k0) c

/-! Writes of 512-byte formats cover units in part (R178) -/

/-- A unit with the LBAs `lo` to `hi - 1` of it taken from new data. -/
def overlay (old new : List Byte) (lo hi : Nat) : List Byte :=
  trimZeros (((padTo 4160 old).zip (padTo 4160 new)).zipIdx.map fun x =>
    let l := if x.2 < 4096 then x.2 / 512 else (x.2 - 4096) / 8
    if lo ≤ l ∧ l < hi then x.1.2 else x.1.1)

/-- The LBAs of unit `j` of a write that it covers. -/
def coveredOf (per slba n j : Nat) : Nat × Nat :=
  let k := slba / per + j
  (max slba (k * per) - k * per, min (slba + n) (k * per + per) - k * per)

/-- Units of a write that it covers in part. -/
def partialUnits (per slba n : Nat) : List Nat :=
  (List.range (unitCount per slba n)).filter fun j => coveredOf per slba n j != (0, per)

/-- A write's data is complete: each unit merged with the old contents of the LBAs it does not cover; the write passes its commit
point if the rest holds. The wait for energy starts (R99, R101). -/
def Chip.dataComplete (c : Chip) (t : Nat) : Chip :=
  match c.ctx t with
  | none => c
  | some x =>
    let per := c.perOf x.nsid
    let slba := sqeSlba x.sqe
    let unit := fun j =>
      let new := (pget x.host j).getD []
      let w := coveredOf per slba (sqeNlb x.sqe) j
      if per = 1 || w = (0, per) then new else overlay ((pget x.merge j).getD []) new w.1 w.2
    let us := (List.range (unitCount per slba (sqeNlb x.sqe))).foldl (fun m j => pset m j (unit j)) []
    (c.modCtx t fun x => { x with
      units := us, dataIn := true
      st := if x.admitted then x.st else .admission
      admitAt := some c.now }).tryCommit t

/-- Data is in and claims are granted: units covered in part are read first, then the data is complete; old contents that are lost end the
command (log 81). A write that finds the retry region full waits (R163). -/
def Chip.dataGo (c : Chip) (t : Nat) : Chip :=
  match c.ctx t with
  | none => c
  | some x =>
    match c.ns x.nsid with
    | none => c
    | some ns =>
      if x.dataIn || x.host.isEmpty || x.seq.isNone || x.committed || !x.mergeWait.isEmpty then c
      else if c.retryBytes + x.dlen > c.retrySize then
        if c.z.retryQ.contains t then c else c.modZ fun z => { z with retryQ := z.retryQ ++ [t] }
      else
        let c := c.modZ fun z => { z with retryQ := z.retryQ.filter (· != t) }
        let per := lbasPerUnit ns.fmt
        let js := (partialUnits per (sqeSlba x.sqe) (sqeNlb x.sqe)).filter fun j => (pget x.merge j).isNone
        let k0 := firstUnit per (sqeSlba x.sqe)
        let one := fun (c : Chip) (j : Nat) =>
          match c.look x.nsid ns (k0 + j) with
          | .buffer b => c.modCtx t fun x => { x with merge := pset x.merge j b }
          | .dealloc => c.modCtx t fun x => { x with merge := pset x.merge j (deallocUnit ns.fmt) }
          | .lost => c
          | .invalid e => c.badMapEntry x.nsid ((k0 + j) * per) e
          | s => (c.modCtx t fun x => { x with mergeWait := x.mergeWait ++ [j] }).readSource (.merge t j) s (x.nsid, (k0 + j) * per)
        if js.any fun j => c.look x.nsid ns (k0 + j) == .lost then c.failCmd t .unrecoveredRead
        else
        let c := js.foldl one c
        if (c.ctx t).any fun x => x.mergeWait.isEmpty then c.dataComplete t else c

/-- Room in the retry region: writes that wait for it go on, in order (R163). -/
def Chip.retryGo (c : Chip) : Chip := c.z.retryQ.foldl (fun c t => c.dataGo t) c

/-- The old contents of a unit arrive, or cannot be read: then the write ends with Unrecovered Read Error and has no effect. -/
def Chip.mergeArrives (c : Chip) (t j : Nat) (u : List Byte) (ok : Bool) : Chip :=
  match c.ctx t with
  | none => c
  | some _ =>
    if ok then
      let c := c.modCtx t fun x => { x with merge := pset x.merge j u, mergeWait := x.mergeWait.filter (· != j) }
      if (c.ctx t).any fun x => x.mergeWait.isEmpty then c.dataComplete t else c
    else c.failCmd t .unrecoveredRead

end Sys2Proof.Machine
end

