-- ==== Sys2Proof/Machine/Seal.lean ====
section
/-! DEFINITION. Zone seals: lanes, the fragment chain, storing and verifying a seal (R377 to R388, R395). -/

namespace Sys2Proof.Machine

/-- The seal key of a namespace: its slot, usable while the slot is valid with USAGE SEAL (R380, R395). -/
def Chip.sealSlotOf (c : Chip) (nsid : Nat) : Nat := ((c.ns nsid).map NsRec.sealSlot).getD 2
def Chip.sealKeyOk (c : Chip) (nsid : Nat) : Bool := (pget c.keys (c.sealSlotOf nsid)).any fun k => bitOf k.usage 4
def Chip.sealKey (c : Chip) (nsid : Nat) : List Byte := ((pget c.keys (c.sealSlotOf nsid)).map KeySlot.key).getD []

/-- HDR and TRL of R379. -/
def sealHdr (label : Nat) : List Byte := asciiBytes "GWZSEAL1" ++ leBytes 4 1 ++ leBytes 4 4096 ++ leBytes 16 label ++ leBytes 32 0
def sealTrl (n : Nat) : List Byte := leBytes 8 n ++ leBytes 56 0

/-- h(u), F(-1) and SEAL of R379. -/
def unitHash (u : List Byte) : List Byte := Config.hashFn 1 (padTo 4096 u)
def Chip.frag0 (c : Chip) (g : Nat) : List Byte := (Config.hmac256 (c.sealKey (c.zone g).nsid) (sealHdr (c.zone g).label)).take 8
def Chip.sealOf (c : Chip) (g : Nat) (hs : List (List Byte)) : List Byte :=
  Config.hmac256 (c.sealKey (c.zone g).nsid) (sealHdr (c.zone g).label ++ hs.flatten ++ sealTrl hs.length)

/-- A unit may be absorbed: it has passed its commit point or been filled (R381), and no lane has had it. -/
def Chip.unitIn (c : Chip) (g u : Nat) : Option (List Byte) :=
  let z := c.zone g
  if z.filled.any fun f => decide (f.1 ≤ u ∧ u < f.1 + f.2) then some []
  else ((c.z.parts.map (·.2)).find? fun p => p.zone == some g && decide (p.first ≤ u ∧ u < p.first + p.len)).map fun p =>
    p.sb.getD (u - p.first) []

/-- Take the units whose hashes are there, in order (R381); at most `fuel`. -/
def advanceChain : Nat → SealChain → SealChain
  | 0, s => s
  | n + 1, s =>
    match pget s.hs s.next with
    | some h => advanceChain n { s with hs := pdel s.hs s.next, next := s.next + 1, all := s.all ++ [h] }
    | none => s

/-- One zone of a command is done; when none is left the command completes. -/
def Chip.actDone (c : Chip) (t g : Nat) : Chip :=
  let c := c.modCtx t fun x => { x with waiting := x.waiting.filter (· != g) }
  if (c.ctx t).any fun x => x.waiting.isEmpty then c.complete t .success else c

/-- SEAL_STORE (R384): the zone is ZSF and its last sealed unit is absorbed: the seal is stored, and a Finish that waits completes. -/
def Chip.sealStore (c : Chip) (g : Nat) : Chip :=
  let z := c.zone g
  let ch := (pget c.z.chains g).getD chainReset
  if z.st = .zsf && c.sealKeyOk z.nsid && (z.sealState ≤ 1 || (z.sealState = 4 && z.sealVal.isEmpty)) && ch.next = z.wpOff then
    let sv := c.sealOf g ch.all
    let c := c.modZone g fun z => { z with
      sealVal := sv
      sealState := if z.sealState = 4 then 4 else 2
      keySlot := c.sealSlotOf z.nsid
      extSeq := if z.wpOff = 0 then 0 else z.lastSeq
      finishTag := none }
    let c := (c.post srcDigest 0x7001 []).addFld F.DIGEST_SEALCNT_STORED 1
    match z.finishTag with
    | some t => c.actDone t g
    | none => c
  else c

/-- After units were absorbed: rows and tail pages whose fragments are known go on (R383). -/
def Chip.absorbGo (c : Chip) (g : Nat) : Chip :=
  let rows := (c.z.rows.filter fun r => r.2.zone == some g).map (·.1)
  let c := rows.foldl (fun c i => c.rowGo i) c
  match pget c.z.zPairs g with
  | some i =>
    match c.pair i with
    | some q => if q.units.all fun e => decide (e.2.1 < c.absorbed g) then Chip.programPages 384 i c else c
    | none => c
  | none => c

/-- Units were absorbed: what waits for them goes on, and the seal may be stored. -/
def Chip.afterAbsorb (c : Chip) (g : Nat) : Chip := (c.absorbGo g).sealStore g

/-- A lane takes a unit: at most 48 at work (R381). -/
def Chip.laneTake (c : Chip) (g u : Nat) : Chip :=
  let ch := (pget c.z.chains g).getD chainReset
  if c.z.lanes.length < 48 && c.sealKeyOk (c.zone g).nsid && (c.unitIn g u).isSome && !c.z.lanes.contains (g, u)
      && decide (u ≥ ch.next) && (pget ch.hs u).isNone then c.modZ fun z => { z with lanes := z.lanes ++ [(g, u)] }
  else c

/-- A lane finishes a unit of the inline chain (R379, R381). -/
def Chip.laneDone (c : Chip) (g u : Nat) : Chip :=
  if c.z.lanes.contains (g, u) then
    let c := c.modZ fun z => { z with lanes := z.lanes.filter (· != (g, u)) }
    match c.unitIn g u with
    | none => c
    | some b =>
      let ch := (pget c.z.chains g).getD chainReset
      let ch := if ch.next = 0 && ch.frag0.isEmpty then { ch with frag0 := c.frag0 g } else ch
      let ch := advanceChain (ch.hs.length + 1) { ch with hs := pset ch.hs u (unitHash b) }
      let c := c.modZ fun z => { z with chains := pset z.chains g ch }
      let c := if ch.next > 0 && (c.zone g).sealState = 0 then c.modZone g fun z => { z with sealState := 1 } else c
      c.afterAbsorb g
  else c

/-! Verification and rebuilding of chains (R386, R387) -/

/-- A zone of a Seal Query's range is ZSRO through a lost row (R389). -/
def Chip.queryLost (c : Chip) (x : Ctx) : Bool :=
  (c.ns x.nsid).any fun n => (List.range (bitsOf (x.dw 11) 15 0)).any fun i =>
    let z := c.zone (n.zbase + x.dw 10 + i)
    z.st == .zsro && !z.lostRows.isEmpty

/-- A Seal Query whose zones are all verified completes: with Stripe Row Lost if a zone is ZSRO through a lost row (R389). -/
def Chip.queryCheck (c : Chip) (t : Nat) : Chip :=
  match c.ctx t with
  | some x => if x.waiting.isEmpty && x.st = .firmware then c.complete t (if c.queryLost x then .rowLost else .success) x.dw0 else c
  | none => c

/-- A verification ends: its query goes on without it. -/
def Chip.endJob (c : Chip) (g : Nat) : Chip :=
  match pget c.z.sealJobs g with
  | some j =>
    let c := c.modZ fun z => { z with sealJobs := pdel z.sealJobs g }
    match j.tag with
    | some t => (c.modCtx t fun x => { x with waiting := x.waiting.filter (· != g) }).queryCheck t
    | none => c
  | none => c

/-- Seal Queries whose verification a Reset or Offline ended (R388). -/
def Chip.dropQueries (c : Chip) (g : Nat) : Chip :=
  (c.intake.tags.filter fun e => e.2.st == .firmware && sqeOpc e.2.sqe == 0xC0 && e.2.waiting.contains g).foldl
    (fun c e => (c.modCtx e.1 fun x => { x with waiting := x.waiting.filter (· != g) }).queryCheck e.1) c

/-- A mismatch is recorded: state 0x4 and event 0x7003 (R386, R387); a verification counts it, and lists it with the unit that differs (R387, R391,
log 68). -/
def Chip.sealBad (c : Chip) (g m source : Nat) : Chip :=
  let z := c.zone g
  let e : Mismatch := ⟨z.nsid, z.zidx * 0x80000, m, c.fld F.PATROL_LAP_LAP, c.stamp, z.sealVal.take 16⟩
  let c := (c.modZone g fun z => { z with sealState := 4, badUnit := m }).modZ fun y =>
    if source = 2 || m = 2 ^ 64 - 1 then y else { y with mismatches := (e :: y.mismatches).take 63 }
  let c := c.post srcDigest 0x7003 [z.nsid, z.zidx, m, source]
  let c := if source = 2 then c else c.addFld F.DIGEST_SEALCNT_MISMATCH 1
  let c := if source = 0 then c.modM fun m => { m with patrol := { m.patrol with mismatch := m.patrol.mismatch + 1 } } else c
  if z.sealState != 4 then c.zoneNotify g else c

/-- SEAL_VERIFY (R386, R387): all units are recomputed. A mismatch of the zone found at patrol is a change of R159. -/
def Chip.jobEnd (c : Chip) (g : Nat) (j : SealJob) : Chip :=
  let z := c.zone g
  let sv := c.sealOf g j.all
  let c := if j.source = 2 then
      let hs := (((pget c.z.chains g).getD chainReset).hs).filter fun e => decide (e.1 ≥ j.n)
      let ch := advanceChain (hs.length + 1) { chainReset with next := j.n, frag0 := j.frag0, all := j.all, hs := hs }
      let c := (c.rebuildOver g).modZ fun y => { y with chains := pset y.chains g ch }
      match j.bad with
      | some m => c.sealBad g m 2
      | none => if z.st = .zsf then c else c.modZone g fun z => { z with sealState := if j.n = 0 || z.sealState = 4 then z.sealState else 1 }
    else
      let c := c.modZone g fun z => { z with lap := c.fld F.PATROL_LAP_LAP }
      match j.bad with
      | some m => c.sealBad g m j.source
      | none =>
        if sv = z.sealVal then
          ((c.modZone g fun z => { z with sealState := if z.sealState = 2 then 3 else z.sealState }).post srcDigest 0x7002 []).addFld
            F.DIGEST_SEALCNT_VERIFIED 1 |>.modM fun m => { m with
              patrol := { m.patrol with verified := m.patrol.verified + b2n (j.source == 0) } }
        else c.sealBad g (2 ^ 64 - 1) j.source
  let c := (c.endJob g).absorbGo g
  if j.source = 2 && z.st = .zsf && j.bad.isSome then c else c.sealStore g

/-- The next unit of a verification: from a buffer, as zeros, or by a read in class B (R382, R387). -/
def Chip.jobNext (c : Chip) (g : Nat) : Chip :=
  match pget c.z.sealJobs g with
  | none => c
  | some j =>
    if j.next ≥ j.n then c.jobEnd g j
    else
      let z := c.zone g
      let put := fun (c : Chip) (b : List Byte) =>
        c.modZ fun y => { y with sealJobs := pset y.sealJobs g { j with data := some (b, none) } }
      match c.lookZone z.nsid g j.next with
      | .buffer b => put c b
      | .dealloc => put c []
      | .lost => (if j.source = 2 then c.rebuildOver g else c).endJob g
      | s => c.readSource (.seal g j.next) s (z.nsid, z.zidx * 0x80000 + j.next)

/-- Start to recompute a chain from the medium. Nothing is done while the seal key is not valid (R395); a query joins the verification
that runs. -/
def Chip.startJob (c : Chip) (g source : Nat) (tag : Option Nat) : Chip :=
  let z := c.zone g
  if c.sealKeyOk z.nsid && (pget c.z.sealJobs g).isNone then
    (c.modZ fun y => { y with sealJobs := pset y.sealJobs g ⟨source, tag, z.wpOff, 0, c.frag0 g, [], none, none⟩ }).jobNext g
  else match tag, pget c.z.sealJobs g with
    | some _, some j => if j.tag.isNone then c.modZ fun y => { y with sealJobs := pset y.sealJobs g { j with tag := tag } }
        else (c.modCtx (tag.getD 0) fun x => { x with waiting := x.waiting.filter (· != g) }).queryCheck (tag.getD 0)
    | some t, none => (c.modCtx t fun x => { x with waiting := x.waiting.filter (· != g) }).queryCheck t
    | none, _ => c

/-- A unit of a verification arrives from the medium, with the fragment on it. -/
def Chip.sealUnit (c : Chip) (g u : Nat) (b frag : List Byte) : Chip :=
  c.modZ fun y => { y with sealJobs := pmod y.sealJobs g fun j => if j.next = u then { j with data := some (b, some frag) } else j }

/-- A lane finishes a unit of a verification: its fragment is compared with the medium's (R387). -/
def Chip.jobLane (c : Chip) (g : Nat) (j : SealJob) (b : List Byte) (frag : Option (List Byte)) : Chip :=
  let all := j.all ++ [unitHash b]
  let f := fragOf j.frag0 all
  let bad := match j.bad, frag with
    | some m, _ => some m
    | none, some x => if x = f then none else some j.next
    | none, none => none
  (c.modZ fun y => { y with sealJobs := pset y.sealJobs g { j with all := all, next := j.next + 1, bad := bad, data := none } }).jobNext g

/-- SEAL_ABSORB (R381, R382): a committed or filled unit is hashed on a free seal lane. -/
def execSealAbsorb (g u : Nat) (s : State) : Outcome := onChip (fun c => c.laneTake g u) s

/-- SEAL_LANE_DONE (R379, R381): a lane finishes a unit, of a verification in progress or of the running chain. -/
def execSealLaneDone (g u : Nat) (s : State) : Outcome :=
  onChip (fun c =>
    match pget c.z.sealJobs g with
    | some j =>
      match j.data with
      | some (b, f) => if j.next = u then c.jobLane g j b f else c.laneDone g u
      | none => c.laneDone g u
    | none => c.laneDone g u) s

/-- SEAL_CHAIN_REBUILD (R386): the chain of a zone that replay found in need of it is recomputed: open zones with sealed units, full zones
not sealed, and full zones that replay moved there. -/
def execSealChainRebuild (g : Nat) (s : State) : Outcome :=
  onChip (fun c =>
    if c.z.rebuilds.contains g then c.startJob g 2 none else c) s

end Sys2Proof.Machine
end

