-- ==== Sys2Proof/Machine/Commands.lean ====
section
/-! DEFINITION. The commands of the NVM and Zoned Namespace command sets, from admission at the slices to their effect
(R70, R93, R94, R99, R130 to R143, R153, R347, R409). -/

namespace Sys2Proof.Machine

/-! Admission -/

/-- The reservation of a namespace turns an access of a host away (R69, R70): the rules of the six types (log 6). -/
def Chip.resvConflict (c : Chip) (f nsid : Nat) (write : Bool) : Bool :=
  match pget c.z.resvs nsid with
  | none => false
  | some r =>
    let h := (c.fn f).hostId
    let reg := r.regs.any (·.host == h)
    let holder := r.rtype != 0 && (r.holder == h || (decide (r.rtype ≥ 5) && reg))
    if r.rtype = 0 || holder then false
    else if r.rtype = 1 then write
    else if r.rtype = 2 then true
    else if r.rtype = 3 || r.rtype = 5 then write && !reg
    else !reg

/-- A namespace is not ready while a full scan rebuilds a segment it needs (R347). -/
def Chip.scanned (c : Chip) (n : NsRec) : Bool :=
  if n.zoned then c.z.scanning.contains segZones
  else c.z.scanning.any fun k => decide (k < segZones ∧ segMap n.base ≤ k ∧ k ≤ segMap (n.base + n.size / lbasPerUnit n.fmt))

/-- What turns a command away as it is admitted: write protection, a scan, a reservation (R4, R70, R347, R374). -/
def Chip.gate (c : Chip) (x : Ctx) (n : NsRec) (write : Bool) : Option Status :=
  if write && n.wp then some .namespaceWriteProtected
  else if c.scanned n then some .namespaceNotReady
  else if c.resvConflict x.fn x.nsid write then some .reservationConflict
  else none

/-- A kind of command writes. -/
def CmdKind.writes : CmdKind → Bool
  | .write | .append | .writeZeroes | .dealloc | .zoneMgmt => true
  | _ => false

/-- A write of a zoned namespace, checked at the slice of its zone's first granule (R132). -/
def Ctx.zonedWrite (x : Ctx) (n : NsRec) : Bool := n.zoned && (x.kind = .write || x.kind = .append || x.kind = .writeZeroes)

/-- An exclusive claim of a zone stands, or waits, at the slice of its first granule (R94). -/
def Chip.zoneBusy (c : Chip) (nsid : Nat) (n : NsRec) (g : Nat) : Bool :=
  let first := (g - n.zbase) * 0x80000
  let s := sliceOf nsid (first / lbasPerGranule n.fmt)
  ((c.slice s).claims ++ (c.slice s).arrival).any fun k =>
    k.kind == .x && k.ranges.any fun r => r.nsid == nsid && decide (r.first ≤ first ∧ first ≤ r.last)

/-- Claim the slices of the ranges of a command (R23). -/
def Chip.takeClaims (c : Chip) (t : Nat) (x : Ctx) (n : NsRec) : Chip :=
  (c.modCtx t fun y => { y with slices := slicesOf n.fmt x.ranges }).claimStep t

/-- A zoned write that passed the checks takes its positions and goes on to its claims (R132, R133). -/
def Chip.zonePlace (c : Chip) (t : Nat) (x : Ctx) (n : NsRec) (g : Nat) : Chip :=
  let len := sqeNlb x.sqe
  let first := (g - n.zbase) * 0x80000 + (c.zone g).wpOff
  let rs := [⟨x.nsid, first, first + len - 1⟩]
  let c := (c.zoneAdvance g len).modCtx t fun y => { y with placed := true, ranges := rs }
  c.takeClaims t { x with ranges := rs } n

/-- The checks of R132 in order; a zone without a pool waits for its binding (R136), a close that must wait holds the write (R141). -/
def Chip.zoneAdmit (c : Chip) (t : Nat) (x : Ctx) (n : NsRec) : Chip :=
  let g := n.zoneOf (sqeSlba x.sqe)
  if c.zoneBusy x.nsid n g then c
  else if !c.sealKeyOk x.nsid then
    let c := if c.z.keyNoted.contains x.nsid then c else
      (c.modZ fun z => { z with keyNoted := x.nsid :: z.keyNoted }).post srcKeys 0x7009 [n.sealSlot, 1]
    c.failCmd t .namespaceNotReady
  else if c.z.bindQ.any fun b => b.2.1 == g then c.modZ fun z => { z with bindQ := z.bindQ ++ [(t, g, false, c.now)] }
  else
    match c.zoneCheck g (sqeSlba x.sqe % 0x80000) (sqeNlb x.sqe) (x.kind = .append) with
    | some st => c.failCmd t st
    | none =>
      match c.openRes x.nsid g with
      | .fail st => c.failCmd t st
      | .wait => c
      | .ok c =>
        if (c.zone g).st = .zse && (c.zone g).pool.isNone then c.modZ fun z => { z with bindQ := z.bindQ ++ [(t, g, false, c.now)] }
        else c.zonePlace t x n g

/-! Zone Management Send (R130, R139, R140) -/

/-- The states a Select All of an action takes in (log 6). -/
def actStates (a : Nat) : List ZState :=
  match a with
  | 1 => [.zsio, .zseo]
  | 2 => [.zsio, .zseo, .zsc]
  | 3 => [.zsc]
  | 4 => [.zsio, .zseo, .zsc, .zsf]
  | 5 => [.zsro]
  | _ => []

/-- The zones a Zone Management Send names: one, or all of the states its action takes (CDW13 bit 8; log 6). -/
def Chip.actZones (c : Chip) (x : Ctx) (n : NsRec) : List Nat :=
  if bitOf (x.dw 13) 8 then
    ((c.z.zones.filter fun z => z.2.nsid == x.nsid && (actStates x.zact).contains z.2.st)).map (·.1)
  else [n.zoneOf (sqeSlba x.sqe)]

/-- What an action does to a zone in a state it is allowed in, or the status (R130, R131). -/
def Chip.actOn (c : Chip) (t : Nat) (x : Ctx) (g : Nat) : Chip :=
  let z := c.zone g
  let bad := fun (st : Status) => (c.modCtx t fun y => { y with waiting := [] }).complete t st
  let done := fun (c : Chip) => c.actDone t g
  if z.st = .zso then bad .zoneOffline
  else if z.st = .zsro && x.zact != 5 then bad .zoneReadOnly
  else
    match x.zact with
    | 1 =>
      match z.st with
      | .zsio => done (c.modZone g fun z => { z with st := .zsc })
      | .zseo =>
        if z.wpOff > 0 then done (c.modZone g fun z => { z with st := .zsc })
        else
          let c := match z.pool with | some p => c.returnPool p | none => c
          done (c.modZone g fun z => { z with st := .zse, pool := none, openTime := (0, 0) })
      | .zsc => done c
      | _ => bad .invalidZoneTransition
    | 2 =>
      match z.st with
      | .zse => (((c.modZone g fun z => { z with finishTag := some t }).makeFull g false)).sealStore g
      | .zsf => done c
      | _ =>
        if z.tailOpen then c.padTail g (some t)
        else ((c.modZone g fun z => { z with finishTag := some t }).makeFull g false).sealStore g
    | 3 =>
      match z.st with
      | .zseo => done c
      | .zsio => done (c.modZone g fun z => { z with st := .zseo })
      | .zsf => bad .invalidZoneTransition
      | _ =>
        match c.openRes x.nsid g with
        | .fail st => bad st
        | .wait => c
        | .ok c =>
          if z.st = .zse && (c.zone g).pool.isNone then c.modZ fun y => { y with bindQ := y.bindQ ++ [(t, g, true, c.now)] }
          else (c.modZone g fun z => { z with st := .zseo }).actDone t g
    | 4 =>
      match z.st with
      | .zse => done c
      | _ => (c.jAppend x.nsid (x.seq.getD 0) (.zreset z.zidx (z.pool.getD 0xFFFFFF) (c.genOf (z.pool.getD 0xFFFFFF)))
          [.zoneReset t g false]).1
    | _ =>
      if z.st = .zsro then (c.jAppend x.nsid (x.seq.getD 0) (.zreset z.zidx (z.pool.getD 0xFFFFFF) (c.genOf (z.pool.getD 0xFFFFFF)))
          [.zoneReset t g true]).1
      else bad .invalidZoneTransition

/-- The claims of a Zone Management Send are granted: its action runs on every zone it names. -/
def Chip.runAct (c : Chip) (t : Nat) : Chip :=
  match c.ctx t with
  | none => c
  | some x =>
    match c.ns x.nsid with
    | none => c
    | some n =>
      let gs := c.actZones x n
      let c := c.modCtx t fun y => { y with st := .media, waiting := gs }
      if gs.isEmpty then c.complete t .success
      else gs.foldl (fun c g => if (c.ctx t).any fun y => y.waiting.contains g then c.actOn t x g else c) c

/-! Claims granted -/

/-- All claims of a command are granted and it has its sequence number: it reads, waits for data and energy, or acts (R99). -/
def Chip.ready (c : Chip) (t : Nat) : Chip :=
  match c.ctx t with
  | none => c
  | some x =>
    if x.st != .claim || x.seq.isNone then c
    else match x.kind with
      | .read | .compare | .verify => c.startRead t
      | .zoneMgmt => c.runAct t
      | .write | .append => ((c.modCtx t fun y => { y with st := .data }).dataGo t).tryCommit t
      | .writeZeroes | .dealloc =>
        (c.modCtx t fun y => { y with st := .admission, dataIn := y.dataIn || (y.kind = .writeZeroes && y.placed), admitAt := some c.now }).tryCommit t
      | _ => c

/-- Admit a command: turned away, waiting for its key (R409), checked at its zone, or claiming its slices. -/
def Chip.letIn (c : Chip) (t : Nat) : Chip :=
  match c.ctx t with
  | none => c
  | some x =>
    match c.ns x.nsid with
    | none => c.failCmd t .invalidNamespaceOrFormat
    | some n =>
      if x.st != .claim || !x.slices.isEmpty || x.sent then c
      else match c.gate x n x.kind.writes with
        | some st => c.failCmd t st
        | none =>
          if c.xtsOn x.nsid && !(c.xts.any fun k => k.nsid == x.nsid) then
            if x.keyWait then c else (c.modCtx t fun y => { y with keyWait := true, keyAt := c.now }).addFld F.KEYS_CACHE_MISSES 1
          else
            let hold := fun (k : XtsSlot) =>
              if k.nsid = x.nsid then { k with refs := t :: k.refs.filter (· != t), used := c.now } else k
            let c := { c with xts := c.xts.map hold }
            (if x.zonedWrite n then c.zoneAdmit t x n else c.takeClaims t x n).ready t

/-- A command of R93 starts: its kind of claim and the ranges it names. -/
def Chip.startCmd (c : Chip) (t : Nat) (k : CmdKind) (ck : ClaimKind) (rs : List LbaRange) (act : Nat := 0) : Chip :=
  (c.modCtx t fun x => { x with st := .claim, kind := k, claimKind := ck, ranges := rs, zact := act }).letIn t

/-- Run a command that has passed the checks of intake and has not started. -/
def Chip.command (c : Chip) (t : Nat) (g : Ctx → NsRec → Chip → Chip) : Chip :=
  match c.ctx t with
  | none => c
  | some x =>
    if x.st != .check || x.sent || x.sqe.isEmpty then c
    else match c.ns x.nsid with
      | none => c.complete t .invalidNamespaceOrFormat
      | some n => g x n c

/-- The range of a command that names SLBA and NLB; a claim of a write takes whole 4 KiB units (R178). -/
def Ctx.range (x : Ctx) (per : Nat) : LbaRange :=
  ⟨x.nsid, sqeSlba x.sqe / per * per, (sqeSlba x.sqe + sqeNlb x.sqe - 1) / per * per + per - 1⟩

/-- The LBAs a command names lie in its namespace (log 6). -/
def Ctx.inRange (x : Ctx) (n : NsRec) : Bool := decide (sqeSlba x.sqe + sqeNlb x.sqe ≤ n.size)

/-- A read: the LBAs read, kind R (R93). -/
def Chip.beginRead (c : Chip) (t : Nat) (k : CmdKind) : Chip :=
  c.command t fun x n c =>
    if x.inRange n then c.startCmd t k .r [⟨x.nsid, sqeSlba x.sqe, sqeSlba x.sqe + sqeNlb x.sqe - 1⟩]
    else c.complete t .lbaOutOfRange

/-- A write of SLBA and NLB, kind W (R93); a Zone Append names the start of a zone of its namespace (log 6). -/
def Chip.beginWrite (c : Chip) (t : Nat) (k : CmdKind) : Chip :=
  c.command t fun x n c =>
    if k = .append && decide (sqeSlba x.sqe < n.size) && sqeSlba x.sqe % 0x80000 != 0 then c.complete t .invalidField
    else if if k = .append then decide (sqeSlba x.sqe < n.size) else x.inRange n then c.startCmd t k .w [x.range (lbasPerUnit n.fmt)] else c.complete t .lbaOutOfRange

/-- A Zone Management Send, kind X over each zone named (R93). -/
def Chip.beginZone (c : Chip) (t act : Nat) : Chip :=
  c.command t fun x n c =>
    if !n.zoned then c.complete t .invalidField
    else if sqeSlba x.sqe ≥ n.size && !bitOf (x.dw 13) 8 then c.complete t .lbaOutOfRange
    else
      let gs := c.actZones { x with zact := act } n
      if gs.isEmpty then c.complete t .success
      else c.startCmd t .zoneMgmt .x (gs.map fun g => ⟨x.nsid, (g - n.zbase) * 0x80000, (g - n.zbase) * 0x80000 + 0x7FFFF⟩) act

/-! The commands -/

/-- WRITE (R93, R132): claims its LBAs; in a zoned namespace it is checked at its zone's first-granule slice. -/
def execWrite (tag : Nat) (s : State) : Outcome := onChip (fun c => c.beginWrite tag .write) s

/-- ZONE_APPEND (R93, R132): the LBAs are assigned at the write pointer. -/
def execZoneAppend (tag : Nat) (s : State) : Outcome :=
  onChip (fun c => c.command tag fun _ n c => if n.zoned then c.beginWrite tag .append else c.complete tag .invalidOpcode) s

/-- WRITE_ZEROES (R135, R153): zeros at the write pointer of a zone, or deallocation in a conventional namespace. -/
def execWriteZeroes (tag : Nat) (s : State) : Outcome := onChip (fun c => c.beginWrite tag .writeZeroes) s

/-- DATASET_MANAGEMENT (R93, R135, R153): ranges of first LBA and count; Deallocate is CDW11 bit 2 (log 6). -/
def execDatasetManagement (tag : Nat) (ranges : List (Nat × Nat)) (s : State) : Outcome :=
  onChip (fun c => c.command tag fun x n c =>
    let rs := ranges.filter fun r => r.2 != 0
    if rs.any fun r => decide (r.1 + r.2 > n.size) then c.complete tag .lbaOutOfRange
    else if !bitOf (x.dw 11) 2 || n.zoned || rs.isEmpty then c.complete tag .success
    else c.startCmd tag .dealloc .w (rs.map fun r => ⟨x.nsid, r.1, r.1 + r.2 - 1⟩)) s

/-- READ (R93, R94, R98, R134). -/
def execRead (tag : Nat) (s : State) : Outcome := onChip (fun c => c.beginRead tag .read) s

/-- COMPARE (R93). -/
def execCompare (tag : Nat) (s : State) : Outcome := onChip (fun c => c.beginRead tag .compare) s

/-- VERIFY (R93, R120). -/
def execVerify (tag : Nat) (s : State) : Outcome := onChip (fun c => c.beginRead tag .verify) s

/-- ZONE_OPEN (R130, R131, R136). -/
def execZoneOpen (tag : Nat) (s : State) : Outcome := onChip (fun c => c.beginZone tag 3) s

/-- ZONE_CLOSE (R130). -/
def execZoneClose (tag : Nat) (s : State) : Outcome := onChip (fun c => c.beginZone tag 1) s

/-- ZONE_FINISH (R130, R139, R384). -/
def execZoneFinish (tag : Nat) (s : State) : Outcome := onChip (fun c => c.beginZone tag 2) s

/-- ZONE_RESET (R130, R140). -/
def execZoneReset (tag : Nat) (s : State) : Outcome := onChip (fun c => c.beginZone tag 4) s

/-- ZONE_OFFLINE (R130, R140). -/
def execZoneOffline (tag : Nat) (s : State) : Outcome := onChip (fun c => c.beginZone tag 5) s

/-- SET_ZONE_DESCRIPTOR_EXTENSION (R143): bytes 0 to 47 must be 0, bytes 48 to 63 become HOST_LABEL, on a ZSE zone only. -/
def execSetZoneDescriptorExtension (tag : Nat) (data : List Byte) (s : State) : Outcome :=
  onChip (fun c => c.command tag fun x n c =>
    let g := n.zoneOf (sqeSlba x.sqe)
    if !n.zoned then c.complete tag .invalidField
    else match c.gate x n true with
      | some st => c.complete tag st
      | none =>
        if (padTo 48 data).any (· != 0) then c.complete tag .invalidField
        else if (c.zone g).st = .zso then c.complete tag .zoneOffline
        else if (c.zone g).st != .zse then c.complete tag .invalidZoneTransition
        else (c.modZone g fun z => { z with label := numAt data 48 16 }).complete tag .success) s

/-- The encodings of R130. -/
def ZState.code : ZState → Nat
  | .zse => 1
  | .zsio => 2
  | .zseo => 3
  | .zsc => 4
  | .zsro => 13
  | .zsf => 14
  | .zso => 15

/-- ATTR of R144: ZFC, FZR and ZDEV (R143). -/
def ZoneRec.attr (z : ZoneRec) : Nat := b2n z.zfc + 2 * b2n z.fzr + 128 * b2n (z.st != .zse || z.label != 0)

/-- The 64 bytes of a descriptor extension (R142). -/
def ZoneRec.ext (z : ZoneRec) : List Byte :=
  padTo 32 (if z.sealState ≥ 2 then z.sealVal else []) ++ leBytes 1 z.sealState ++ leBytes 1 0 ++ leBytes 2 z.keySlot ++ leBytes 4 z.lap
    ++ leBytes 8 z.extSeq ++ leBytes 16 z.label

/-- ZONE_MANAGEMENT_RECEIVE (R130, R142, R159): the zones from SLBA on, each as state, attributes, start and write pointer; with Extended
Report (CDW13 bits 7:0 = 1) each is followed by its extension (log 6). It takes no claim. -/
def execZoneManagementReceive (tag : Nat) (s : State) : Outcome :=
  onChip (fun c => c.command tag fun x n c =>
    if !n.zoned then c.complete tag .invalidField
    else
      let want := bitsOf (x.dw 13) 15 8
      let states : List ZState := [.zse, .zsio, .zseo, .zsc, .zsf, .zsro, .zso]
      let pick := fun g => want = 0 || (states[want - 1]?).any fun st => (c.zone g).st == st
      let gs := ((List.range (n.zoneCount - sqeSlba x.sqe / 0x80000)).map (n.zoneOf (sqeSlba x.sqe) + ·)).filter pick
      let max := if bitsOf (x.dw 13) 7 0 = 1 then (x.dlen - 64) / 128 else (x.dlen - 64) / 64
      let one := fun g =>
        let z := c.zone g
        [z.st.code, z.attr, (g - n.zbase) * 0x80000, (g - n.zbase) * 0x80000 + z.wpOff] ++
          (if bitsOf (x.dw 13) 7 0 = 1 then [leNum z.ext] else [])
      (c.emit (.hostValues tag (gs.length :: (gs.take max).flatMap one))).complete tag .success) s

/-- CLAIM_GRANTED (R23, R94): a waiting claim is granted when every earlier claim it waits for is released; a command that waits to be
admitted is admitted now. -/
def execClaimGranted (slice tag : Nat) (s : State) : Outcome :=
  onChip (fun c =>
    match c.ctx tag with
    | none => c
    | some x =>
      if x.slices.isEmpty then
        if x.st = .claim then c.letIn tag else c
      else if x.st = .media && x.kind = .zoneMgmt && x.zact = 3 then
        x.waiting.foldl (fun c g => if c.z.bindQ.any (fun b => b.1 == tag && b.2.1 == g) then c else c.actOn tag x g) c
      else ((c.grantAt slice tag).claimStep tag).ready tag) s

/-- HOST_DATA_FETCHED (R74, R99, R163, R408): the data of a write has arrived, one entry for each 4 KiB unit of its range; the retry
copy is written and the write may pass its commit point. For a Compare it is the data to compare with. -/
def execHostDataFetched (tag : Nat) (units : List (List Byte)) (s : State) : Outcome :=
  onChip (fun c =>
    match c.ctx tag with
    | none => c
    | some x =>
      if x.sent || x.dataIn then c
      else
        let us := units.zipIdx.map fun u => (u.2, trimZeros u.1)
        if x.kind = .compare then (c.modCtx tag fun x => { x with host := us, dataIn := true }).readCheck tag
        else
          let per := c.perOf x.nsid
          let bad := us.foldl (fun (a : Status) u => if a = .success then c.piOf x (firstUnit per (sqeSlba x.sqe) + u.1) u.2 else a) .success
          if bad != .success then c.failCmd tag bad
          else (c.modCtx tag fun x => { x with host := us }).dataGo tag) s

/-- ENERGY_ADMISSION_TIMEOUT (R101): a write that waits for its energy ADMIT_MS ends without effect, event 0x1016. -/
def execEnergyAdmissionTimeout (tag : Nat) (s : State) : Outcome :=
  onChip (fun c =>
    match c.ctx tag with
    | none => c
    | some x =>
      match x.admitAt with
      | some t0 =>
        if x.committed || x.admitted || x.sent then c
        else
          let wait := c.clampFld F.INTAKE_TMO_ADMIT_MS 10 10000
          let c := c.advanceTo (t0 + ms wait)
          (c.post srcIntake 0x1016 [x.fn, x.cid, (c.now - t0) / 1000000]).failCmd tag .energyTimeout
      | none => c) s

/-! Pools behind zones (R136, R137, R147, R159) -/

/-- No pool can be formed for lack of spares (R159): none is erased or waits for its erase, and fewer than 18 members have spares. -/
def Chip.noPool (c : Chip) : Bool :=
  c.z.reserve.isEmpty && c.z.eraseQ.isEmpty && !(c.m.pools.any fun p => p.2.ptstate == 3) &&
    decide (((List.range 36).filter fun m => c.memberPresent m && !c.memberLost m && decide (c.memberSpares m > 0)).length < 18)

/-- An empty zone for which no pool can be formed goes Offline (R159): event 0x2005, and its namespace's reservation falls by one. -/
def Chip.zoneDead (c : Chip) (g : Nat) : Chip :=
  let z := c.zone g
  let ws := c.z.bindQ.filter fun b => b.2.1 == g
  let c := (c.modZone g fun z => { z with st := .zso }).modZ fun y => { y with
    bindQ := y.bindQ.filter fun b => b.2.1 != g
    nss := pmod y.nss z.nsid fun n => { n with units := n.units - 1 } }
  let c := (c.post srcZmap 0x2005 [z.nsid, z.zidx]).zoneNotify g
  ws.foldl (fun c b => c.failCmd b.1 .zoneOffline) c

/-- A command that waited for the binding goes on. -/
def Chip.bound (c : Chip) (b : Nat × Nat × Bool × Nat) : Chip :=
  match c.ctx b.1 with
  | none => c
  | some x =>
    match c.ns x.nsid with
    | none => c
    | some n =>
      if b.2.2.1 then (c.modZone b.2.1 fun z => { z with st := if z.st = .zse then .zseo else z.st }).actDone b.1 b.2.1
      else if n.zoned then (c.zoneAdmit b.1 x n).ready b.1
      else c.tryCommit b.1

/-- POOL_BIND (R136, R137, R147): the zone (a device zone index) or the handle (2^20 + handle) that commands wait for is bound to the
oldest erased pool; with an empty reserve it waits on, and goes Offline if no pool can be formed. -/
def execPoolBind (target : Nat) (s : State) : Outcome :=
  onChip (fun c =>
    let ws := c.z.bindQ.filter fun b => b.2.1 == target
    match ws with
    | [] => c
    | w :: _ =>
      let rest := fun (c : Chip) => c.modZ fun z => { z with bindQ := z.bindQ.filter fun b => b.2.1 != target }
      if target ≥ 2 ^ 20 then
        if c.z.reserve.isEmpty then c else ws.foldl Chip.bound (rest c)
      else
        match c.bindPool with
        | (c, none) => if c.noPool then c.zoneDead target else c
        | (c, some p) =>
          let c := (rest c).modZone target fun z => { z with pool := some p, openTime := (0, 0), rowsPad := 0 }
          ws.foldl Chip.bound (c.post srcZmap 0x2001 [(c.now - w.2.2.2) / 1000])) s

/-- BINDING_WAIT_EXPIRY (R136): a binding not done within BIND_MS ends the command with Namespace Not Ready; the zone stays ZSE. -/
def execBindingWaitExpiry (tag : Nat) (s : State) : Outcome :=
  onChip (fun c =>
    match c.z.bindQ.find? (·.1 == tag) with
    | none => c
    | some b =>
      let c := c.advanceTo (b.2.2.2 + ms (max 10 (c.fld F.ZMAP_CTL_BIND_MS)))
      let nsid := ((c.ctx tag).map Ctx.nsid).getD 0
      (c.post srcZmap 0x2002 [nsid, if b.2.1 < 2 ^ 20 then (c.zone b.2.1).zidx else b.2.1 - 2 ^ 20]).failCmd tag .namespaceNotReady) s

/-- OPEN_AGE_H as taken. -/
def Chip.openAge (c : Chip) : Nat := c.clampFld F.ZMAP_CTL_OPEN_AGE_H 24 720

/-- The open pool of a handle is closed: its current row is padded, and the next write binds a fresh pool (R148, R159). -/
def Chip.closeHandle (c : Chip) (h : Nat) (op : OpenPool) : Chip :=
  let c := match op.rowId with | some i => c.padRow i | none => c
  (c.modPool op.pool fun q => { q with fullAt := some c.now }).modZ fun z => { z with handles := pdel z.handles h }

/-- OPEN_AGE_EXPIRY (R148): a handle's open pool is closed: its row is padded, FDP event RU Time Limit Exceeded; 64 is reclaim's pool. -/
def execOpenAgeExpiry (handle : Nat) (s : State) : Outcome :=
  onChip (fun c =>
    let op := if handle = 64 then c.z.reclaimPool else pget c.z.handles handle
    match op with
    | none => c
    | some op =>
      let c := match op.firstAt with | some t => c.advanceTo (t + hours c.openAge) | none => c
      if handle = 64 then
        ((match op.rowId with | some i => c.padRow i | none => c).modPool op.pool fun q => { q with fullAt := some c.now }).modZ fun z => { z with
          reclaimPool := none }
      else (c.closeHandle handle op).modZ fun z => { z with fdpEvents := z.fdpEvents ++ [(1, handle)] }) s

/-- CONTROLLER_FINISH (R141, R159): an open zone whose pool reached its age is finished with ZFC, event 0x2003; it waits for writes in
the zone. -/
def execControllerFinish (zone : Nat) (s : State) : Outcome :=
  onChip (fun c =>
    let z := c.zone zone
    if z.st.isActive && !c.writesIn zone then
      let c := (c.post srcZmap 0x2003 [z.nsid, z.zidx, 0]).modZone zone fun z => { z with zfc := true }
      (if z.tailOpen then c.padTail zone (some 65536) else (c.makeFull zone true).sealStore zone).zoneNotify zone
    else c) s

/-- FZR_AGE_EXPIRY (R160): an active zone older than three quarters of OPEN_AGE_H gets FZR; one with no program has no age. -/
def execFzrAgeExpiry (zone : Nat) (s : State) : Outcome :=
  onChip (fun c =>
    let z := c.zone zone
    if z.st.isActive && z.openTime != (0, 0) && !z.fzr then (c.modZone zone fun z => { z with fzr := true }).zoneNotify zone else c) s

/-- ZMAP_NSZ_WRITE (R129): MAR and MOR of a zoned namespace; a write that breaks the limits is ignored, event 0x200B. -/
def execZmapNszWrite (nsid mar mor : Nat) (s : State) : Outcome :=
  onChip (fun c =>
    let mar := mar % 2 ^ 14
    let mor := mor % 2 ^ 14
    if mor > mar || c.marSum - (if (c.ns nsid).any (·.zoned) then c.mar nsid else 0) + mar > 8192 then
      c.post srcZmap 0x200B [nsid, mar, mor]
    else (c.setFld F.ZMAP_NSZ_MAR mar (nsid - 1)).setFld F.ZMAP_NSZ_MOR mor (nsid - 1)) s

/-! Rows and the basin (R165 to R168, R177) -/

/-- ROW_WAIT_EXPIRY (R165 to R167): a part whose row has not filled is landed in the basin; while landing is stopped, the row of a
conventional part is padded with filler instead. -/
def execRowWaitExpiry (part : Nat) (s : State) : Outcome :=
  onChip (fun c =>
    match c.part part with
    | none => c
    | some p =>
      match p.row.bind c.row with
      | none => c
      | some r =>
        if p.onMedium || p.pair.isSome || r.openJsn.isSome then c
        else
          let c := (c.advanceTo (p.committedAt + us (c.clampFld F.ZMAP_LAND_ROW_WAIT_US 50 10000))).basinLevel
          if p.zone.isNone && c.z.landStop then c.padRow (p.row.getD 0) else (c.landPart part 1).basinLevel) s

/-- GATHER_WINDOW_EXPIRY (R168): GATHER_US after its first part the open page of a pair is programmed on both cisterns, padded. -/
def execGatherWindowExpiry (pair : Nat) (s : State) : Outcome :=
  onChip (fun c =>
    match c.pair pair with
    | none => c
    | some q =>
      match q.gatherAt with
      | none => c
      | some t =>
        let c := c.advanceTo (t + us (min 100 (c.fld F.ZMAP_BASIN_GATHER_US)))
        let c := c.modPair pair fun q => { q with next := (q.next + 15) / 16 * 16 }
        let known := match q.zone with | some g => q.units.all fun e => decide (e.2.1 < c.absorbed g) | none => true
        if known then Chip.programPages 384 pair c else c) s

/-- JOURNAL_BATCH_EXPIRY (R177): BATCH_US after its first record the open frame is programmed on its three mirrors. -/
def execJournalBatchExpiry (s : State) : Outcome :=
  onChip (fun c =>
    if c.z.journal.opened.isEmpty then c
    else (c.advanceTo (c.z.journal.openAt + us (c.clampFld F.STRIPE_JCFG_BATCH_US 1 500))).closeFrame) s

end Sys2Proof.Machine
end

