-- ==== Sys2Proof/Machine/Intake.lean ====
section
/-! DEFINITION. INTAKE: fetch turns, tags, the checks of a submission entry, queues, features and the commands that only report
(R51, R68, R78 to R92, R105, R111, R120, R128, R145, R154, R155, R179, R413). -/

namespace Sys2Proof.Machine

/-! Fetch (R81 to R85) -/

/-- A function may be fetched for: none of the conditions of R83 holds, and no reset, shutdown or power failure stops it. -/
def Chip.fetchable (c : Chip) (f : Nat) : Bool :=
  let r := c.fn f
  c.fnExists f && r.en && r.rdy && !r.d3hot && r.fence.isNone && r.active && r.resetAt.isNone && !r.shutdown &&
    c.flag F.INTAKE_CTL_FETCH_EN && !c.flag F.INTAKE_FWACT_DRAIN_REQ && !c.z.ledger.pfCommit

/-- Entries waiting in a submission queue. -/
def SqRec.waiting (q : SqRec) : Nat := if q.size = 0 then 0 else (q.tail + q.size - q.head) % q.size

/-- Tags of a function that count against TAG_MAX (R85). -/
def Chip.counted (c : Chip) (f : Nat) : Nat := (c.tagsOf f fun x => x.part != .adminReserve).length

/-- TAG_ALLOCATION (R85). -/
def Chip.tagPart (c : Chip) (f qid : Nat) : Option TagPart :=
  let a := (c.fn f).asg
  if c.counted f < a.tagMin then some .guaranteed
  else if c.counted f < a.tagMax && c.sharedFree > 0 then some .shared
  else if qid = 0 && c.adminUsed < 64 then some .adminReserve
  else none

/-- A context whose entry is being fetched (R87). -/
def ctxNew (f qid cqid : Nat) (p : TagPart) (now : Nat) : Ctx where
  fn := f
  sqid := qid
  cqid := cqid
  sqe := []
  st := .check
  part := p
  committed := false
  abortReq := false
  bufferHit := false
  seq := none
  tFetch := now
  dlen := 0
  mlen := 0
  slices := []
  granted := []
  status := .success
  dw0 := 0
  xlat := []
  kind := .none
  claimKind := .r
  zact := 0
  ranges := []
  dataIn := false
  admitted := false
  admitAt := none
  units := []
  waiting := []
  host := []
  merge := []
  mergeWait := []
  placed := false
  keyWait := false
  keyAt := 0
  commit := none
  jsns := []
  sent := false
  deadline := none

/-- Fetch the next entry of a queue: it takes a tag, the lowest free one, and its head moves on (R85, R103; log 13). `none`: no tag. -/
def Chip.fetchOne (c : Chip) (f qid : Nat) : Option Chip :=
  match pget (c.fn f).sqs qid, c.tagPart f qid, plowest c.intake.tags 65536 0 with
  | some q, some p, some t =>
    let c := { c with intake := { c.intake with tags := pset c.intake.tags t (ctxNew f qid q.cqid p c.now) } }
    let c := c.modFn f fun r => { r with sqs := pset r.sqs qid { q with head := (q.head + 1) % q.size } }
    some (c.emit (.dmaRead f (q.base + 64 * q.head) 64))
  | _, _, _ => none

/-- The Arbitration feature: burst (7 is taken as 64), and the weights of weighted round robin (R81; log 6). -/
def FnRec.burst (r : FnRec) : Nat := let ab := bitsOf ((pget r.feats 1).getD 0) 2 0; if ab = 7 then 64 else 2 ^ ab
def FnRec.weight (r : FnRec) (prio : Nat) : Nat :=
  let a := (pget r.feats 1).getD 0
  (if prio = 1 then bitsOf a 31 24 else if prio = 2 then bitsOf a 23 16 else bitsOf a 15 8) + 1

/-- I/O queues of a function in round-robin order from a queue on. -/
def FnRec.ring (r : FnRec) (p : SqRec → Bool) : List Nat :=
  let qs := (r.sqs.filter fun e => e.1 != 0 && p e.2 && e.2.waiting > 0).map (·.1)
  qs.filter (· ≥ r.ioNext) ++ qs.filter (· < r.ioNext)

/-- The I/O queues of one round with the entries each may give (R81): round robin with the burst, or urgent first and then high,
medium and low by their weights (AMS 1 in CC bits 13:11; log 6). -/
def FnRec.round (r : FnRec) : List (Nat × Nat) :=
  let share := fun (qs : List Nat) (total : Nat) =>
    (qs.zipIdx.map fun x => (x.1, min r.burst (total - x.2 * r.burst))).filter (·.2 > 0)
  if bitsOf r.cc 13 11 = 1 then
    (r.ring fun q => q.prio == 0).map (fun q => (q, 64)) ++
      [1, 2, 3].flatMap fun p => share (r.ring fun q => q.prio == p) (r.weight p)
  else (r.ring fun _ => true).map fun q => (q, r.burst)

/-- Fetch up to `n` entries of a queue; how many were fetched, and whether a tag was lacking. -/
def Chip.fetchFrom : Nat → Nat → Nat → Chip → Nat → Chip × Nat × Bool
  | 0, _, _, c, k => (c, k, false)
  | n + 1, f, qid, c, k =>
    if ((pget (c.fn f).sqs qid).map SqRec.waiting).getD 0 = 0 then (c, k, false)
    else match c.fetchOne f qid with
      | some c => fetchFrom n f qid c (k + 1)
      | none => (c, k, true)

/-- Serve the queues of a list in turn, up to `room` entries. -/
def Chip.fetchList : List (Nat × Nat) → Nat → Nat → Chip → Chip × Nat × Bool
  | [], _, room, c => (c, room, false)
  | (q, n) :: t, f, room, c =>
    let (c, k, starved) := Chip.fetchFrom (min n room) f q c 0
    let c := if k > 0 && q > 0 then c.modFn f fun r => { r with ioNext := q + 1 } else c
    if starved then (c, room - k, true) else if room - k = 0 then (c, 0, false) else fetchList t f (room - k) c

/-- Serve the I/O queues in rounds until the turn is full or nothing waits. -/
def Chip.fetchRounds : Nat → Nat → Nat → Chip → Chip × Bool
  | 0, _, _, c => (c, false)
  | fuel + 1, f, room, c =>
    let rs := (c.fn f).round
    if room = 0 || rs.isEmpty then (c, false)
    else
      let (c, left, starved) := Chip.fetchList rs f room c
      if starved then (c, true) else fetchRounds fuel f left c

/-- AB_MAX as taken. -/
def Chip.abMax (c : Chip) : Nat :=
  let n := c.fld F.INTAKE_CTL_AB_MAX
  if 1 ≤ n ∧ n ≤ 64 then n else 64

/-- One function's turn: the admin queue first, then the I/O queues (R81). -/
def Chip.turn (c : Chip) (f : Nat) : Chip × Bool :=
  let (c, k, starved) := Chip.fetchFrom c.abMax f 0 c 0
  if starved then (c, true) else Chip.fetchRounds 64 f (c.abMax - k) c

/-- Functions with pending entries that may be fetched for, in round-robin order from the next one on (R81, R83). -/
def Chip.fetchRing (c : Chip) : List Nat :=
  let fs := (c.fns.filter fun e => c.fetchable e.1 && e.2.sqs.any fun q => q.2.waiting > 0).map (·.1)
  fs.filter (· ≥ c.intake.nextFn) ++ fs.filter (· < c.intake.nextFn)

/-- FETCH_TURN (R81 to R85): the next function is served; one that lacks a tag is skipped, counted and reported. While MX is not On
nothing is fetched (R503). -/
def execFetchTurn (s : State) : Outcome :=
  onChip (fun c =>
    match if c.fld F.PWR_DOM_STATE 31 = 0 then c.fetchRing else [] with
    | [] => c
    | f :: _ =>
      let (c, starved) := c.turn f
      let c := { c with intake := { c.intake with nextFn := (f + 1) % 1024 } }
      if starved then (c.addFld F.INTAKE_TAGSTAT_STARVE 1).post srcIntake 0x1010 [f] else c) s

/-! Data pointers (R88 to R92) -/

/-- The host page size of a function (CC.MPS; log 6). -/
def FnRec.pageSize (r : FnRec) : Nat := 2 ^ (12 + bitsOf r.cc 10 7)

/-- Entries after PRP1 that a length needs. -/
def prpNeed (page prp1 len : Nat) : Nat := if len ≤ page - prp1 % page then 0 else (len - (page - prp1 % page) + page - 1) / page

/-- The checks of R89; the first that fails sets the status. -/
def prpCheck (page len prp1 : Nat) (rest lists : List Nat) : Option Status :=
  let n := prpNeed page prp1 len
  let need := padNat n rest
  if prp1 % 4 != 0 then some .prpOffset
  else if need.any (fun e => e % page != 0) then some .prpOffset
  else if n > 1 && lists.any (fun p => p % 8 != 0) then some .prpOffset
  else if prp1 = 0 || need.any (· == 0) then some .invalidField
  else none
where
  /-- Exactly `n` entries; one that is missing is 0. -/
  padNat (n : Nat) (l : List Nat) : List Nat := l.take n ++ List.replicate (n - l.length) 0

/-- A descriptor kind that is supported: Data Block 0x0, Bit Bucket 0x1, Segment 0x2, Last Segment 0x3, subtype 0 (R90; log 6). -/
def SglDesc.known (d : SglDesc) : Bool := d.ty ≤ 3 && d.sub = 0

/-- The checks of R90; the first that fails sets the status. -/
def sglCheck (isRead : Bool) (dlen mlen : Nat) (segs : List (List SglDesc)) (md : List SglDesc) : Option Status :=
  let all := segs.flatten
  let sum := ((all.filter fun d => d.ty = 0 || d.ty = 1).map SglDesc.len).sum
  if !(all ++ md).all SglDesc.known then some .sglType
  else if !isRead && all.any (·.ty == 1) then some .sglType
  else if segs.length > 16 || all.length > 4096 then some .invalidSglCount
  else if all.any (fun d => (d.ty = 2 || d.ty = 3) && d.len % 16 != 0) then some .invalidSglSegment
  else if sum < dlen then some .dataSglLength
  else if mlen > 0 && (md.map SglDesc.len).sum < mlen then some .metadataSglLength
  else none

/-- The opcodes of the I/O commands of the NVM and zoned command sets (log 6). -/
def opRead : Nat := 0x02
def opIo : List Nat := [0x00, 0x01, 0x02, 0x05, 0x08, 0x09, 0x0C, 0x0D, 0x0E, 0x11, 0x15, 0x79, 0x7A, 0x7D]

/-- The declared data and metadata lengths of a command (R88): from NLB and the format, from a count of its own, or 0. -/
def Chip.declared (c : Chip) (qid : Nat) (e : Sqe) : Nat × Nat :=
  let op := sqeOpc e
  if qid = 0 then
    if op = 0x02 then (((bitsOf (sqeDw e 10) 31 16 + bitsOf (sqeDw e 11) 15 0 * 65536) + 1) * 4, 0)
    else if op = 0xC7 || op = 0xC8 then (sqeDw e 11, 0)
    else if op = 0x11 then ((sqeDw e 10 + 1) * 4, 0)
    else if op = 0x06 || op = 0x15 then (4096, 0)
    else if op = 0x0D then (if bitsOf (sqeDw e 10) 3 0 = 0 then (4096, 0) else (0, 0))
    else if op = 0xC1 then (if bitsOf (sqeDw e 10) 3 0 = 1 then (32, 0) else (bitsOf (sqeDw e 11) 15 0 * 64, 0))
    else (0, 0)
  else if [0x01, 0x02, 0x05, 0x7D].contains op then
    match c.ns (sqeNsid e) with
    | some n =>
      let m := metaBytes n.fmt
      if n.ext then (sqeNlb e * (lbaBytes n.fmt + m), 0) else (sqeNlb e * lbaBytes n.fmt, sqeNlb e * m)
    | none => (0, 0)
  else if op = 0x09 then ((bitsOf (sqeDw e 10) 7 0 + 1) * 16, 0)
  else if op = 0x0D || op = 0x11 then (16, 0)
  else if op = 0x15 then (8, 0)
  else if op = 0x0E then ((sqeDw e 10 + 1) * 4, 0)
  else if op = 0x7A then ((sqeDw e 12 + 1) * 4, 0)
  else if op = 0x79 && bitsOf (sqeDw e 13) 7 0 = 0x10 then (64, 0)
  else (0, 0)

/-- DATA_POINTER_CHECK (R88 to R92). -/
def Chip.pointerCheck (c : Chip) (f qid : Nat) (e : Sqe) (p : DataPtr) : Option Status :=
  let (dl, ml) := c.declared qid e
  if dl > 2097152 then some .invalidField
  else if dl = 0 then none
  else match p with
    | .prp a rest lists => prpCheck (c.fn f).pageSize dl a rest lists
    | .sgl segs md => sglCheck (qid != 0 && (sqeOpc e = opRead)) dl ml segs md

/-- The counter of INTAKE_ERRCNT a failed check counts in. -/
def errCounter (tooLong : Bool) (s : Status) : Option Fld :=
  match s with
  | .prpOffset => some F.INTAKE_ERRCNT_PRP_OFFSET
  | .dataSglLength | .metadataSglLength => some F.INTAKE_ERRCNT_SGL_LENGTH
  | .sglType | .invalidSglCount | .invalidSglSegment => some F.INTAKE_ERRCNT_SGL_FORM
  | _ => if tooLong then some F.INTAKE_ERRCNT_OVER_MDTS else none

/-- The first 24 resolved data segments (R87). -/
def xlatOf (page len : Nat) (p : DataPtr) : List (Nat × Nat) :=
  let l : List (Nat × Nat) := match p with
    | .prp a rest _ =>
      let n := prpNeed page a len
      (a, min len (page - a % page)) :: ((rest.take n).zipIdx.map fun (x : Nat × Nat) =>
        (x.1, min page (len - (page - a % page) - x.2 * page)))
    | .sgl segs _ => (segs.flatten.filter fun (d : SglDesc) => d.ty = 0).map fun (d : SglDesc) => (d.addr, d.len)
  l.take 24

/-- The state of a namespace's ANA group on a port (R66). -/
def Chip.anaState (c : Chip) (p group : Nat) : Nat :=
  let k := (group - 1) / 16
  let j := (group - 1) % 16
  bitsOf (c.reg .hpAnast (p * 64 + k)) (4 * j + 3) (4 * j)

/-- ANA_CHECK (R68): the status an ANA state turns a command away with. -/
def anaStatus (st : Nat) : Option Status :=
  if st = 1 ∨ st = 2 then none
  else if st = 4 then some .asymPersistentLoss
  else if st = 15 then some .asymTransition
  else some .asymInaccessible

/-- The tenants of a function and of a namespace agree, or the function is a PF with ANY (R412, R413). -/
def Chip.tenantOk (c : Chip) (f nsid : Nat) : Bool :=
  c.fld F.TENANT_FNCFG_TENANT f = c.fld F.TENANT_NSCFG_TENANT (nsid - 1) || (isPf f && c.flag F.TENANT_FNCFG_ANY f)

/-- The checks of an I/O command's namespace: attached, tenant, ANA state. -/
def Chip.nsCheck (c : Chip) (f : Nat) (e : Sqe) : Option Status :=
  let n := sqeNsid e
  if sqeOpc e = 0 then none
  else match c.ns n with
    | none => some .invalidNamespaceOrFormat
    | some r => if !(c.fn f).nsids.contains n then some .invalidNamespaceOrFormat else anaStatus (c.anaState (portOf f) r.group)

/-- SUBMISSION_ENTRY_FETCHED (R68, R87 to R92, R413): a fetched entry is checked before any claim, media operation or data move; a
command that fails completes with the status and has no effect. -/
def execSubmissionEntryFetched (tag : Nat) (sqe : Sqe) (ptr : DataPtr) (s : State) : Outcome :=
  onChip (fun c =>
    match c.ctx tag with
    | none => c
    | some x =>
      if x.st != .check || !x.sqe.isEmpty then c
      else
        let e := padTo' 16 sqe
        let (dl, ml) := c.declared x.sqid e
        let c := c.modCtx tag fun x => { x with
          sqe := e, dlen := dl, mlen := ml, xlat := xlatOf (c.fn x.fn).pageSize dl ptr }
        let io := x.sqid != 0
        if io && !(opIo.contains (sqeOpc e)) then c.complete tag .invalidOpcode
        else if io && sqeOpc e != 0 && (c.ns (sqeNsid e)).isSome && (c.fn x.fn).nsids.contains (sqeNsid e)
            && !c.tenantOk x.fn (sqeNsid e) then
          ((c.post srcTenant 0x8001 [x.fn, c.fld F.TENANT_FNCFG_TENANT x.fn, c.fld F.TENANT_NSCFG_TENANT (sqeNsid e - 1)]).complete tag
            .invalidNamespaceOrFormat).fence x.fn 5
        else
          match (if io then c.nsCheck x.fn e else none) with
          | some st => c.complete tag st
          | none =>
            match c.pointerCheck x.fn x.sqid e ptr with
            | some st =>
              let c := match errCounter (decide (dl > 2097152)) st with
                | some f => c.addFld f 1
                | none => c
              (c.post srcIntake 0x1011 [x.fn, sqeCid e, statusCode st]).complete tag st
            | none => c) s
where
  /-- Exactly `n` words; one that is missing is 0. -/
  padTo' (n : Nat) (l : List Nat) : List Nat := l.take n ++ List.replicate (n - l.length) 0

/-! Queues and features (R78, R79, R105, R145) -/

/-- An admin command that has passed the checks of intake and has not completed. -/
def Chip.admin (c : Chip) (t : Nat) (g : Ctx → Chip → Chip) : Chip :=
  match c.ctx t with
  | some x => if x.st != .check || x.sent || x.sqe.isEmpty then c else g x c
  | none => c

/-- CREATE_IO_SUBMISSION_QUEUE (R78, R79): CDW10 QID and size, CDW11 priority and completion queue (log 6). -/
def execCreateIoSubmissionQueue (tag : Nat) (s : State) : Outcome :=
  onChip (fun c => c.admin tag fun x c =>
    let r := c.fn x.fn
    let qid := bitsOf (x.dw 10) 15 0
    let size := bitsOf (x.dw 10) 31 16 + 1
    let cqid := bitsOf (x.dw 11) 31 16
    if qid = 0 || qid > r.asg.iopq || (pget r.sqs qid).isSome then c.complete tag .invalidQueueId
    else if size < 2 then c.complete tag .invalidQueueSize
    else if cqid = 0 || (pget r.cqs cqid).isNone then c.complete tag .invalidQueueId
    else
      let q : SqRec := ⟨sqeDw x.sqe 6 + sqeDw x.sqe 7 * 2 ^ 32, size, 0, 0, cqid, bitsOf (x.dw 11) 2 1⟩
      (c.modFn x.fn fun r => { r with sqs := pset r.sqs qid q }).complete tag .success) s

/-- CREATE_IO_COMPLETION_QUEUE (R78, R79): CDW10 QID and size, CDW11 interrupt enable and vector (log 6). -/
def execCreateIoCompletionQueue (tag : Nat) (s : State) : Outcome :=
  onChip (fun c => c.admin tag fun x c =>
    let r := c.fn x.fn
    let qid := bitsOf (x.dw 10) 15 0
    let size := bitsOf (x.dw 10) 31 16 + 1
    let iv := bitsOf (x.dw 11) 31 16
    if qid = 0 || qid > r.asg.iopq || (pget r.cqs qid).isSome then c.complete tag .invalidQueueId
    else if size < 2 then c.complete tag .invalidQueueSize
    else if iv ≥ r.asg.vec then c.complete tag .invalidField
    else
      let q : CqRec := ⟨sqeDw x.sqe 6 + sqeDw x.sqe 7 * 2 ^ 32, size, 0, 0, true, bitOf (x.dw 11) 1, iv, [], false⟩
      (c.modFn x.fn fun r => { r with cqs := pset r.cqs qid q }).complete tag .success) s

/-- SET_FEATURES (R79, R81, R105, R145): Number of Queues reports IOQP for both counts; Interrupt Vector Configuration sets Coalescing
Disable; Host Identifier takes its data; FDP is switched for the endurance group (feature identifiers: log 6). -/
def execSetFeatures (tag : Nat) (data : List Byte) (s : State) : Outcome :=
  onChip (fun c => c.admin tag fun x c =>
    let r := c.fn x.fn
    let fid := bitsOf (x.dw 10) 7 0
    let v := x.dw 11
    if fid = 7 then c.complete tag .success ((r.asg.iopq - 1) * 65537)
    else if fid = 9 then
      let vec := bitsOf v 15 0
      if vec ≥ r.asg.vec then c.complete tag .invalidField
      else
        let rest := r.coalDis.filter (· != vec)
        let l := if bitOf v 16 = true then vec :: rest else rest
        (c.modFn x.fn fun r => { r with coalDis := l }).complete tag .success
    else if fid = 0x1D then
      let on := bitOf (x.dw 12) 0
      if c.z.nss.any fun n => !n.2.zoned then c.complete tag .commandSequenceError
      else (c.modZ fun z => { z with fdp := on }).complete tag .success
    else if fid = 0x81 then (c.modFn x.fn fun r => { r with hostId := numAt data 0 16 }).complete tag .success
    else if [1, 2, 4, 8, 0x0B, 0x0F, 0x82, 0x83].contains fid then
      (c.modFn x.fn fun r => { r with feats := pset r.feats fid v }).complete tag .success
    else c.complete tag .invalidField) s

/-- IDENTIFY (R51, R79, R84, R88, R106, R117, R128, R154, R179): CDW10 CNS 0 a namespace, 1 the controller, 5 with CSI 2 a zoned
namespace (log 6). The values are those the rules state, in their order. -/
def execIdentify (tag : Nat) (s : State) : Outcome :=
  onChip (fun c => c.admin tag fun x c =>
    let cns := bitsOf (x.dw 10) 7 0
    let small := fun (n : NsRec) => lbaBytes n.fmt = 512
    match cns, c.ns x.nsid with
    | 1, _ => (c.emit (.hostValues tag [x.fn, 9, 9, 63, 3, 0, 0, 2, 1024])).complete tag .success
    | 0, some n =>
      let nawun := if n.zoned then 511 else if small n then 4095 else 511
      let nawupf := if n.zoned then 511 else if small n then 2047 else 255
      (c.emit (.hostValues tag [n.size, n.fmt, 2, nawun, nawupf, 0, 0, 9, n.group])).complete tag .success
    | 5, some n =>
      if n.zoned then
        (c.emit (.hostValues tag [0, 0, 1, 0, 1, 0, 0, c.mar x.nsid - 1, c.mor x.nsid - 1, 0x80000])).complete tag .success
      else (c.emit (.hostValues tag [n.size])).complete tag .success
    | _, none => c.complete tag .invalidNamespaceOrFormat
    | _, _ => c.complete tag .invalidField) s

/-- ASYNCHRONOUS_EVENT_REQUEST (R67, R159): held in STATE 0x8 until an event completes it; a pending one does at once (log 14). -/
def execAsynchronousEventRequest (tag : Nat) (s : State) : Outcome :=
  onChip (fun c => c.admin tag fun x c =>
    let r := c.fn x.fn
    match r.pendEv with
    | e :: rest => (c.modFn x.fn fun r => { r with pendEv := rest }).complete tag .success (asyncCode e)
    | [] =>
      if r.aers.length ≥ 8 then c.complete tag .asyncLimit
      else (c.modCtx tag fun x => { x with st := .firmware, kind := .admin }).modFn x.fn fun r => { r with aers := r.aers ++ [tag] }) s

/-- Lost ranges of a namespace: first LBA and count, joined where they meet (R155). -/
def Chip.lostRanges (c : Chip) (n : NsRec) (nsid : Nat) : List (Nat × Nat) :=
  let per := lbasPerUnit n.fmt
  let units := if n.zoned then
      (c.z.zones.filter fun z => z.2.nsid == nsid).flatMap fun z => z.2.lostRows.flatMap fun r =>
        (List.range 1024).map fun i => z.2.zidx * 0x80000 + r * 1024 + i
    else (c.z.map.filter fun e => e.2 == mapLost && decide (n.base ≤ e.1 ∧ e.1 < n.base + n.size)).map fun e => e.1 - n.base
  units.foldl (fun acc u =>
    match acc.getLast? with
    | some (a, k) => if a + k = u * per then acc.dropLast ++ [(a, k + per)] else acc ++ [(u * per, per)]
    | none => [(u * per, per)]) []

/-- GET_LBA_STATUS (R155): the lost ranges of the namespace from SLBA on. -/
def execGetLbaStatus (tag : Nat) (s : State) : Outcome :=
  onChip (fun c => c.admin tag fun x c =>
    match c.ns x.nsid with
    | none => c.complete tag .invalidNamespaceOrFormat
    | some n =>
      let slba := sqeSlba x.sqe
      let rs := (c.lostRanges n x.nsid).filter fun r => decide (r.1 + r.2 > slba)
      (c.emit (.hostValues tag (rs.length :: rs.flatMap fun r => [r.1, r.2]))).complete tag .success) s

/-- FORMAT_NVM (R126, R374): the namespace's LBAs are deallocated, its zones empty, in the format CDW10 bits 3:0 names with bit 4 for
extended LBAs (log 6). Write protection does not stop it. -/
def execFormatNvm (tag : Nat) (s : State) : Outcome :=
  onChip (fun c => c.admin tag fun x c =>
    match c.ns x.nsid with
    | none => c.complete tag .invalidNamespaceOrFormat
    | some n =>
      let fmt := bitsOf (x.dw 10) 3 0
      if fmt > 5 || (n.zoned && decide (fmt ≥ 4)) then c.complete tag .invalidNamespaceOrFormat
      else
        let bytes := n.size * lbaBytes n.fmt
        let gs := (c.z.zones.filter fun z => n.zoned && z.2.nsid == x.nsid).map (·.1)
        let c := gs.foldl (fun c g => (c.dropQueries g).zoneEmptied g false) c
        let hi := n.base + (n.size + lbasPerUnit n.fmt - 1) / lbasPerUnit n.fmt
        let c := if n.zoned then c else
          (c.z.map.filter fun e => decide (n.base ≤ e.1 ∧ e.1 < hi)).foldl (fun c e => c.setMap e.1 mapDealloc) c
        (c.modZ fun z => { z with nss := pset z.nss x.nsid { n with fmt := fmt, ext := bitOf (x.dw 10) 4, size := bytes / lbaBytes fmt } }).complete
          tag .success) s

/-- FLUSH (R111): completes as soon as the post stage takes it. -/
def execFlush (tag : Nat) (s : State) : Outcome := onChip (fun c => c.admin tag fun _ c => c.complete tag .success) s

end Sys2Proof.Machine
end

