-- ==== Sys2Proof/Machine/Post.lean ====
section
/-! DEFINITION. The completion-post stage: completion entries, interrupts and their coalescing, aborts (R48, R102 to R110, R229, R432). -/

namespace Sys2Proof.Machine

/-- The deadline class of a reading command (R203): D0 for a host Read of an enabled function whose queue is Urgent or High under
weighted round robin, or whose Access Latency (CDW13 bits 5:4) is 0b11. -/
def Chip.hostCls (c : Chip) (x : Ctx) : Cls :=
  let r := c.fn x.fn
  let prio := bitsOf r.cc 13 11 = 1 && ((pget r.sqs x.sqid).any fun (q : SqRec) => decide (q.prio ≤ 1))
  if x.kind = .read && bitOf (c.reg .schedD0en (x.fn / 64)) (x.fn % 64) && (prio || bitsOf (x.dw 13) 5 4 = 3) then .d0 else .d1

/-- Count a latency in a live histogram (R227): h 0 D0 reads, 1 D1 reads, 2 host writes; a live count saturates. -/
def Chip.bumpHist (c : Chip) (h ns : Nat) : Chip :=
  let k := h * 64 + min 63 (ns / 16000)
  c.modM fun m => { m with hist := mset 0 m.hist k (satAdd 48 (mget 0 m.hist k) 1) }

/-- What SCHED counts when the completion entry of a read or write is issued: its latency, and a read past its deadline, event 0x3406
(R227, R229). -/
def Chip.latency (c : Chip) (t : Nat) : Chip :=
  match c.ctx t with
  | none => c
  | some x =>
    let c := match x.kind with
      | .read => c.bumpHist (if c.hostCls x = .d0 then 0 else 1) (c.now - x.tFetch)
      | .write | .append | .writeZeroes => c.bumpHist 2 (c.now - x.tFetch)
      | _ => c
    match x.deadline with
    | some d =>
      if c.now > d then (c.addFld F.SCHED_CNT2_DL_MISS 1).post srcSched 0x3406 [if c.hostCls x = .d0 then 1 else 2, (c.now - d) / 1000] else c
    | none => c

/-- A completion queue with no free slot (R104). -/
def CqRec.full (q : CqRec) : Bool := q.size ≤ 1 || (q.tail + 1) % q.size == q.head

/-- The interrupt of a new entry (R105): at once for the admin queue and for a vector with Coalescing Disable; otherwise once the count
exceeds the threshold (feature 8 bits 7:0; log 6). -/
def Chip.signal (c : Chip) (f cqid : Nat) : Chip :=
  let r := c.fn f
  match pget r.cqs cqid with
  | none => c
  | some q =>
    if !q.ien then c
    else if cqid = 0 || r.coalDis.contains q.iv then c.msix f q.iv
    else
      let n := mget 0 r.coal q.iv + 1
      if n > bitsOf ((pget r.feats 8).getD 0) 7 0 then (c.modFn f fun r => { r with coal := mset 0 r.coal q.iv 0 }).msix f q.iv
      else c.modFn f fun r => { r with coal := mset 0 r.coal q.iv n }

/-- The completion entry is written and its interrupt follows (R102, R103); claims are released and the tag is freed (R86, R97). -/
def Chip.writeCqe (c : Chip) (f : Nat) (h : HeldCpl) (q : CqRec) : Chip :=
  let sqHead := ((pget (c.fn f).sqs h.sqid).map SqRec.head).getD 0
  let c := c.emit (.cqe f h.cqid q.tail ⟨h.dw0, h.gen, sqHead, h.sqid, h.cid, q.phase, h.status⟩)
  let tail := (q.tail + 1) % q.size
  let c := c.modFn f fun r => { r with cqs := pset r.cqs h.cqid { q with tail := tail, phase := if tail = 0 then !q.phase else q.phase } }
  (((c.signal f h.cqid).latency h.tag).releaseClaims h.tag).freeTag h.tag

/-- A completion is discarded: its claims and its tag go (R112, R416). -/
def Chip.discard (c : Chip) (t : Nat) : Chip := (c.releaseClaims t).freeTag t

/-- Post a completion: held in D3hot (R48) or while its queue is full, event 0x1015 once per stall (R104). -/
def Chip.postHeld (c : Chip) (f : Nat) (h : HeldCpl) : Chip :=
  let r := c.fn f
  match pget r.cqs h.cqid with
  | none => c.discard h.tag
  | some q =>
    if r.d3hot then c.modFn f fun r => { r with d3Held := r.d3Held ++ [h] }
    else if q.full || !q.held.isEmpty then
      let c := c.modFn f fun r => { r with cqs := pset r.cqs h.cqid { q with held := q.held ++ [h], stalled := true } }
      if q.stalled then c else c.post srcIntake 0x1015 [f, h.cqid]
    else c.writeCqe f h q

/-- Completions held by a queue are posted while it has room (R104); at most `fuel`. -/
def Chip.unstall : Nat → Nat → Nat → Chip → Chip
  | 0, _, _, c => c
  | fuel + 1, f, cqid, c =>
    match pget (c.fn f).cqs cqid with
    | none => c
    | some q =>
      match q.held with
      | [] => c.modFn f fun r => { r with cqs := pset r.cqs cqid { q with stalled := false } }
      | h :: t =>
        if q.full then c
        else
          let q1 := { q with held := t }
          unstall fuel f cqid ((c.modFn f fun r => { r with cqs := pset r.cqs cqid q1 }).writeCqe f h q1)

/-- Completions of a function are discarded: fenced, in reset, or in an abrupt shutdown (R112, R115, R416). -/
def FnRec.drops (r : FnRec) : Bool := r.fence.isSome || r.resetAt.isSome || r.abrupt

/-- The generation in the entries of a COMPAT function's I/O queues (R431). -/
def Chip.genFor (c : Chip) (f sqid : Nat) : Nat := if sqid != 0 && c.flag F.TENANT_FNCFG_COMPAT f then (c.fn f).gen else 0

/-- The function that a trailing write's completion goes to (R432). -/
def Chip.trailOf (c : Chip) (tag : Nat) : Option (Nat × Trail) :=
  c.fns.findSome? fun (e : Nat × FnRec) => (e.2.trail.find? fun (t : Trail) => t.tag == tag).map fun t => (e.1, t)

/-- TRAILING_WRITE_COMPLETION (R432): the write has finished: its tag goes, and its completion is posted in the function's queue of the
same CQID with its generation, or held until Thaw. -/
def Chip.postTrail (c : Chip) (f : Nat) (t : Trail) (st : Status) (dw0 : Nat) : Chip :=
  let h : HeldCpl := ⟨65536, t.sqid, t.cqid, t.cid, st, dw0, t.gen⟩
  let c := ((c.latency t.tag).discard t.tag).modFn f fun r => { r with trail := r.trail.filter fun (u : Trail) => u.tag != t.tag }
  if (c.fn f).drops then c
  else if (c.fn f).active then c.postHeld f h
  else c.modFn f fun r => { r with trailHeld := r.trailHeld ++ [h] }

/-- A completion event is taken at the post stage (R103, R108). -/
def Chip.takeDone (c : Chip) (t : Nat) (st : Status) (dw0 : Nat) : Chip :=
  let keep := fun (e : PostEvent) => match e with | .done u _ _ => u != t | _ => true
  let c := { c with intake := { c.intake with postQ := c.intake.postQ.filter keep } }
  match c.ctx t with
  | none => c
  | some x =>
    match c.trailOf t with
    | some (g, tr) => c.postTrail g tr st dw0
    | none =>
      if (c.fn x.fn).drops then c.discard t
      else c.postHeld x.fn ⟨t, x.sqid, x.cqid, x.cid, st, dw0, c.genFor x.fn x.sqid⟩

/-- The first event of a tag at the post stage. -/
def Chip.firstEvent (c : Chip) (t : Nat) : Option PostEvent :=
  c.intake.postQ.find? fun (e : PostEvent) => match e with
    | .done u _ _ => u == t
    | .abort (some u) _ _ _ => u == t
    | .abort none _ _ _ => false

/-- POST_COMPLETION (R103, R104, R108): the completion event of a command is taken, unless its abort event came first. Nothing is posted
once the power-fail sequence is committed (R197). -/
def execPostCompletion (tag : Nat) (s : State) : Outcome :=
  onChip (fun c =>
    match c.firstEvent tag with
    | some (.done t st dw0) => if c.z.ledger.pfCommit then c else c.takeDone t st dw0
    | _ => c) s

/-- COALESCING_TIMER_EXPIRY (R105): entries not yet signalled on a vector are signalled. -/
def execCoalescingTimerExpiry (fn vec : Nat) (s : State) : Outcome :=
  onChip (fun c =>
    if mget 0 (c.fn fn).coal vec > 0 then (c.modFn fn fun r => { r with coal := mset 0 r.coal vec 0 }).msix fn vec else c) s

/-! Abort (R106 to R110) -/

/-- Aborts of a function that wait for their decision. -/
def Chip.abortsOut (c : Chip) (f : Nat) : Nat := (c.tagsOf f fun x => x.sqid = 0 && sqeOpc x.sqe = 0x08 && x.kind = .admin && !x.sent).length

/-- Send the abort event of a command to the post stage (R107). -/
def Chip.sendAbort (c : Chip) (target by_ : Option Nat) (cid fn : Nat) : Chip :=
  let c := match target with
    | some t => c.modCtx t fun x => { x with abortReq := true }
    | none => c
  { c with intake := { c.intake with postQ := c.intake.postQ ++ [.abort target by_ cid fn] } }

/-- ABORT (R106, R107): CDW10 names SQID and CID (log 6); beyond 64 outstanding it ends with Abort Command Limit Exceeded. -/
def execAbort (tag : Nat) (s : State) : Outcome :=
  onChip (fun c => c.admin tag fun x c =>
    if c.abortsOut x.fn ≥ 64 then c.complete tag .abortLimit
    else
      let sqid := bitsOf (x.dw 10) 15 0
      let cid := bitsOf (x.dw 10) 31 16
      let target := (c.tagsOf x.fn fun y => y.sqid = sqid && !y.sqe.isEmpty && y.cid = cid).head?
      (c.modCtx tag fun y => { y with kind := .admin, st := .post }).sendAbort target (some tag) cid x.fn) s

/-- The outcome of R108: aborted unless no tag holds the command, its completion has been taken, it is a write past its commit point, or
firmware has it. -/
def Chip.aborts (c : Chip) (target : Option Nat) : Bool :=
  match target.bind c.ctx with
  | none => false
  | some x =>
    let queued := c.intake.postQ.any fun (e : PostEvent) => match e with | .done u _ _ => some u == target | _ => false
    !x.committed && x.st != .firmware && (!x.sent || queued)

/-- An abort event is decided (R108, R109): a squashed command is posted with Command Abort Requested, before the Abort's own completion;
event 0x1012. -/
def Chip.decideAbort (c : Chip) (target by_ : Option Nat) (cid fn : Nat) : Chip :=
  let yes := c.aborts target
  let c := match target, yes with
    | some t, true =>
      match c.ctx t with
      | some x =>
        let keep := fun (e : PostEvent) => match e with | .done u _ _ => u != t | _ => true
        let c := (c.undo t).modCtx t fun x => { x with sent := true, status := .abortRequested }
        let c := { c with intake := { c.intake with postQ := c.intake.postQ.filter keep } }
        if (c.fn x.fn).drops then c.discard t
        else c.postHeld x.fn ⟨t, x.sqid, x.cqid, x.cid, .abortRequested, 0, c.genFor x.fn x.sqid⟩
      | none => c
    | _, _ => c
  let c := c.post srcIntake 0x1012 [fn, cid, b2n (!yes)]
  match by_ with
  | some a => (c.addFld (if yes then F.INTAKE_ABORTCNT_ABORTED else F.INTAKE_ABORTCNT_NOT_ABORTED) 1).complete a .success (b2n (!yes))
  | none => c

/-- ABORT_DECISION (R107, R108): the abort event that the Abort in `tag` sent, or that preempts the command in `tag`, is taken unless an
earlier event of the same command waits. -/
def execAbortDecision (tag : Nat) (s : State) : Outcome :=
  onChip (fun c =>
    let mine := fun (e : PostEvent) => match e with
      | .abort t b _ _ => b == some tag || (b.isNone && t == some tag)
      | _ => false
    match c.intake.postQ.find? mine with
    | some (.abort target by_ cid fn) =>
      let first := match target with
        | some t => c.firstEvent t == some (.abort target by_ cid fn)
        | none => true
      if first && !c.z.ledger.pfCommit then
        let rest := c.intake.postQ.erase (.abort target by_ cid fn)
        Chip.decideAbort { c with intake := { c.intake with postQ := rest } } target by_ cid fn
      else c
    | _ => c) s

end Sys2Proof.Machine
end

