-- ==== Sys2Proof/Machine/Checkpoint.lean ====
section
/-! DEFINITION. Checkpoint passes: snapshots of segments, their copies, and what a complete pass lets go (R156 to R158, R291, R372). -/

namespace Sys2Proof.Machine

/-- 64 KiB pages of a copy: a header of 4 KiB and 5 MiB of map entries; records and extensions of 655,360 zones; a member's block
states; 7 MiB of pool-table entries (R156, R287, R372). -/
def segPages (k : Nat) : Nat :=
  if k < segZones then 81 else if k < 0x20000000 then 1281 else if k < 0x30000000 then 44 else 113

/-- The cistern a block is free to be used from again, once it is erased (R19, R298): it joins the shared set. -/
def Chip.freeCistern (c : Chip) (x : Nat) : Chip :=
  let c := c.modBst (x / 4096) (x % 4096) fun b => { b with owner := 6 }
  (c.newOp (mkOp .erase (x / 4096) (x % 4096) 0 true .b (.blockErase 2))).1

/-- JSNs of records appended whose change to a segment has not been made yet (R157). -/
def Chip.unmade (c : Chip) (k : Nat) : List Nat :=
  if k < segZones then
    ((c.z.parts.filter fun e => e.2.zone.isNone && !e.2.onMedium && decide (segMap e.2.first ≤ k ∧ k ≤ segMap (e.2.first + e.2.len))).flatMap
      fun e => ((c.ctx e.2.tag).map Ctx.jsns).getD []) ++
    (c.z.journal.waits.filter fun w => match w.2 with
      | .move _ items => items.any fun x => segMap x.1 == k
      | _ => false).map (·.1)
  else
    (c.z.journal.waits.filter fun w => match w.2 with
      | .zoneReset .. | .relocate .. => k == segZones
      | .erase _ => decide (0x20000000 ≤ k ∧ k < 0x30000000)
      | _ => false).map (·.1)

/-- SNAP_JSN of a snapshot taken now (R157). -/
def Chip.snapJsn (c : Chip) (k : Nat) : Nat :=
  match (c.unmade k).min? with
  | some j => j - 1
  | none => c.z.journal.nextJsn - 1

/-- Where the committed data of a zone ends: positions taken by writes not yet committed are not part of a copy (R133, R181). -/
def Chip.committedEnd (c : Chip) (g : Nat) (z : ZoneRec) : Nat :=
  let starts := c.intake.tags.filterMap fun e =>
    match e.2.ranges.head?, c.ns e.2.nsid with
    | some r, some n => if e.2.placed && !e.2.committed && n.zoned && n.zoneOf r.first == g then some (r.first % 0x80000) else none
    | _, _ => none
  match starts.min? with
  | none => z.wpOff
  | some s =>
    let recs := c.z.journal.durable ++ c.z.journal.flying.flatMap Frame.recs ++ c.z.journal.opened
    recs.foldl (fun a r => match r.body with
      | .zwp i f n => if r.nsid = z.nsid ∧ i = z.zidx then max a (f + n) else a
      | _ => a) s

/-- The contents of a segment. -/
def Chip.segData (c : Chip) (k : Nat) : SegData :=
  if k < segZones then .map (c.z.map.filter fun e => segMap e.1 == k)
  else if k < 0x20000000 then .zones (c.z.zones.map fun e => (e.1, { e.2 with wpOff := c.committedEnd e.1 e.2 }))
  else if k < 0x30000000 then
    .table (c.m.bst.filter fun e => memberOf (e.1 / 4096) == k - 0x20000000)
      (c.m.defects.filter fun d => memberOf d.die == k - 0x20000000)
  else .pools (c.m.pools.filter fun e => segPools e.1 == k)

/-- Members that may hold a copy, those with most free shared cisterns first. -/
def Chip.copyMembers (c : Chip) (n : Nat) : List Nat :=
  let free := fun m => (((List.range 128).map fun d => (c.sharedFreeOf (m * 128 + d)).length)).sum
  let ok := (List.range 36).filter fun m => c.memberPresent m && !c.memberLost m && !c.flag F.BINOR_STAT_PARKED m
  let rec take : Nat → List Nat → List Nat
    | 0, _ => []
    | k + 1, l =>
      match bestBy free l with
      | some m => m :: take k (l.filter (· != m))
      | none => []
  take n ok

/-- Take the cisterns of one copy on a member. -/
def Chip.takeCisterns : Nat → Nat → Chip → List Nat → Chip × List Nat
  | 0, _, c, acc => (c, acc)
  | n + 1, m, c, acc =>
    match c.takeCistern m 3 with
    | (c, some (d, b)) => takeCisterns n m c (acc ++ [bkey d b])
    | (c, none) => (c, acc)

/-- Cisterns of a copy. -/
def segCisterns (k : Nat) : Nat := (segPages k + 383) / 384

/-- Program the next page of a copy of a segment. -/
def Chip.segPage (c : Chip) (k copy : Nat) : Chip :=
  match pget c.z.segs k with
  | none => c
  | some s =>
    let page := segPages k - (mget 0 s.left copy)
    match s.cists[copy * segCisterns k + page / 384]? with
    | some x => (c.newOp (mkOp .programSlc (x / 4096) (x % 4096) (page % 384) true .d1 (.segment k copy))).1
    | none => c

/-- SEGMENT_SNAPSHOT (R157): the segment is copied with its changes held, and its copies are written on distinct members. Copies still being
written of an earlier snapshot are given up. -/
def Chip.snapshot (c : Chip) (k : Nat) : Chip :=
  let n := segCopies k
  let c := c.disown fun p => match p with | .segment g _ => g == k | _ => false
  let c := (((pget c.z.segs k).map Segment.cists).getD []).foldl (fun c x => c.freeCistern x) c
  let (c, cs) := (c.copyMembers n).foldl (fun (a : Chip × List Nat) m => Chip.takeCisterns (segCisterns k) m a.1 a.2) (c, [])
  let left := (List.range n).map fun i => (i, segPages k)
  let c := c.modZ fun z => { z with segs := pset z.segs k { (pget z.segs k).getD segReset with
    changed := false, pass := z.pass, snapJsn := c.snapJsn k, data := some (c.segData k), left := left, cists := cs } }
  (List.range n).foldl (fun c i => c.segPage k i) c

/-- The discard boundary (R158): the lowest SNAP_JSN over the newest complete copies. -/
def Chip.ckptLow (c : Chip) : Nat :=
  match ((c.z.segs.filterMap fun e => e.2.best.map fun b => b.2.1)).min? with
  | some j => if c.z.segs.any fun e => e.2.best.isNone then c.fld F.ZMAP_CKPTLOW_JSN else j
  | none => c.fld F.ZMAP_CKPTLOW_JSN

/-- Records at or below the boundary are discarded, and journal cisterns that hold no other are erased (R158, R369). -/
def Chip.discardJournal (c : Chip) : Chip :=
  let low := c.ckptLow
  let c := c.setFld F.ZMAP_CKPTLOW_JSN low
  let gone := c.z.journal.retained.filter fun r => r.1 ≤ low + 1
  let c := c.modJ fun j => { j with
    durable := j.durable.filter fun r => r.jsn > low
    retained := j.retained.filter fun r => r.1 > low + 1 }
  (gone.flatMap (·.2)).foldl (fun c x => c.freeCistern x) c

/-- A pass is complete: event 0x2007; Seal Imports that waited for it complete (R385). -/
def Chip.passDone (c : Chip) (written : Nat) : Chip :=
  let c := (c.setFld F.ZMAP_CKPT_PASS c.z.pass).post srcZmap 0x2007 [c.z.pass, written]
  let c := c.modM fun m => { m with lapCkpt := c.fld F.PATROL_LAP_LAP }
  let ready := c.z.imports.filter fun i => i.1 ≤ c.z.pass
  let c := c.modZ fun z => { z with imports := z.imports.filter fun i => i.1 > z.pass }
  ready.foldl (fun c i => c.complete i.2.1 i.2.2.1 i.2.2.2) c

/-- Start a pass: every segment changed since its last copy, as long as no pass runs (R157). -/
def Chip.startPass (c : Chip) : Chip :=
  if !c.z.passSegs.isEmpty then c
  else
    let ks := (c.z.segs.filter fun e => e.2.changed).map (·.1)
    let c := c.modZ fun z => { z with pass := z.pass + 1, passSegs := ks, lastPassAt := c.now }
    if ks.isEmpty then c.passDone 0 else ks.foldl (fun c k => c.snapshot k) c

/-- A three-copy segment is rewritten after a loss; event 0x400A with the last one (R372). -/
def Chip.threeDone (c : Chip) (k : Nat) : Chip :=
  match c.m.three with
  | none => c
  | some (n, left, t0) =>
    let rest := left.filter (· != k)
    if rest.isEmpty then (c.modM fun m => { m with three := none }).post srcStripe 0x400A [n, (c.now - t0) / ms 1]
    else c.modM fun m => { m with three := some (n, rest, t0) }

/-- CHECKPOINT_SEGMENT_DURABLE (R158): all copies of a segment are durable; the copies before them are freed. -/
def Chip.segDurable (c : Chip) (k : Nat) : Chip :=
  match pget c.z.segs k with
  | none => c
  | some s =>
    match s.data with
    | none => c
    | some d =>
      let old := s.bestCists
      let c := c.modZ fun z => { z with
        segs := pset z.segs k { s with best := some (s.pass, s.snapJsn, d), bestCists := s.cists, data := none, cists := [] }
        passSegs := z.passSegs.filter (· != k) }
      let n := (c.z.segs.filter fun e => e.2.best.any fun b => b.1 == c.z.pass).length
      let c := ((old.foldl (fun c x => c.freeCistern x) c).discardJournal).threeDone k
      if c.z.passSegs.isEmpty then c.passDone n else c

/-- A page of a copy was programmed: the next one follows, or the copy is complete. -/
def Chip.segPageOk (c : Chip) (k copy : Nat) : Chip :=
  let c := c.modZ fun z => { z with segs := pmod z.segs k fun s => { s with left := mset 0 s.left copy (mget 0 s.left copy - 1) } }
  match pget c.z.segs k with
  | some s => if mget 0 s.left copy > 0 then c.segPage k copy else if s.left.isEmpty then c.segDurable k else c
  | none => c

/-- A page of a copy failed: the copy is written again on another cistern. -/
def Chip.segPageFail (c : Chip) (k copy : Nat) : Chip :=
  match pget c.z.segs k with
  | none => c
  | some s =>
    let n := segCisterns k
    let used := s.cists.map fun x => memberOf (x / 4096)
    match (c.copyMembers 36).find? fun m => !used.contains m with
    | none => c
    | some m =>
      let (c, cs) := Chip.takeCisterns n m c []
      let cists := s.cists.take (copy * n) ++ cs ++ s.cists.drop (copy * n + n)
      (c.modZ fun z => { z with segs := pmod z.segs k fun s => { s with
        cists := cists, left := pset s.left copy (segPages k) } }).segPage k copy

/-- Retained journal per mirror in MiB, over RETAIN_MIB (R370): a cistern is 384 pages of 64 KiB. -/
def Chip.overRetain (c : Chip) : Bool :=
  let j := c.z.journal
  let n := j.retained.length + b2n !j.trioCist.isEmpty
  decide (24 * n > c.clampFld F.STRIPE_JMIR_RETAIN_MIB 512 16384)

/-- CHECKPOINT_PASS_START (R157, R370): the period has passed, enough segments have changed, or the retained journal is over its limit. -/
def execCheckpointPassStart (s : State) : Outcome :=
  onChip (fun c =>
    let dirty := (c.z.segs.filter fun e => e.2.changed).length
    let c := if dirty ≥ c.fld F.ZMAP_CKPT_DIRTY_LIMIT || c.overRetain then c
      else c.advanceTo (c.z.lastPassAt + seconds (max 5 (c.fld F.ZMAP_CKPT_PERIOD_S)))
    c.startPass) s

end Sys2Proof.Machine
end

