-- ==== Sys2Proof/Machine/Reset.lean ====
section
/-! DEFINITION. Enabling, resetting and shutting down functions, and the pause for a firmware activation (R83, R112 to R119, R417, R421). -/

namespace Sys2Proof.Machine

/-- The code of a migration state (TENANT_FNSTAT.MSTATE). -/
def MState.code : MState → Nat
  | .active => 0
  | .freezing => 1
  | .frozen => 2
  | .saved => 3
  | .restored => 4

/-- A migration ends with a reset (R421): ACTIVE, SAVE_GEN + 1, event 0x8008; a pending Freeze completes with reason 0x02. -/
def Chip.endMigration (c : Chip) (f : Nat) : Chip :=
  let r := c.fn f
  if r.active then c
  else
    let c := (c.modFn f fun r => { r with mstate := .active, saveGen := (r.saveGen + 1) % 65536, aerCids := [], freeze := none }).post
      srcTenant 0x8008 [f, r.mstate.code]
    match r.freeze with
    | some (t, _) =>
      if t ≥ 65536 then c else
      (((c.setFld F.TENANT_MIGCMD_BUSY 0).setFld F.TENANT_MIGCMD_RESULT 1).setFld F.TENANT_MIGCMD_REASON 2).complete t .commandSequenceError 2
    | none => c

/-- A reset of a function begins (R112): fetch stops, what has not passed its commit point is squashed, but commands firmware has;
the generation of a COMPAT function rises (R431), and trailing writes it was to post are discarded (R432). -/
def Chip.startReset (c : Chip) (f : Nat) : Chip :=
  let clean := c.inUse f = 0
  let c := c.endMigration f
  let gone := c.tagsOf f fun x => !x.committed && x.st != .firmware
  let c := (gone ++ (c.fn f).aers).foldl (fun c t => c.squash t) c
  c.modFn f fun r => { r with
    cc := putBits r.cc 0 0 0, resetAt := some c.now, cleanReset := clean, shutdown := false, abrupt := false, shst := 0
    aers := [], pendEv := [], d3Held := [], trail := [], trailHeld := []
    gen := if c.flag F.TENANT_FNCFG_COMPAT f then (r.gen + 1) % 16 else r.gen }

/-- The record of a function after step 5 of R112: no queues, registers and features at reset; what outlives a reset stays
(R49, R52, R57; AQA, ASQ and ACQ, log 6). -/
def FnRec.afterReset (r : FnRec) (f : Nat) : FnRec :=
  { fnReset f with
    d3hot := r.d3hot, vfe := r.vfe, pasidCap := r.pasidCap, aqa := r.aqa, asq := r.asq, acq := r.acq, msix := r.msix, asg := r.asg
    nsids := r.nsids, stream := r.stream, fence := r.fence, saveGen := r.saveGen, gen := r.gen }

/-- The FUNC-domain registers of a function, those of a PF's BAR2 window (R9, R59). -/
def Chip.resetFuncRegs (c : Chip) (f : Nat) : Chip :=
  if isPf f then [RegId.bar2AsgCmd, .bar2AsgStat, .bar2MbxDb].foldl (fun c r => c.setReg r (portOf f) (regReset r (portOf f))) c else c

/-- A stream of a function's port is Secure. -/
def Chip.streamSecure (c : Chip) (f : Nat) : Bool :=
  match (c.fn f).stream with
  | some s => ((pget c.ports (portOf f)).map Port.secure).any fun (l : List Nat) => l.contains s
  | none => true

/-- What the end of a reset does to a fence, by its cause (R417). -/
def Chip.resetFence (c : Chip) (f : Nat) (clean : Bool) : Chip :=
  match (c.fn f).fence with
  | some 1 => if c.streamSecure f then c.unfence f else (c.modFn f fun r => { r with fence := none }).fence f 1
  | some 2 => if clean then c.unfence f else c
  | some 4 => c
  | some _ => c.unfence f
  | none => c

/-- Step 5 of R112: no tag of the function is in use. -/
def Chip.finishReset (c : Chip) (f : Nat) : Chip :=
  let clean := (c.fn f).cleanReset
  ((c.modFn f fun r => r.afterReset f).resetFuncRegs f).resetFence f clean

/-- CONTROLLER_ENABLE (R51, R83): CC is written with EN set: the admin queues of AQA, ASQ and ACQ exist and CSTS.RDY is set; not during
a reset. In a migration state CC is only held (R423); a fenced function does not become ready (R75). -/
def execControllerEnable (fn cc : Nat) (s : State) : Outcome :=
  onChip (fun c =>
    let r := c.fn fn
    if !c.fnExists fn || r.resetAt.isSome || r.en || !bitOf cc 0 then c
    else if !r.active || r.fence.isSome then c.modFn fn fun r => { r with cc := cc }
    else
      let sq : SqRec := ⟨r.asq, bitsOf r.aqa 11 0 + 1, 0, 0, 0, 0⟩
      let cq : CqRec := ⟨r.acq, bitsOf r.aqa 27 16 + 1, 0, 0, true, true, 0, [], false⟩
      c.modFn fn fun r => { r with cc := cc, rdy := true, sqs := pset r.sqs 0 sq, cqs := pset r.cqs 0 cq }) s

/-- CONTROLLER_RESET (R112, R421): CC.EN goes from 1 to 0. -/
def execControllerReset (fn : Nat) (s : State) : Outcome :=
  onChip (fun c => if c.fnExists fn && (c.fn fn).en then c.startReset fn else c) s

/-- RESET_DRAIN_COMPLETE (R112): the reset of a function ends when none of its tags is in use. -/
def execResetDrainComplete (fn : Nat) (s : State) : Outcome :=
  onChip (fun c => if (c.fn fn).resetAt.isSome && c.inUse fn = 0 then c.finishReset fn else c) s

/-- RESET_DRAIN_TIMEOUT (R113): a tag is still in use RESET_MS after the reset began: RDY is cleared, the function is fenced, event
0x1013. -/
def execResetDrainTimeout (fn : Nat) (s : State) : Outcome :=
  onChip (fun c =>
    match (c.fn fn).resetAt with
    | some t =>
      if c.inUse fn = 0 then c
      else
        let c := c.advanceTo (t + ms (c.clampFld F.INTAKE_TMO_RESET_MS 100 10000))
        let n := c.inUse fn
        (((c.modFn fn fun r => { r with resetAt := none, rdy := false }).fence fn 2).post srcIntake 0x1013 [fn, n])
    | none => c) s

/-- FUNCTION_LEVEL_RESET (R114, R417): a reset with the configuration space; of a PF, VF Enable is cleared and every enabled VF is reset
too. The function is in D0 afterwards, with no PASID enabled (log 6). -/
def execFunctionLevelReset (fn : Nat) (s : State) : Outcome :=
  onChip (fun c =>
    if !c.fnExists fn then c
    else
      let fs := if isPf fn then c.portFns (portOf fn) else [fn]
      let c := fs.foldl (fun c f => (c.startReset f).modFn f fun r => { r with pasidCap := false, d3hot := false, msix := [], pba := [] }) c
      if isPf fn then c.modFn fn fun r => { r with vfe := false } else c) s

/-- Outstanding work of a function but its Asynchronous Event Requests. -/
def Chip.drained (c : Chip) (f : Nat) : Bool := (c.tagsOf f fun _ => true).all fun t => (c.fn f).aers.contains t

/-- NORMAL_SHUTDOWN (R115): fetch stops and commands in flight complete. -/
def execNormalShutdown (fn : Nat) (s : State) : Outcome :=
  onChip (fun c =>
    if c.fnExists fn && (c.fn fn).en then c.modFn fn fun r => { r with cc := putBits r.cc 15 14 1, shst := 1, shutdown := true } else c) s

/-- SHUTDOWN_CHECKPOINT_DONE (R115): the shutdown is drained; once every segment is checkpointed SHST is 0b10. A pass is started where
segments have changed. -/
def execShutdownCheckpointDone (fn : Nat) (s : State) : Outcome :=
  onChip (fun c =>
    if (c.fn fn).shst = 1 && c.drained fn then
      if c.z.passSegs.isEmpty && !(c.z.segs.any fun e => e.2.changed) then c.modFn fn fun r => { r with shst := 2 }
      else c.startPass
    else c) s

/-- ABRUPT_SHUTDOWN (R115): what has not passed its commit point is squashed, as in R112. -/
def execAbruptShutdown (fn : Nat) (s : State) : Outcome :=
  onChip (fun c =>
    if c.fnExists fn && (c.fn fn).en then
      let c := c.modFn fn fun r => { r with cc := putBits r.cc 15 14 2, shst := 1, shutdown := true, abrupt := true }
      ((c.tagsOf fn fun x => !x.committed && x.st != .firmware) ++ (c.fn fn).aers).foldl (fun c t => c.squash t) c
    else c) s

/-! The pause of R116 -/

/-- DRAIN_REQUEST (R116): fetch stops on every function. -/
def execDrainRequest (s : State) : Outcome :=
  onChip (fun c =>
    if c.flag F.INTAKE_FWACT_DRAIN_REQ then c
    else { (c.setFld F.INTAKE_FWACT_DRAIN_REQ 1).setFld F.INTAKE_FWACT_DRAINED 0 with intake := { c.intake with drainAt := some c.now } }) s

/-- No tag is in use but those of STATE 0x8 (R116). -/
def Chip.allDrained (c : Chip) : Bool := c.intake.tags.all fun e => e.2.st == .firmware

/-- FIRMWARE_DRAIN_COMPLETE (R116). -/
def execFirmwareDrainComplete (s : State) : Outcome :=
  onChip (fun c =>
    if c.flag F.INTAKE_FWACT_DRAIN_REQ && !c.flag F.INTAKE_FWACT_EXPIRED && c.allDrained then c.setFld F.INTAKE_FWACT_DRAINED 1 else c) s

/-- DRAIN_LIMIT_MS as taken: 1 to 150, otherwise 150. -/
def Chip.drainLimit (c : Chip) : Nat :=
  let n := c.fld F.INTAKE_FWACT_DRAIN_LIMIT_MS
  if 1 ≤ n ∧ n ≤ 150 then n else 150

/-- DRAIN_LIMIT_EXPIRY (R117): the drain has not finished within its limit. -/
def execDrainLimitExpiry (s : State) : Outcome :=
  onChip (fun c =>
    match c.intake.drainAt with
    | some t =>
      if c.flag F.INTAKE_FWACT_DRAIN_REQ && !c.flag F.INTAKE_FWACT_DRAINED then
        (c.advanceTo (t + ms c.drainLimit)).setFld F.INTAKE_FWACT_EXPIRED 1
      else c
    | none => c) s

/-- The Firmware Commit of action 3 that waits completes (R116, R117, R545): expired, activated, rejected; a pause that ended with no
activation is an internal error. -/
def Chip.commitEnds (c : Chip) (expired : Bool) : Chip :=
  match c.sys.commit with
  | some (tag, _) =>
    let r := c.fld F.SYS_FWACT_RESULT
    let st : Status := if expired then .activationTimeViolation else if r = 1 then .success else if r = 2 then .invalidFirmwareImage else .internalError
    { c with sys := { c.sys with commit := none } }.complete tag st
  | none => c

/-- FETCH_RESUME (R116, R117): fetch restarts; the pause is recorded in LAST_PAUSE_US and event 0x1014 (0 activated, 1 expired). -/
def execFetchResume (s : State) : Outcome :=
  onChip (fun c =>
    match c.intake.drainAt with
    | some t =>
      let us := (c.now - t) / 1000
      let out := c.fld F.INTAKE_FWACT_EXPIRED
      let c := ((c.setFld F.INTAKE_FWACT_DRAIN_REQ 0).setFld F.INTAKE_FWACT_EXPIRED 0).setFld F.INTAKE_FWACT_DRAINED 0
      let c := (c.setFld F.INTAKE_FWACT_LAST_PAUSE_US (min us (2 ^ 32 - 1))).post srcIntake 0x1014 [us, out]
      ({ c with intake := { c.intake with drainAt := none } }).commitEnds (out == 1)
    | none => c) s

end Sys2Proof.Machine
end

