-- ==== Sys2Proof/Machine/PowerBase.lean ====
section
/-! DEFINITION. The states of power domains and the wake sources (R492, R498 to R503), as the other blocks use them. -/

namespace Sys2Proof.Machine

/-- Indices of domains (R492). -/
def domHp (n : Nat) : Nat := 1 + n
def domFg (k : Nat) : Nat := 5 + k
def domDc (n : Nat) : Nat := 11 + n
def domCc (n : Nat) : Nat := 19 + n
def domSb (n : Nat) : Nat := 23 + n
def domMx : Nat := 31
def domXa : Nat := 32

/-- Change what PWR keeps. -/
def Chip.modPwr (c : Chip) (g : Power → Power) : Chip := { c with pwr := g c.pwr }

/-- The state of a domain as PWR_DOMd.STATE reads; it is On. -/
def Chip.domState (c : Chip) (d : Nat) : Nat := c.fld F.PWR_DOM_STATE d
def Chip.domOn (c : Chip) (d : Nat) : Bool := c.domState d = 0

/-- The sources of R498 active for a domain: timer, held levels, supply, latched edges. -/
def Chip.sources (c : Chip) (d : Nat) : Nat :=
  let lvl := fun i => b2n (c.pwr.levels.contains (d, i)) * 2 ^ i
  c.fld F.PWR_TIMER_EXPIRED + lvl 1 + lvl 2 + lvl 3 + c.fld F.RESV_PFSTAT_WARN * 16 + c.fld F.PWR_EDGE_PERST * 32
    + c.fld F.PWR_EDGE_LINK * 64 + c.fld F.PWR_EDGE_MI * 128

/-- The sources enabled for a domain: SUPPLY always, DEMAND always for DC domains (R498). -/
def Chip.wakeMask (c : Chip) (d : Nat) : Nat :=
  let m := c.fld F.PWR_DOM_WAKEEN d
  let m := if bitOf m 4 then m else m + 16
  if 11 ≤ d ∧ d ≤ 18 ∧ !bitOf m 1 then m + 2 else m

/-- Sources both active and enabled. -/
def Chip.waking (c : Chip) (d : Nat) : Nat :=
  maskOf ((List.range 8).filter fun i => bitOf (c.sources d) i && bitOf (c.wakeMask d) i)

/-- The domains that go together: the two HP domains of a merged pair (R506). -/
def Chip.domPair (c : Chip) (d : Nat) : List Nat :=
  if (d = 1 ∨ d = 2) ∧ c.fuses.mrg0 then [1, 2] else if (d = 3 ∨ d = 4) ∧ c.fuses.mrg1 then [3, 4] else [d]

/-- A domain not On begins its exit (R501): WAKE_CAUSE is set to the sources active now, and the wake interrupt of its owner, which leaves WFI. -/
def Chip.wakeOne (c : Chip) (d : Nat) : Chip :=
  let st := c.domState d
  if st = 1 || st = 2 then
    ((((c.setFld F.PWR_DOM_WAKE_CAUSE (c.sources d) d).setFld F.PWR_DOM_STATE 3 d).modPwr fun p => { p with
      exits := pset p.exits d (c.now, st), wfi := p.wfi.filter (· != c.fld F.PWR_DOM_OWNER d) }).emit (.fwIrq srcPwr))
  else c

/-- The active enabled sources `cause` wake a domain, with its pair (R501, R506). A domain in entry returns once the entry completes (R499). SUPPLY does
not wake a domain that is Off. -/
def Chip.wake (c : Chip) (d cause : Nat) : Chip :=
  if c.domState d = 2 && cause = 16 then c else (c.domPair d).foldl (fun c x => c.wakeOne x) c

/-- Wake every domain that an active enabled source wakes (R501). -/
def Chip.wakeAll (c : Chip) : Chip :=
  (List.range 33).foldl (fun c d => if c.waking d = 0 then c else c.wake d (c.waking d)) c

/-- A request is held for a domain that is not On: DEMAND (R503). -/
def Chip.demand (c : Chip) (d : Nat) : Chip :=
  if c.domOn d then c
  else
    let c := c.modPwr fun p => { p with levels := if p.levels.contains (d, 1) then p.levels else (d, 1) :: p.levels }
    if bitOf (c.wakeMask d) 1 then c.wake d (c.waking d) else c

/-- An edge of a source, 5 PERST, 6 LINK, 7 MI: lost in the entry window of 120 ns, otherwise latched (R499). -/
def Chip.edge (c : Chip) (i : Nat) : Chip :=
  if c.pwr.commitAt.any fun t => decide (c.now < t + 120) then c
  else (c.setReg .pwrEdge 0 (maskOf ((i - 5) :: bitsSet 3 (c.reg .pwrEdge 0)))).wakeAll

end Sys2Proof.Machine
end

