-- ==== Sys2Proof/Machine/Link.lean ====
section
/-! DEFINITION. The Binor link of a fabric port: credits, frames, flits with their replay, lane degrade, retraining and parking
(R230 to R249, R259, R260, R264, R270, R271). -/

namespace Sys2Proof.Machine

/-- A port nothing has trained yet. -/
def linkReset : Link where
  full := true
  attempts := 0
  cause := 0
  since := 0
  lanes := []
  eqLocal := []
  eqRemote := []
  ts2 := []
  cfg := []
  cfgSeen := 0
  txSeq := 0
  rxSeq := 0
  held := []
  unacked := 0
  ackAt := 0
  discarding := false
  sinceSkip := 0
  resync := false
  hist := []
  corr0 := 0
  corr1 := 0
  notice := none
  sendQ := []
  frames := []
  nextTag := 0
  cmdq := []
  chunks := 0
  regFree := 0
  hbOut := 0
  hbAt := 0
  tempAt := 0
  timers := false
  parking := false
  talarm := 0x168

/-- The link of a port; change it. -/
def Chip.link (c : Chip) (p : Nat) : Link := (pget c.links p).getD linkReset
def Chip.modLink (c : Chip) (p : Nat) (g : Link → Link) : Chip := { c with links := pset c.links p (g (c.link p)) }

/-- BINORn_STAT.STATE: 0 DOWN, 1 DETECT, 2 LOCK, 3 EQ, 4 ALIGN, 5 CONFIG, 6 ACTIVE, 7 LOST. -/
def Chip.linkState (c : Chip) (p : Nat) : Nat := c.fld F.BINOR_STAT_STATE p
def Chip.linkActive (c : Chip) (p : Nat) : Bool := c.linkState p = 6

/-- A port that exists on this part (R3): the others have no link. -/
def Chip.portIn (c : Chip) (p : Nat) : Bool := decide (p < 36) && bitOf c.fuses.fport p

/-- What a port sends besides frames. -/
def linkAck : Nat := 1
def linkNak : Nat := 2
def linkDegrade : Nat := 3
def linkDmark : Nat := 4
def linkSkip : Nat := 5
def linkReplay : Nat := 6
def linkTrain : Nat := 7
def linkIdle : Nat := 8

/-- DATA flits a frame takes: 15 slots of 16 bytes in each; a frame begins in a flit of its own (log 17). -/
def BFrame.flits (f : BFrame) : Nat := if f.ftype = 2 then (16 + f.body.length + 239) / 240 else 1

/-- SEQ counts modulo 1,024. -/
def seqAdd (a n : Nat) : Nat := (a + n) % 1024

/-- Chunk slots a CMD frame takes, and those its end gives back (R259, R286): a program takes all of its slots with its first frame, and they return with
the frame that starts it. -/
def BFrame.needs (f : BFrame) : Nat := if f.kind = .start ∧ f.slots = 64 then 0 else f.slots
def BFrame.gives (f : BFrame) : Nat := if f.kind = .din then 0 else f.slots

/-- The credits a frame needs are free (R259), and the replay buffer of 512 flits has room (R236). -/
def Link.canSend (l : Link) (f : BFrame) : Bool :=
  decide (l.held.length + f.flits ≤ 512) &&
  match f.ftype with
  | 1 => decide (0 < mget 0 l.cmdq (subOf f.die) ∧ f.needs ≤ l.chunks)
  | 2 => decide (f.slots ≤ l.chunks)
  | 3 | 4 => decide (0 < l.regFree)
  | _ => true

/-- Send a frame: credits are taken, its flits are held until acknowledged; CMD and register frames are outstanding. -/
def Chip.putFrame (c : Chip) (p : Nat) (f : BFrame) : Chip :=
  (c.modLink p fun l =>
    let n := f.flits
    { l with
      txSeq := seqAdd l.txSeq n
      held := l.held ++ (List.range n).map fun i => ⟨seqAdd l.txSeq i, 0, c.now⟩
      ackAt := if l.held.isEmpty then c.now else l.ackAt
      sinceSkip := l.sinceSkip + n
      cmdq := if f.ftype = 1 then mset 0 l.cmdq (subOf f.die) (mget 0 l.cmdq (subOf f.die) - 1) else l.cmdq
      chunks := if f.ftype = 1 then l.chunks - f.needs else l.chunks
      regFree := if f.ftype = 3 ∨ f.ftype = 4 then l.regFree - 1 else l.regFree
      frames := if f.ftype = 1 ∨ f.ftype = 3 ∨ f.ftype = 4 then l.frames ++ [{ f with sentAt := c.now }] else l.frames }).emit
    (.frame p f.ftype f.tag f.body)

/-- Send waiting frames in order while credits and room allow. -/
def Chip.pumpFrames : Nat → Nat → Chip → Chip
  | 0, _, c => c
  | n + 1, p, c =>
    let l := c.link p
    match l.sendQ with
    | [] => c
    | f :: t =>
      if c.linkActive p && !l.parking && l.canSend f then pumpFrames n p ((c.modLink p fun l => { l with sendQ := t }).putFrame p f) else c

/-- Send what can be sent on a port. -/
def Chip.linkGo (c : Chip) (p : Nat) : Chip := Chip.pumpFrames (c.link p).sendQ.length p c

/-- The lowest TAG no frame of the port uses (R252). -/
def Link.freeTag (l : Link) : Nat :=
  ((List.range 4096).map fun i => (l.nextTag + i) % 4096).find? (fun t => !(l.frames.any (·.tag == t)) && !(l.sendQ.any (·.tag == t)))
    |>.getD l.nextTag

/-- Hand a frame to a port. -/
def Chip.sendFrame (c : Chip) (p ftype die : Nat) (op : Option Nat) (kind : FrameKind) (slots : Nat) (body : List Nat) : Chip :=
  let t := (c.link p).freeTag
  (c.modLink p fun l => { l with
    sendQ := l.sendQ ++ [⟨ftype, t, die, op, kind, slots, body, c.now⟩]
    nextTag := (t + 1) % 4096 }).linkGo p

/-- A frame ends: its credits return (R259). -/
def Chip.endFrame (c : Chip) (p tag : Nat) : Chip :=
  match (c.link p).frames.find? (·.tag == tag) with
  | none => c
  | some f =>
    (c.modLink p fun l => { l with
      frames := l.frames.filter (·.tag != tag)
      cmdq := if f.ftype = 1 then mset 0 l.cmdq (subOf f.die) (mget 0 l.cmdq (subOf f.die) + 1) else l.cmdq
      chunks := if f.ftype = 1 then l.chunks + f.gives else l.chunks
      regFree := if f.ftype = 1 then l.regFree else l.regFree + 1 }).linkGo p

/-- A port enters a training state. -/
def Chip.trainState (c : Chip) (p st : Nat) : Chip :=
  ((c.setFld F.BINOR_STAT_STATE st p).modLink p fun l => { l with since := c.now, ts2 := [], cfg := [], cfgSeen := 0 }).emit
    (.link p linkTrain st)

/-- A fast retrain starts at LOCK and keeps SEQ, replay buffers and credits (R243). -/
def Chip.fastRetrain (c : Chip) (p cause : Nat) : Chip :=
  if c.linkActive p then
    ((c.addFld F.BINOR_ERR2_FAST_RETRAINS 1 p).modLink p fun l => { l with full := false, attempts := 1, cause := cause }).trainState p 2
  else c

/-- FLIT_REPLAY (R239): every flit held from a SEQ on is sent again; the eighth replay of the oldest starts a fast retrain (R240). -/
def Chip.replay (c : Chip) (p seq : Nat) : Chip :=
  let l := c.link p
  let again := l.held.dropWhile (·.seq != seq)
  match again with
  | [] => c
  | first :: _ =>
    let held := l.held.takeWhile (·.seq != seq) ++ again.map fun h => { h with
      replays := if h.seq = first.seq then h.replays + 1 else h.replays, sentAt := c.now }
    let c := (((c.modLink p fun l => { l with held := held }).addFld F.BINOR_ERR_REPLAYS 1 p).post (srcBinor p) 0xB003 [p, again.length]).emit
      (.link p linkReplay seq)
    if (held.head?).any fun h => decide (h.replays ≥ 8) then c.fastRetrain p 1 else c

/-- ACK of a SEQ frees every flit up to it (R238). -/
def Chip.ackFlits (c : Chip) (p seq : Nat) : Chip :=
  if (c.link p).held.any (·.seq == seq) then
    (c.modLink p fun l => { l with held := (l.held.dropWhile (·.seq != seq)).drop 1, ackAt := c.now }).linkGo p
  else c

/-- LANE_FAULT (R246, R247): the receive lane is given up with a DEGRADE notice; on a direction that is ×1 already R240 applies. -/
def Chip.laneFault (c : Chip) (p lane cause : Nat) : Chip :=
  if !c.linkActive p || c.flag F.BINOR_STAT_RX_X1 p || (c.link p).notice.isSome then c
  else
    (((c.modLink p fun l => { l with notice := some lane }).addFld F.BINOR_ERR2_DEGRADES 1 p).post (srcBinor p) 0xB002 [p, 0, lane, cause]).emit
      (.link p linkDegrade lane)

/-- FEC of a flit (R233, R235, R246): corrected bytes are counted per lane; `none` is a codeword that cannot be corrected. -/
def Chip.fecCount (c : Chip) (p : Nat) (c0 c1 : Option Nat) : Chip :=
  let c := (c.addFld F.BINOR_ERR_FEC_CORR0 (c0.getD 0) p).addFld F.BINOR_ERR_FEC_CORR1 (c1.getD 0) p
  let c := c.modLink p fun l => { l with
    hist := ((c0.isNone, c1.isNone) :: l.hist).take 64
    corr0 := l.corr0 + c0.getD 0
    corr1 := l.corr1 + c1.getD 0 }
  let h := (c.link p).hist
  if (h.filter fun x => x.1 && !x.2).length ≥ 8 then c.laneFault p 0 1
  else if (h.filter fun x => x.2 && !x.1).length ≥ 8 then c.laneFault p 1 1
  else c

/-- A frame of the bridge has a known type and a LEN of R250 and R251. -/
def bframeOk (ftype len : Nat) : Bool :=
  match ftype with
  | 0x05 => len = 16
  | 0x81 => len = 32
  | 0x82 => decide (17 ≤ len ∧ len ≤ 4624)
  | 0x83 => len = 16
  | 0x86 => len = 34
  | _ => false

/-- FRAME_RESYNC (R258): the first unknown frame discards the stream up to the next frame start; event 0xB007. -/
def Chip.streamCheck (c : Chip) (p fstart : Nat) (frames : List (Nat × Nat × Nat)) : Chip :=
  if (c.link p).resync && fstart = 15 then c
  else
    let c := c.modLink p fun l => { l with resync := false }
    match frames.find? fun f => !bframeOk f.1 f.2.1 with
    | some f => (c.modLink p fun l => { l with resync := true }).post (srcBinor p) 0xB007 [p, f.2.2]
    | none => c

/-- The SEQ received last in order. -/
def Link.lastRx (l : Link) : Nat := seqAdd l.rxSeq 1023

/-- DATA_FLIT (R235, R238): FEC results per lane, FCRC, SEQ, FSTART and the headers (FTYPE, LEN, TAG) of the frames that begin in it. -/
def execDataFlit (port seq fstart : Nat) (c0 c1 : Option Nat) (crcOk : Bool) (frames : List (Nat × Nat × Nat)) (s : State) : Outcome :=
  onChip (fun c =>
    if !c.linkActive port then c
    else
      let c := c.fecCount port c0 c1
      let l := c.link port
      if !crcOk then
        ((c.addFld F.BINOR_ERR_CRC_FAIL 1 port).modLink port fun l => { l with discarding := true }).emit (.link port linkNak l.rxSeq)
      else if seq = l.rxSeq then
        let full := decide (l.unacked + 1 ≥ 16)
        let c := c.modLink port fun l => { l with
          rxSeq := seqAdd l.rxSeq 1, discarding := false, unacked := if full then 0 else l.unacked + 1 }
        let c := if full then c.emit (.link port linkAck seq) else c
        c.streamCheck port fstart frames
      else if l.discarding then c
      else (c.modLink port fun l => { l with discarding := true }).emit (.link port linkNak l.rxSeq)) s

/-- LINK_FLIT (R237, R239, R247, R248): ACK, then a DEGRADE notice with its DMARK, then NAK. -/
def execLinkFlit (port : Nat) (c0 c1 : Option Nat) (crcOk : Bool) (ack nak degrade : Option Nat) (s : State) : Outcome :=
  onChip (fun c =>
    if !c.linkActive port then c
    else
      let c := c.fecCount port c0 c1
      if !crcOk then c.addFld F.BINOR_ERR_CRC_FAIL 1 port
      else
        let c := match ack with
          | some a => c.ackFlits port a
          | none => c
        let c := match degrade with
          | some lane =>
            if c.flag F.BINOR_STAT_TX_X1 port then c
            else ((((c.setFld F.BINOR_STAT_TX_X1 1 port).setFld F.BINOR_STAT_TX_LANE (1 - lane % 2) port).post (srcBinor port) 0xB002
              [port, 1, lane, 0]).emit (.link port linkDmark (1 - lane % 2)))
          | none => c
        match nak with
        | some n => c.replay port n
        | none => c) s

/-- SKIP_FLIT (R234): it carries nothing; FEC and FCRC are counted as for any flit. -/
def execSkipFlit (port : Nat) (c0 c1 : Option Nat) (crcOk : Bool) (s : State) : Outcome :=
  onChip (fun c =>
    if !c.linkActive port then c
    else
      let c := c.fecCount port c0 c1
      if crcOk then c else c.addFld F.BINOR_ERR_CRC_FAIL 1 port) s

/-- SKIP_INSERT (R234): 1,023 other flits have been sent; those that were not frames were NULL flits. -/
def execSkipInsert (port : Nat) (s : State) : Outcome :=
  onChip (fun c => if c.linkActive port then (c.modLink port fun l => { l with sinceSkip := 0 }).emit (.link port linkSkip 0) else c) s

/-- ACK_TIMER_EXPIRY (R238). -/
def execAckTimerExpiry (port : Nat) (s : State) : Outcome :=
  onChip (fun c =>
    let l := c.link port
    if c.linkActive port && decide (l.unacked > 0) then (c.modLink port fun l => { l with unacked := 0 }).emit (.link port linkAck l.lastRx)
    else c) s

/-- NAK_REPEAT_EXPIRY (R238). -/
def execNakRepeatExpiry (port : Nat) (s : State) : Outcome :=
  onChip (fun c =>
    let l := c.link port
    if c.linkActive port && l.discarding then c.emit (.link port linkNak l.rxSeq) else c) s

/-- REPLAY_TIMEOUT (R239): the oldest held flit has waited 10 µs since its last transmission. -/
def execReplayTimeout (port : Nat) (s : State) : Outcome :=
  onChip (fun c =>
    match (c.link port).held with
    | h :: _ => if c.linkActive port then (c.advanceTo (h.sentAt + us 10)).replay port h.seq else c
    | [] => c) s

/-- ACK_STALL_EXPIRY (R240): ACK has not advanced for 20 µs while flits are held. -/
def execAckStallExpiry (port : Nat) (s : State) : Outcome :=
  onChip (fun c =>
    let l := c.link port
    if c.linkActive port && !l.held.isEmpty then (c.advanceTo (l.ackAt + us 20)).fastRetrain port 2 else c) s

/-- FAST_RETRAIN (R243, BINORn_CTL): ignored unless STATE is ACTIVE. -/
def execFastRetrain (port : Nat) (s : State) : Outcome := onChip (fun c => c.fastRetrain port 0) s

/-- LANE_LOSS (R246). -/
def execLaneLoss (port lane : Nat) (s : State) : Outcome := onChip (fun c => c.laneFault port (lane % 2) 0) s

/-- FEC_WINDOW_EXPIRY (R246): more than FEC_THR corrected bytes on a lane in the window; a threshold of 0 is taken as 1. -/
def execFecWindowExpiry (port : Nat) (s : State) : Outcome :=
  onChip (fun c =>
    let thr := max 1 (c.fld F.BINOR_CTL_FEC_THR port)
    let l := c.link port
    let c := c.modLink port fun l => { l with corr0 := 0, corr1 := 0 }
    if l.corr0 > thr then c.laneFault port 0 2 else if l.corr1 > thr then c.laneFault port 1 2 else c) s

/-- A DMARK block on the surviving lane (R247): flits are taken ×1 from here. -/
def Chip.dmark (c : Chip) (port lane : Nat) : Chip :=
  match (c.link port).notice with
  | some d =>
    if c.linkActive port && lane % 2 != d then
      ((c.modLink port fun l => { l with notice := none, hist := [] }).setFld F.BINOR_STAT_RX_X1 1 port).setFld F.BINOR_STAT_RX_LANE (lane % 2) port
    else c
  | none => c

/-- DMARK_RECEIVED (R247). -/
def execDmarkReceived (port lane : Nat) (s : State) : Outcome := onChip (fun c => c.dmark port lane) s

/-- DEGRADE_NOTICE_REPEAT (R247): every 1 µs until a DMARK block arrives. -/
def execDegradeNoticeRepeat (port : Nat) (s : State) : Outcome :=
  onChip (fun c =>
    match (c.link port).notice with
    | some d => if c.linkActive port then c.emit (.link port linkDegrade d) else c
    | none => c) s

/-- SIGNAL_DETECTED (R241): signal on at least one lane of each direction; a direction with one lane trains ×1 on it. FORCE_X1 runs
lane 0 only. In LOCK of a fast retrain that firmware asked for, a degraded direction takes up every lane with signal again (R249). -/
def execSignalDetected (port : Nat) (rx tx : List Nat) (s : State) : Outcome :=
  onChip (fun c =>
    let again := c.linkState port = 2 && !(c.link port).full && decide ((c.link port).cause = 0)
    if c.linkState port != 1 && !again then c
    else
      let pick := fun ls : List Nat => if c.flag F.BINOR_CTL_FORCE_X1 port then ls.filter (· == 0) else (ls.filter (· < 2)).eraseDups
      match pick rx, pick tx with
      | r :: rs, t :: ts =>
        let c := (c.setFld F.BINOR_STAT_RX_X1 (b2n rs.isEmpty) port).setFld F.BINOR_STAT_RX_LANE (if rs.isEmpty then r else 0) port
        let c := (c.setFld F.BINOR_STAT_TX_X1 (b2n ts.isEmpty) port).setFld F.BINOR_STAT_TX_LANE (if ts.isEmpty then t else 0) port
        let c := c.modLink port fun l => { l with lanes := r :: rs }
        if again then c else c.trainState port 2
      | _, _ => c) s

/-- CDR_LOCK (R241): every lane with signal is locked at both ends; a fast retrain skips EQ. -/
def execCdrLock (port : Nat) (s : State) : Outcome :=
  onChip (fun c =>
    if c.linkState port != 2 then c
    else (c.modLink port fun l => { l with eqLocal := [], eqRemote := [] }).trainState port (if (c.link port).full then 3 else 4)) s

/-- HB_SEND (R264): every 500 µs while the heartbeat runs. -/
def execHbSend (port : Nat) (s : State) : Outcome :=
  onChip (fun c =>
    let l := c.link port
    if l.timers && !l.parking then
      (c.modLink port fun l => { l with hbOut := (l.hbOut + 1) % 2 ^ 32 }).sendFrame port 5 0 none .hb 0 [l.hbOut, 0]
    else c) s

/-- Operations of a port: queued on its dies, posted to its sequencer. -/
def Chip.portOps (c : Chip) (p : Nat) (f : Die → List Nat) : List Nat :=
  (c.m.dies.filter fun e => memberOf e.1 == p).flatMap fun e => f e.2

/-- PARK (R270, BINORn_CTL): ignored unless the port is ACTIVE and idle. -/
def execPark (port : Nat) (s : State) : Outcome :=
  onChip (fun c =>
    let busy := c.m.dies.any fun e => memberOf e.1 == port && (e.2.susp.isSome || !e.2.queue.isEmpty || !e.2.posted.isEmpty)
    if c.linkActive port && !busy then c.modLink port fun l => { l with parking := true } else c) s

/-- PARK_COMPLETE (R270): every DATA flit is acknowledged. -/
def execParkComplete (port : Nat) (s : State) : Outcome :=
  onChip (fun c =>
    let l := c.link port
    if l.parking && l.held.isEmpty then
      ((((c.modLink port fun l => { l with parking := false, timers := false }).emit (.link port linkIdle 0)).setFld F.BINOR_STAT_STATE 0 port).setFld
        F.BINOR_STAT_PARKED 1 port).post (srcBinor port) 0xB00A [port]
    else c) s

end Sys2Proof.Machine
end

