-- ==== Sys2Proof/Machine/Sched.lean ====
section
/-! DEFINITION. SCHED: classes and deadlines of reads, the direct wait, suspend and resume, spillway and degraded reads
(R203 to R224, R227, R229, R358). -/

namespace Sys2Proof.Machine

/-- A read; change a read. -/
def Chip.rd (c : Chip) (i : Nat) : Option Rd := pget c.m.rds i
def Chip.modRd (c : Chip) (i : Nat) (g : Rd → Rd) : Chip := c.modM fun m => { m with rds := pmod m.rds i g }

/-- A time of the loaded profile in ns (R284). -/
def Chip.profNs (c : Chip) (f : Profile → Nat) : Nat := us ((c.m.profile.map f).getD 0)

/-- Nominal time of an operation (R217, R284). -/
def Chip.nominal (c : Chip) (o : Op) : Nat :=
  match o.rt with
  | .read | .readRetry | .softRead => c.profNs (if o.pslc then Profile.tRSlc else Profile.tR)
  | .programQlc => c.profNs Profile.tProg
  | .programSlc => c.profNs Profile.tProgSlc
  | .erase => c.profNs Profile.tBers
  | _ => 0

/-- Busy time of an operation, suspended intervals left out (R285, R305). -/
def Chip.elapsed (c : Chip) (o : Op) : Nat := o.ran + (if o.started && o.stage = .running then c.now - o.runAt else 0)

/-- remaining(x) of R217. -/
def Chip.remaining (c : Chip) (o : Op) : Nat := c.nominal o - c.elapsed o

/-- The operation that occupies a die's array (R206): the first posted that is not suspended, and no SUSPEND or RESUME. -/
def Chip.occupant (c : Chip) (d : Die) : Option Op :=
  (d.posted.filterMap c.op).find? fun (o : Op) => o.stage != .suspended && o.rt != .suspend && o.rt != .resume

/-- A QLC program or a QLC erase (R210). -/
def Op.mayPause (o : Op) : Bool := o.rt = .programQlc || (o.rt = .erase && !o.pslc)

/-- Suspends allowed, minimum run and hold of an operation (SCHED_SUSP, SCHED_RUN). -/
def Chip.suspMax (c : Chip) (o : Op) : Nat :=
  if o.rt = .erase then min 32 (c.fld F.SCHED_SUSP_ERS_SUSP_MAX) else min 8 (c.fld F.SCHED_SUSP_PRG_SUSP_MAX)
def Chip.minRun (c : Chip) (o : Op) : Nat :=
  us (if o.rt = .erase then max 200 (c.fld F.SCHED_RUN_ERS_MIN_RUN_US) else max 100 (c.fld F.SCHED_RUN_PRG_MIN_RUN_US))
def Chip.hold (c : Chip) (o : Op) : Nat := us (if o.rt = .erase then c.fld F.SCHED_RUN_ERS_HOLD_US else c.fld F.SCHED_RUN_PRG_HOLD_US)

/-- Suspend latency of an operation (R284). -/
def Chip.suspLat (c : Chip) (o : Op) : Nat := c.profNs (if o.rt = .erase then Profile.tSuspE else Profile.tSuspP)

/-- The conditions of R210 but the third and the fourth; the fourth; all of them. -/
def Chip.suspBase (c : Chip) (o : Op) : Bool :=
  c.flag F.SCHED_CTL_SUSP_EN && o.mayPause && !c.z.ledger.pfCommit && o.started && o.stage == .running
def Chip.ranEnough (c : Chip) (o : Op) : Bool := decide (c.now - o.runAt ≥ c.minRun o)
def Chip.suspendable (c : Chip) (o : Op) : Bool := c.suspBase o && decide (o.suspends < c.suspMax o) && c.ranEnough o

/-- R211: a read is entitled to suspend; `waited` is its wait so far. -/
def Chip.entitled (c : Chip) (k : Cls) (waited : Nat) : Bool :=
  k = .d0 || (k = .d1 && c.flag F.SCHED_CTL_D1_SUSP && decide (waited ≥ us (c.fld F.SCHED_DL_D1_SUSP_AGE_US)))

/-- Reads of a class and above queued on a die (R217). -/
def Chip.aheadOf (c : Chip) (d : Die) (k : Cls) : Nat :=
  ((d.queue.filterMap c.op).filter fun (o : Op) => o.rt.isRead && decide (o.cls.rank ≤ k.rank)).length

/-- READS_PER_SUSP as taken (SCHED_SUSP). -/
def Chip.readsPerSusp (c : Chip) : Nat := max 1 (c.fld F.SCHED_SUSP_READS_PER_SUSP)

/-- The last branches of R217 for an operation that is none or occupies the array; `minLeft` is what is left of its minimum run. -/
def Chip.runWait (c : Chip) (o : Op) (k : Cls) (waited minLeft : Nat) : Nat :=
  let base := c.flag F.SCHED_CTL_SUSP_EN && o.mayPause && !c.z.ledger.pfCommit && decide (o.suspends < c.suspMax o)
  if base && minLeft = 0 && c.entitled k waited then c.suspLat o
  else if base && c.entitled k waited then minLeft + c.suspLat o
  else c.remaining o

/-- wait of R217 in ns for a read of a class on a die; `none` is unbounded. -/
def Chip.waitOn (c : Chip) (die : Nat) (k : Cls) (waited : Nat) : Option Nat :=
  let d := c.die die
  let x := c.occupant d
  let rem := (x.map c.remaining).getD 0
  let ahead := c.aheadOf d k
  let tR := c.profNs Profile.tR
  if d.st = .blocked || d.faulted then none
  else match d.susp.bind c.op with
    | some s =>
      if s.stage = .suspended then
        let since := c.now - (d.confAt.getD c.now)
        let room := decide (d.served + ahead + 1 ≤ c.readsPerSusp ∧ since + rem + (ahead + 1) * tR ≤ c.hold s)
        if room then some (rem + ahead * tR) else some (rem + c.profNs Profile.tResume + c.runWait s k waited (c.minRun s))
      else some (c.suspLat s)
    | none =>
      match x with
      | none => some (ahead * tR)
      | some o =>
        if o.rt.isRead || !(o.rt.isProgram || o.rt = .erase) then some (rem + ahead * tR)
        else some (c.runWait o k waited (c.minRun o - (if o.started then c.now - o.runAt else 0)))

/-- Whether strip k of a row is lost: its chunk is reconstructed, or its member or die is gone (R218, R358). -/
def Chip.stripLost (c : Chip) (p r k : Nat) : Bool :=
  match c.stripPlace p r k with
  | some x => c.memberLost (memberOf x.1) || (c.die x.1).retired
  | none => true

/-- R218: every strip of the row reported success and at most one is lost. -/
def Chip.spillable (c : Chip) (r : Rd) : Bool :=
  match r.place with
  | some (p, row, _) => ((c.pool p).map Pool.done).any (·.contains row) &&
      decide (((List.range 18).filter (c.stripLost p row)).length ≤ 1)
  | none => false

/-- Spillway reads in flight, and R223. -/
def Chip.spillsInFlight (c : Chip) : Nat := (c.m.rds.filter fun e => e.2.spill).length
def Chip.withinCap (c : Chip) : Bool :=
  decide (c.spillsInFlight < min 4096 (c.fld F.SCHED_SPILL_INFLIGHT_MAX)) &&
  decide (c.m.spillStarted < max 16 (min 100 (c.fld F.SCHED_SPILL_MAX_PERMILLE) * c.m.prevReads / 1000))

/-- Strips of a row that may be read for another one: neither lost nor on a BLOCKED die (R219), with their waits; unbounded ones out. -/
def Chip.usableStrips (c : Chip) (p row k : Nat) (cls : Cls) : List (Nat × Nat) :=
  (List.range 18).filterMap fun j =>
    if j = k || c.stripLost p row j then none
    else (c.stripPlace p row j).bind fun x => (c.waitOn x.1 cls 0).map fun w => (j, w)

/-- The strips a degraded read or a rebuild chooses from (R358, R359): the usable ones of R219, and as a last resort those on BLOCKED dies, which
still hold usable chunks (log 64). -/
def Chip.degStrips (c : Chip) (p row k : Nat) (cls : Cls) : List (Nat × Nat) :=
  let u := c.usableStrips p row k cls
  u ++ ((List.range 18).filter fun j => j != k && !c.stripLost p row j && !(u.any fun s => s.1 == j)).map fun j => (j, 2 ^ 63)

/-- The 16 of the usable strips with the smallest waits: of 17, the one with the largest wait is left out (R219). -/
def pick16 (l : List (Nat × Nat)) : List Nat :=
  if l.length ≤ 16 then l.map (·.1)
  else
    let worst := l.foldl (fun (a : Nat × Nat) x => if x.2 ≥ a.2 then x else a) (18, 0)
    ((l.filter fun x => x.1 != worst.1).map (·.1)).take 16

/-- An entitled read first waits for an operation that only its used suspends keep from being suspended: event 0x3405, once (R229). -/
def Chip.noteRanOut (c : Chip) (i : Nat) (o : Op) : Chip :=
  if c.suspBase o && c.ranEnough o && decide (o.suspends ≥ c.suspMax o) && !o.ranOut then
    (c.modOp i fun o => { o with ranOut := true }).post srcSched 0x3405 [if o.rt = .erase then 1 else 0]
  else c

/-- Post an operation straight to a die's sequencer: SUSPEND and RESUME (R206, R272). -/
def Chip.postOp (c : Chip) (o : Op) : Chip :=
  let i := c.m.nextOp
  let o := { o with arrived := c.now, stage := .posted }
  (c.modM fun m => { m with ops := pset m.ops i o, nextOp := i + 1 }).modDie o.die fun d => { d with posted := d.posted ++ [i] }

/-- SUSPEND_REQUEST (R211): the operation in the array is suspendable and an entitled read waits. -/
def Chip.suspCheck (c : Chip) (die : Nat) : Chip :=
  let d := c.die die
  if d.st != .program && d.st != .erase then c
  else
    match d.posted.find? fun (i : Nat) => (c.op i).any fun (o : Op) => o.stage == .running && (o.rt.isProgram || o.rt == .erase) with
    | none => c
    | some i =>
      match c.op i with
      | none => c
      | some o =>
        let reads := (d.queue.filterMap c.op).filter fun (r : Op) => r.rt.isRead && c.entitled r.cls (c.now - r.arrived)
        if reads.isEmpty then c
        else if c.suspendable o then
          (c.modDie die fun d => { d with st := .suspending, susp := some i, suspAt := c.now, confAt := none, served := 0 }).postOp
            (mkOp .suspend die o.block o.wl o.pslc o.cls (.suspendOf i))
        else c.noteRanOut i o

/-- D0 and D1 reads that wait on a die. -/
def Chip.readsWait (c : Chip) (d : Die) : Bool :=
  d.queue.any fun (i : Nat) => (c.op i).any fun (o : Op) => o.rt.isRead && (o.cls == .d0 || o.cls == .d1)

/-- RESUME_ISSUE (R212): the suspended operation is resumed once the array is free and no read waits, enough were served, or the hold is
over. Otherwise the next operation is picked (R208). -/
def Chip.dieNext (c : Chip) (die : Nat) : Chip :=
  let d := c.die die
  match d.susp with
  | some i =>
    match c.op i with
    | none => c
    | some o =>
      if (d.st == .prgSusp || d.st == .ersSusp) && o.stage == .suspended && decide (d.posted.length ≤ 1) then
        let spent := decide (c.now ≥ d.confAt.getD c.now + c.hold o)
        if !c.readsWait d || decide (d.served ≥ c.readsPerSusp) || spent then
          (c.modDie die fun d => { d with st := if o.rt = .erase then .erase else .program, susp := none, confAt := none }).postOp
            (mkOp .resume die o.block o.wl o.pslc o.cls (.resumeOf i))
        else c.diePick die
      else c
  | none => c.diePick die

/-- The die's array is free: the state it goes back to (R209). -/
def Chip.arrayFree (c : Chip) (die : Nat) : Chip :=
  (c.modDie die fun d => { d with st :=
      if d.st = .blocked && d.faulted then .blocked
      else match d.susp with
        | some i => if ((c.op i).map fun (o : Op) => o.rt == .erase).getD false then .ersSusp else .prgSusp
        | none => .idle }).dieNext die

/-- The operation of a direct read. -/
def Chip.directOp (c : Chip) (i : Nat) (r : Rd) : Op :=
  { mkOp .read r.at_.die r.at_.block r.at_.wl r.at_.pslc r.cls (.read i) with
    cuFirst := r.at_.cu, deadline := r.deadline, arrived := c.now }

/-- Queue the direct read of a read on its die, with its deadline (R205, R208); the die may be suspended for it (R211). A host's read of a
member whose port is not On waits there (R503). -/
def Chip.queueRead (c : Chip) (i : Nat) : Chip :=
  match c.rd i with
  | none => c
  | some r =>
    let (c, o) := c.newOp (c.directOp i r)
    let c := c.modRd i fun r => { r with op := some o }
    (c.demand (domFg (memberOf r.at_.die / 6))).suspCheck r.at_.die

/-- Give a read its class and deadline (R203, R205). -/
def Chip.deadlineOf (c : Chip) (k : Cls) : Option Nat :=
  match k with
  | .d0 => some (c.now + us (max 80 (c.fld F.SCHED_DL_D0_DL_US)))
  | .d1 => some (c.now + us (c.fld F.SCHED_DL_D1_DL_US))
  | _ => none

/-- The class of a read by what it is for (R203). -/
def Chip.classOf (c : Chip) (r : Rd) : Cls :=
  match r.for_ with
  | .host t _ => ((c.ctx t).map c.hostCls).getD .d1
  | .merge _ _ => .d1
  | .part p _ => ((c.rd p).map Rd.cls).getD .b
  | _ => .b

/-- A constituent of a read (R219, R220): it carries the parent's class and deadline and is queued on its die. -/
def Chip.constituent (par : Nat) (c : Chip) (k : Nat) : Chip :=
  match c.rd par with
  | none => c
  | some r =>
    match r.place with
    | none => c
    | some (p, row, _) =>
      match c.stripPlace p row k with
      | none => c
      | some x =>
        let base := mkRd (.part par k) ⟨x.1, x.2.1, x.2.2, r.at_.cu, false⟩ (some (p, row, k)) none r.expect false
        let (c, i) := c.newRd { base with here := true, cls := r.cls, deadline := r.deadline, arrived := c.now }
        (c.modRd par fun r => { r with parts := pset r.parts k i }).queueRead i

/-- SPILLWAY_START (R219, R223, R229): 16 constituents of the strips with the smallest waits. Cause: 1 arrival, 2 BLOCKED die, 3 hard
failure. -/
def Chip.startSpill (c : Chip) (i cause : Nat) (ks : List Nat) : Chip :=
  let c := (c.modRd i fun r => { r with spill := true }).modM fun m => { m with spillStarted := m.spillStarted + 1 }
  let c := (c.addFld F.SCHED_CNT_SPILLS 1).post srcSched 0x3401 [cause]
  ks.foldl (Chip.constituent i) c

/-- DEGRADED_READ (R358): 16 usable chunks of the row, outside the cap. -/
def Chip.startDegraded (c : Chip) (i : Nat) : Chip :=
  match c.rd i with
  | some r =>
    match r.place with
    | some (p, row, k) => (pick16 (c.degStrips p row k r.cls)).foldl (Chip.constituent i) (c.modRd i fun r => { r with degraded := true })
    | none => c
  | none => c

/-- Spill a read if R217's last test, R218 and R223 allow it and 16 strips are usable; a read refused by the cap alone is counted. -/
def Chip.trySpill (c : Chip) (i cause : Nat) (late : Bool) : Chip × Bool :=
  match c.rd i with
  | none => (c, false)
  | some r =>
    match r.place with
    | none => (c, false)
    | some (p, row, k) =>
      let ks := pick16 (c.usableStrips p row k r.cls)
      if c.flag F.SCHED_CTL_SPILL_EN && late && c.spillable r && ks.length = 16 then
        if c.withinCap then (c.startSpill i cause ks, true)
        else ((c.addFld F.SCHED_CNT2_SPILL_CAPPED 1).modM fun m => { m with spillNoted := m.spillNoted + 1 }, false)
      else (c, false)

/-- R217's test of a D0 read, or a D1 read while D1_SPILL is 1. -/
def Chip.spillClass (c : Chip) (k : Cls) : Bool := k = .d0 || (k = .d1 && c.flag F.SCHED_CTL_D1_SPILL)

/-- The direct wait makes the read late. -/
def Chip.tooLate (c : Chip) (r : Rd) : Bool :=
  match c.waitOn r.at_.die r.cls 0 with
  | none => true
  | some w => (r.deadline.map fun d => decide (c.now + w + us (c.fld F.SCHED_SPILL_SERVICE_US + c.fld F.SCHED_SPILL_MARGIN_US) > d)).getD false

/-- The copy of a basin chunk whose die has the smaller wait, and of two equal waits the one on the lower-numbered member (R169, R218). -/
def Chip.basinSide (c : Chip) (r : Rd) : Rd :=
  match r.other with
  | some b =>
    let w := fun (x : Chunk) => if c.memberLost (memberOf x.die) then 2 ^ 63 else (c.waitOn x.die r.cls 0).getD (2 ^ 62)
    if w b < w r.at_ || (w b == w r.at_ && decide (memberOf b.die < memberOf r.at_.die)) then { r with at_ := b, other := some r.at_ } else r
  | none => r

/-- D1_SUSPEND_AGE_EXPIRY (R211): a queued D1 read has waited D1_SUSP_AGE_US. -/
def execD1SuspendAgeExpiry (op : Nat) (s : State) : Outcome :=
  onChip (fun c =>
    match c.op op with
    | some o =>
      if o.cls = .d1 && o.stage = .queued then (c.advanceTo (o.arrived + us (c.fld F.SCHED_DL_D1_SUSP_AGE_US))).suspCheck o.die else c
    | none => c) s

/-- MIN_RUN_EXPIRY (R210, R211): a program or erase has run its minimum. -/
def execMinRunExpiry (op : Nat) (s : State) : Outcome :=
  onChip (fun c =>
    match c.op op with
    | some o =>
      if o.started && o.stage = .running && (o.rt.isProgram || o.rt = .erase) then (c.advanceTo (o.runAt + c.minRun o)).suspCheck o.die else c
    | none => c) s

/-- SUSPEND_HOLD_EXPIRY (R212): the hold of a die's suspension is over. -/
def execSuspendHoldExpiry (die : Nat) (s : State) : Outcome :=
  onChip (fun c =>
    let d := c.die die
    match d.susp.bind c.op, d.confAt with
    | some o, some t => if o.stage = .suspended then (c.advanceTo (t + c.hold o)).dieNext die else c
    | _, _ => c) s

/-- A read that leaves its die's queue. -/
def Chip.unqueue (c : Chip) (i : Nat) : Chip :=
  match (c.rd i).bind Rd.op with
  | some o => (c.dropOp o).modRd i fun r => { r with op := none }
  | none => c

/-- The reads that wait on a die that became BLOCKED are tested again (R215, R217, R221): one that is spilled leaves the queue. -/
def Chip.reconsider (c : Chip) (die : Nat) : Chip :=
  let waiting := ((c.die die).queue.filterMap c.op).filterMap fun (o : Op) => match o.purpose with
    | .read r => some r
    | _ => none
  waiting.foldl (fun c r =>
    if (c.rd r).any fun (x : Rd) => c.spillClass x.cls && !x.spill then
      let (c, done) := c.trySpill r 2 true
      if done then c.unqueue r else c
    else c) c

/-- A die becomes BLOCKED (R209, R215). -/
def Chip.blockDie (c : Chip) (die : Nat) : Chip := (c.modDie die fun d => { d with st := .blocked }).reconsider die

/-- LATENCY_SNAPSHOT (R227, SCHED_LATCTL): the live histograms are copied and cleared; SNAP clears. -/
def execLatencySnapshot (s : State) : Outcome :=
  onChip (fun c =>
    let c := (List.range 192).foldl (fun c i => c.setFld F.SCHED_LATBIN_COUNT (mget 0 c.m.hist i) i) c
    (c.modM fun m => { m with hist := [] }).setFld F.SCHED_LATCTL_SNAP 0) s

/-- SPILL_WINDOW_ROLLOVER (R223): event 0x3402 for a window in which the cap refused reads. -/
def execSpillWindowRollover (s : State) : Outcome :=
  onChip (fun c =>
    let c := if c.m.spillNoted > 0 then c.post srcSched 0x3402 [c.m.spillNoted] else c
    c.modM fun m => { m with spillStarted := 0, spillNoted := 0, prevReads := m.winReads, winReads := 0 }) s

end Sys2Proof.Machine
end

