-- ==== Sys2Proof/Machine/Redundancy.lean ====
section
/-! DEFINITION. STRIPE's redundancy: degraded slots, lost members and retired dies, lost rows, the choice and the progress of a rebuild,
journal re-mirroring after a loss (R155, R159, R354, R358 to R374). -/

namespace Sys2Proof.Machine

/-- Rows of a pool programmed so far. -/
def Pool.rows (p : Pool) : Nat := p.done.foldl (fun a r => max a (r + 1)) 0

/-- The members whose slots are degraded (STRIPE_MEMSTAT.LOST). -/
def Chip.setLost (c : Chip) (m : Nat) (on : Bool) : Chip :=
  let w := c.fld F.STRIPE_MEMSTAT_LOST
  let ms := (bitsSet 36 w).filter (· != m)
  c.setFld F.STRIPE_MEMSTAT_LOST (maskOf (if on then m :: ms else ms))

/-- Degraded chunks of row r of a pool (R355, R366). -/
def Pool.degradedIn (p : Pool) (r : Nat) : Nat := (p.slots.filter fun s => s.pstate != 0 && (s.readPlace r).isNone).length

/-- Critical rows of a pool (R366). -/
def Pool.critRows (p : Pool) : List Nat := p.done.filter fun r => decide (p.degradedIn r ≥ 2)

/-- Critical rows of the drive, slots without a spare, degraded slots. -/
def Chip.critRows (c : Chip) : Nat := (c.m.pools.map fun e => e.2.critRows.length).sum
def Chip.noSpare (c : Chip) : Nat := (c.m.pools.map fun e => (e.2.slots.filter fun s => s.pstate == 4).length).sum
def Chip.degMax (c : Chip) : Nat := min 2 ((c.m.pools.map fun e => (e.2.done.map e.2.degradedIn).foldl max 0).foldl max 0)

/-- SLOT_DEGRADE (R358): the slots a test picks take PSTATE 0x1 and CAUSE; a rebuild or forward block that is gone is forgotten. -/
def degradeSlot (gone : Nat → Bool) (cause : Nat) (s : Slot) : Slot :=
  let s1 := match s.f with
    | some (d, _, _) => if gone d then { s with f := none, pstate := if s.pstate = 0 then 1 else s.pstate, cause := cause } else s
    | none => s
  let s2 := match s1.r with
    | some (d, _) => if gone d then { s1 with r := none, rDone := 0, pstate := 1, cause := cause } else s1
    | none => s1
  if s2.pstate = 0 && gone s2.die then { s2 with pstate := 1, cause := cause } else s2

/-- Slots with a block on what is gone. -/
def Slot.on (gone : Nat → Bool) (s : Slot) : Bool :=
  (gone s.die && s.pstate != 3) || (s.r.map fun x => gone x.1).getD false || (s.f.map fun x => gone x.1).getD false

/-- Degrade the slots of what is gone; the pools' table segments have changed (R358). The number of slots is returned. -/
def Chip.degrade (c : Chip) (gone : Nat → Bool) (cause : Nat) : Chip × Nat :=
  let hit := c.m.pools.filter fun e => e.2.ptstate != 0 && e.2.slots.any (Slot.on gone)
  let n := (hit.map fun e => (e.2.slots.filter (Slot.on gone)).length).sum
  let c := hit.foldl (fun c e => (c.modPool e.1 fun p => { p with slots := p.slots.map (degradeSlot gone cause) }).touch (segPools e.1)) c
  (c, n)

/-- CRITICAL_ROWS (R366): event 0x4005 when a loss makes rows critical. -/
def Chip.critCheck (c : Chip) (before unit : Nat) : Chip :=
  if c.critRows > before then c.post srcStripe 0x4005 [unit, c.critRows] else c

/-- Rebuild of a member or die starts (R362): event 0x4003, the slots to rebuild. -/
def Chip.startRebuild (c : Chip) (unit : Nat) (isDie : Bool) (slots : Nat) : Chip :=
  if c.m.jobs.contains (unit, isDie) then c
  else
    (c.modM fun m => { m with
      jobs := m.jobs ++ [(unit, isDie)]
      rbStart := if m.jobs.isEmpty then c.stamp else m.rbStart
      rbStartNs := if m.jobs.isEmpty then c.now else m.rbStartNs
      slotsTotal := if m.jobs.isEmpty then slots else m.slotsTotal + slots
      slotsDone := if m.jobs.isEmpty then 0 else m.slotsDone
      rbLost := if m.jobs.isEmpty then 0 else m.rbLost }).post srcStripe 0x4003 [unit, slots]

/-- Write protection of GWRX9-C18-S (R4, R374): every namespace while a member is lost; the hosts are told. -/
def Chip.protect (c : Chip) (on : Bool) : Chip :=
  let c := c.modZ fun z => { z with nss := z.nss.map fun e => (e.1, { e.2 with wp := on }) }
  if on then ((List.range 4).map (· * 256)).foldl (fun c f => c.asyncEvent f (.criticalWarning 8)) c else c

/-- Program the next page of a copy of a journal cistern. -/
def Chip.copyNext (c : Chip) (x : JCopy) : Chip :=
  (c.newOp (mkOp .programSlc (x.dst / 4096) (x.dst % 4096) (x.pages - x.left) true .d1 (.copyPage x.dst (x.pages - x.left)))).1

/-- Re-mirroring after a loss ends with its last cistern: event 0x4009 (R370). -/
def Chip.remirrorOver (c : Chip) (m : Nat) : Chip :=
  if c.m.copies.any fun x => x.lost == some m then c
  else match c.m.remirror.find? (·.1 == m) with
    | some (_, n, t0) => (c.modM fun y => { y with remirror := y.remirror.filter (·.1 != m) }).post srcStripe 0x4009 [m, n, (c.now - t0) / ms 1]
    | none => c

/-- A journal cistern is copied whole: it is a copy of its frames now, in the place of the one it replaces. If its frames were discarded since, it is
free again. -/
def Chip.copyDone (c : Chip) (x : JCopy) : Chip :=
  let c := c.modM fun m => { m with copies := m.copies.filter (· != x) }
  let swap := fun (ks : List Nat) => if ks.contains x.src then (ks.filter fun k => some k != x.old) ++ [x.dst] else ks
  let c :=
    if (c.z.journal.retained.any fun r => r.2.contains x.src) then
      let c := c.modJ fun j => { j with retained := j.retained.map fun r => (r.1, swap r.2) }
      (match x.old with
        | some k => c.freeCistern k
        | none => c)
    else c.freeCistern x.dst
  match x.lost with
  | some m => c.remirrorOver m
  | none => c

/-- Copy a retained journal cistern from `src` to a fresh cistern: of the member `on`, or of one that holds no copy of it (R333, R370, R577). -/
def Chip.copyJournal (c : Chip) (src : Nat) (on old lost : Option Nat) : Chip :=
  match c.z.journal.retained.find? fun r => r.2.contains src with
  | none => c
  | some r =>
    let used := r.2.map fun x => memberOf (x / 4096)
    let pages := (c.bst (src / 4096) (src % 4096)).ptr
    match on.or ((c.copyMembers 36).find? fun k => !used.contains k) with
    | none => c
    | some k =>
      match c.takeCistern k 2 with
      | (c, none) => c
      | (c, some (d, b)) =>
        let x : JCopy := ⟨src, bkey d b, pages, pages, old, lost⟩
        let c := c.modM fun m => { m with copies := m.copies ++ [x] }
        if pages = 0 then c.copyDone x else c.copyNext x

/-- A page of a copy was programmed: the next one follows, or the cistern is copied; a failed one starts the copy anew elsewhere. -/
def Chip.copyPage (c : Chip) (dst page : Nat) (ok : Bool) : Chip :=
  match c.m.copies.find? fun x => x.dst == dst && decide (x.pages - x.left = page) with
  | none => c
  | some x =>
    if ok then
      let y := { x with left := x.left - 1 }
      let c := c.modM fun m => { m with copies := m.copies.map fun z => if z = x then y else z }
      if y.left = 0 then c.copyDone y else c.copyNext y
    else
      let c := (c.modM fun m => { m with copies := m.copies.filter (· != x) }).copyJournal x.src none x.old x.lost
      match x.lost with
      | some m => c.remirrorOver m
      | none => c

/-- JOURNAL_REMIRROR (R370): a member with journal copies is lost: the trio is replaced, and each retained cistern with a copy there gets a
fresh copy on a member that holds none. -/
def Chip.remirror (c : Chip) (m : Nat) : Chip :=
  let c := if c.z.journal.trio.contains m && !c.z.journal.trioCist.isEmpty then c.replaceTrio else c
  let on := fun x => memberOf (x / 4096) == m
  let hit := c.z.journal.retained.filter fun r => r.2.any on
  let c := c.modJ fun j => { j with retained := j.retained.map fun r => (r.1, r.2.filter fun x => !on x) }
  if hit.isEmpty then c
  else
    let c := c.modM fun y => { y with remirror := y.remirror ++ [(m, hit.length, c.now)] }
    let c := hit.foldl (fun (c : Chip) r => match r.2.find? fun x => !on x with
      | some src => c.copyJournal src none none (some m)
      | none => c) c
    c.remirrorOver m

/-- A frame program failed on one mirror (R577): event 0x4011, the trio is replaced, and what was durable in the failed cistern is copied. -/
def Chip.frameFailed (c : Chip) (die block no : Nat) : Chip :=
  let k := bkey die block
  let c := (c.post srcStripe 0x4011 [memberOf die, no]).replaceTrio
  match c.z.journal.retained.find? fun r => r.2.contains k with
  | none => c
  | some r =>
    let c := c.modJ fun j => { j with retained := j.retained.map fun q => if q = r then (q.1, q.2.filter (· != k)) else q }
    match r.2.find? (· != k) with
    | some src => c.copyJournal src none none none
    | none => c

/-- THREE_COPY_PASS and the basin after a loss (R372): three-copy segments with a copy on the member are rewritten at once; landing
cisterns there leave the reserve. -/
def Chip.threeCopies (c : Chip) (m : Nat) : Chip :=
  let on := fun x => memberOf (x / 4096) == m
  let hit := c.z.segs.filter fun e => e.1 ≥ segZones && e.2.bestCists.any on
  let c := c.modZ fun z => { z with landRes := z.landRes.filter fun x => !on x }
  if hit.isEmpty then c
  else
    let c := hit.foldl (fun c e => c.touch e.1) c
    let c := c.modM fun y => { y with three := match y.three with
      | some (n, left, t0) => some (n + hit.length, (left ++ hit.map (·.1)).eraseDups, t0)
      | none => some (hit.length, hit.map (·.1), c.now) }
    hit.foldl (fun c e => c.snapshot e.1) (c.modZ fun z => { z with passSegs := (z.passSegs ++ hit.map (·.1)).eraseDups })

/-- The slots of a lost member are degraded and everything with copies on it is replaced (R358, R362, R366, R370, R372, R374). -/
def Chip.stripeLost (c : Chip) (m : Nat) : Chip :=
  let before := c.critRows
  let (c, n) := c.degrade (fun d => memberOf d == m) 1
  let c := c.modM fun y => { y with degUnits := if y.degUnits.contains (m, false) then y.degUnits else y.degUnits ++ [(m, false)] }
  let c := ((c.setLost m true).post srcStripe 0x4001 [m, n]).critCheck before m
  let c := (c.remirror m).threeCopies m
  if c.fuses.grade = 2 then c.protect true
  else if c.flag F.STRIPE_CTL_RB_AUTO && n > 0 then c.startRebuild m false n else c

/-- A die is retired (R358): its slots are degraded. -/
def Chip.stripeRetire (c : Chip) (d : Nat) : Chip × Nat :=
  let before := c.critRows
  let (c, n) := (c.modDie d fun x => { x with retired := true }).degrade (fun x => x == d) 2
  let c := c.modM fun m => { m with retired := m.retired + 1, degUnits := m.degUnits ++ [(d, true)] }
  ((c.post srcStripe 0x4002 [d, n]).critCheck before d, n)

/-- MEMBER_TAKE_BACK (R368, R374): no pool names the member in a degraded slot: its blocks named by a rebuilt slot or by no pool are erased
and become spares. On GWRX9-C18-S the write protection goes with the last lost member. -/
def Chip.takeBack (c : Chip) (m : Nat) : Chip :=
  let waits := c.m.pools.any fun e => e.2.ptstate != 0 && e.2.slots.any fun s => memberOf s.die == m && (s.pstate == 1 || s.pstate == 2 || s.pstate == 4)
  if waits || !bitOf (c.fld F.STRIPE_MEMSTAT_LOST) m then c
  else
    let named := c.m.pools.flatMap fun e => if e.2.ptstate = 0 then [] else (e.2.slots.filter fun s => s.pstate != 3).map fun s => bkey s.die s.block
    let mine := (c.m.bst.filter fun e => memberOf (e.1 / 4096) == m && !e.2.bad && decide (e.2.owner ≤ 4) && !named.contains e.1).map (·.1)
    let free := fun (c : Chip) (k : Nat) =>
      ((c.modBst (k / 4096) (k % 4096) fun b => { b with owner := 6, st := .incomplete }).newOp
        (mkOp .erase (k / 4096) (k % 4096) 0 (decide (k % 4096 ≥ c.blocks - 24)) .b (.blockErase 4))).1
    let c := (mine.foldl free ((c.setLost m false).modM fun y => { y with degUnits := y.degUnits.filter (· != (m, false)) })).post srcStripe 0x400E [m, mine.length]
    if c.fuses.grade = 2 && c.fld F.STRIPE_MEMSTAT_LOST = 0 then (c.protect false).post srcStripe 0x400F [m] else c

/-! Lost rows (R155, R159, R367) -/

/-- The zone bound to a pool. -/
def Chip.zoneOfPool (c : Chip) (p : Nat) : Option Nat := (c.z.zones.find? fun e => e.2.pool == some p || e.2.newPool == some p).map (·.1)

/-- Map indices that point into a pool, with their entries. -/
def Chip.entriesOf (c : Chip) (p : Nat) : List (Nat × Nat) := c.z.map.filter fun e => match mapDecode e.2 with
  | .pool q _ => q == p
  | _ => false

/-- The namespace of a map index. -/
def Chip.nsOfIndex (c : Chip) (i : Nat) : Nat :=
  ((c.z.nss.find? fun e => !e.2.zoned && decide (e.2.base ≤ i ∧ i < e.2.base + (e.2.size + lbasPerUnit e.2.fmt - 1) / lbasPerUnit e.2.fmt)).map (·.1)).getD 0

/-- A range of map indices is lost: a MAP record, event 0x200A with its first LBA and count, and the notice (R155, R367). -/
def Chip.lostRange (c : Chip) (x : Nat × Nat) : Chip :=
  let nsid := c.nsOfIndex x.1
  let per := c.perOf nsid
  let seq := c.fld F.CONF_SEQ_NEXT
  let c := (List.range x.2).foldl (fun (c : Chip) k => c.setMap (x.1 + k) mapLost) (c.setFld F.CONF_SEQ_NEXT (seq + 1))
  let c := (c.jAppend nsid seq (.map x.1 (List.replicate x.2 mapLost))).1
  (c.attached nsid).foldl (fun c f => c.asyncEvent f (.lbaStatus nsid)) (c.post srcZmap 0x200A [nsid, c.unitLba nsid none x.1, x.2 * per])

/-- ROW_LOST (R367): the row is marked, the zone becomes ZSRO, or the entries into the row become lost with MAP records. -/
def Chip.rowLost (c : Chip) (p r : Nat) (bad : Nat) : Chip :=
  if ((c.pool p).map Pool.lost).any (·.contains r) then c
  else
    let c := (c.modPool p fun q => { q with lost := r :: q.lost }).touch (segPools p)
    let entry := (c.entriesOf p).filter fun e => (e.2 % 2 ^ 19) / 1024 == r
    let g := c.zoneOfPool p
    let nsid := match g with
      | some g => (c.zone g).nsid
      | none => (entry.head?.map fun e => c.nsOfIndex e.1).getD 0
    let lba := match g with
      | some g => (c.zone g).zidx * 0x80000 + r * 1024
      | none => (entry.head?.map fun e => c.unitLba nsid none e.1).getD 0
    let ts := c.stamp
    let c := (c.post srcStripe 0x4006 [p, r, bad]).addFld F.STRIPE_CNT_ROWS_LOST 1
    let c := c.modM fun m => { m with
      lostList := ((p, r, nsid, lba, ts.1, ts.2) :: m.lostList).take 16
      rowsLost := m.rowsLost + 1
      rbLost := m.rbLost + 1
      patrol := { m.patrol with lost := m.patrol.lost + 1 } }
    match g with
    | some g =>
      let c := c.modZone g fun z => { z with st := .zsro, lostRows := r :: z.lostRows }
      (c.post srcZmap 0x2006 [nsid, (c.zone g).zidx, r]).zoneNotify g
    | none => (ranges entry).foldl (fun (c : Chip) x => c.lostRange x) c
where
  /-- Entries joined to ranges of map indices. -/
  ranges (l : List (Nat × Nat)) : List (Nat × Nat) := l.foldl (fun acc e => match acc.getLast? with
    | some (a, n) => if a + n = e.1 && n < 257 then acc.dropLast ++ [(a, n + 1)] else acc ++ [(e.1, 1)]
    | none => [(e.1, 1)]) []

/-! Rebuild (R361, R362, R364 to R366) -/

/-- The slots of a started rebuild (R362). A slot whose rebuild or forward block was lost goes with any rebuild. -/
def Chip.inJob (c : Chip) (s : Slot) : Bool :=
  c.m.jobs.contains (memberOf s.die, false) || c.m.jobs.contains (s.die, true) ||
    (!c.m.jobs.isEmpty && !c.memberLost (memberOf s.die) && !(c.die s.die).retired)

/-- Degraded slots of a pool that still have rows to rebuild. -/
def Pool.todo (p : Pool) : List Nat :=
  (List.range 18).filter fun j => (p.slots[j]?).any fun (s : Slot) => s.pstate == 1 || s.pstate == 2

/-- The earlier-degraded slot of a pool (R366): of the member or die that went first. -/
def Chip.earlierSlot (c : Chip) (q : Pool) : Option Nat :=
  (c.m.degUnits.findSome? fun u => q.todo.find? fun j => (q.slots[j]?).any fun s => if u.2 then s.die == u.1 else memberOf s.die == u.1).or q.todo.head?

/-- The rows a slot is rebuilt up to: the smaller of F_ROW and the programmed rows (R361). -/
def Pool.goal (p : Pool) (s : Slot) : Nat := match s.f with
  | some (_, _, r0) => min r0 p.rows
  | none => p.rows

/-- Priority of a pool's slots in a rebuild: 3 open zones and FDP open pools, 5 reclaim victims, otherwise 4 (R362). -/
def Chip.rbPrio (c : Chip) (p : Nat) (q : Pool) : Nat :=
  if q.ptstate = 4 then 5
  else if (c.zoneOfPool p).any fun g => (c.zone g).st.isActive then 3
  else if c.z.handles.any fun h => h.2.pool == p then 3 else 4

/-- The next slot to rebuild once journal and segments are mirrored again: critical ones first where CRIT_AUTO allows, then by priority in ascending pool index (R362, R366). -/
def Chip.rbNext (c : Chip) : Option (Nat × Nat × Bool) :=
  if c.fuses.grade = 2 then none
  else
    if !c.m.remirror.isEmpty || c.m.three.isSome then none else
    let pools := c.m.pools.filter fun e => e.2.ptstate != 0 && e.2.ptstate != 3 && !e.2.todo.isEmpty
    let crit := if c.flag F.STRIPE_CTL_CRIT_AUTO then pools.find? fun e => !e.2.critRows.isEmpty else none
    match crit with
    | some (p, q) => (c.earlierSlot q).map fun j => (p, j, true)
    | none =>
      if c.flag F.STRIPE_CTL_RB_PAUSE then none
      else
        let mine := fun (e : Nat × Pool) => e.2.todo.find? fun j => (e.2.slots[j]?).any c.inJob
        [3, 4, 5].findSome? fun k => pools.findSome? fun e => if c.rbPrio e.1 e.2 = k then (mine e).map fun j => (e.1, j, false) else none

/-- A slot's rebuild is at its end: PSTATE 0x3, DEG falls (R361); the last slot of a job ends it with event 0x4004 (R376). -/
def Chip.slotRebuilt (c : Chip) (p j : Nat) : Chip :=
  let c := (c.modSlot p j fun s => { s with pstate := 3 }).touch (segPools p)
  let c := c.modM fun m => { m with slotsDone := m.slotsDone + 1, rbRow := none }
  let open_ := fun (c : Chip) (k : Nat × Bool) => c.m.pools.any fun e => e.2.ptstate != 0 && e.2.slots.any fun s =>
    (s.pstate == 1 || s.pstate == 2) && (if k.2 then s.die == k.1 else memberOf s.die == k.1)
  c.m.jobs.foldl (fun c k =>
    if open_ c k then c
    else
      let c := (c.modM fun m => { m with jobs := m.jobs.filter (· != k) }).post srcStripe 0x4004
        [k.1, (c.now - c.m.rbStartNs) / seconds 1, c.m.rbLost]
      if k.2 then c else if c.linkActive k.1 then c.takeBack k.1 else c) c

/-- The rebuild block of a slot (R361, R365): chosen once; erased first if need be. -/
def Chip.rbBlock (c : Chip) (p j : Nat) : Chip × Bool :=
  match (c.pool p).bind fun q => (q.slots[j]?).map fun s => (q, s) with
  | none => (c, false)
  | some (q, s) =>
    match s.r with
    | some (d, b) => (c, (c.bst d b).st != .erasing && (c.bst d b).st != .incomplete)
    | none =>
      match c.chooseSpare q with
      | none => ((c.modSlot p j fun s => { s with pstate := 4 }).post srcStripe 0x4008 [p, j, 1], false)
      | some (d, b) =>
        let ready := (c.bst d b).st == .erased && !(c.bst d b).pslc
        let c := (c.modBst d b fun x => { x with owner := 0 }).modSlot p j fun s => { s with r := some (d, b), rDone := 0, pstate := 2 }
        if ready then (c, true) else ((c.newOp (mkOp .erase d b 0 false .b (.spareErase p j))).1, false)

/-- REBUILD_MEMBER (R362, STRIPE_RBCMD OP 0b01): refused on GWRX9-C18-S, for a bad number, or with no degraded slot. -/
def execRebuildMember (m : Nat) (s : State) : Outcome :=
  onChip (fun c =>
    let n := (c.m.pools.map fun e => (e.2.slots.filter fun s => memberOf s.die == m && (s.pstate == 1 || s.pstate == 2)).length).sum
    let res := if c.fuses.grade = 2 then 3 else if !c.portIn m then 2 else if n = 0 then 1 else 0
    let c := ((c.setFld F.STRIPE_RBCMD_OP 1).setFld F.STRIPE_RBCMD_MEMBER m).setFld F.STRIPE_RBCMD_RESULT res
    if res = 0 then c.startRebuild m false n else c) s

/-- RETIRE_DIE (R358, R362, STRIPE_RBCMD OP 0b10). -/
def execRetireDie (die : Nat) (s : State) : Outcome :=
  onChip (fun c =>
    let res := if c.fuses.grade = 2 then 3 else if !c.portIn (memberOf die) then 2 else 0
    let c := (((c.setFld F.STRIPE_RBCMD_OP 2).setFld F.STRIPE_RBCMD_MEMBER (memberOf die)).setFld F.STRIPE_RBCMD_SCH (subOf die)).setFld
      F.STRIPE_RBCMD_DIE (die % 16)
    if res != 0 || (c.die die).retired then c.setFld F.STRIPE_RBCMD_RESULT res
    else
      let (c, n) := c.stripeRetire die
      let c := c.setFld F.STRIPE_RBCMD_RESULT 0
      if n = 0 then c else c.startRebuild die true n) s

end Sys2Proof.Machine
end

