-- ==== Sys2Proof/Machine/Deliver.lean ====
section
/-! DEFINITION. From the decoder to where a read is wanted: escalation, marks, address checks, reconstruction, delivery and failure
(R219 to R226, R313 to R324, R337, R357 to R359, R367). -/

namespace Sys2Proof.Machine

/-! Refresh marks (R324) -/

/-- The pin key a read's chunk is marked under. -/
def Rd.key (r : Rd) : Nat := match r.place with
  | some (p, _, _) => p
  | none => cisternKey r.at_.die r.at_.block

/-- REFRESH_MARK (R324): event 0x3506 for each new mark, and for a mark that becomes urgent. -/
def Chip.mark (c : Chip) (r : Rd) (cause bits : Nat) (urgent : Bool) : Chip :=
  let old := pget c.m.marks r.key
  if old = some true || (old = some false && !urgent) then c
  else
    let c := (c.modM fun m => { m with marks := pset m.marks r.key urgent }).post srcLdpc 0x3506 [r.key, cause, b2n urgent, bits]
    match r.for_ with
    | .patrol _ => (c.addFld F.PATROL_CNT_MARKS 1).modM fun m => { m with patrol := { m.patrol with marks := m.patrol.marks + 1 } }
    | _ => c

/-! Fields of a chunk (R314, R315) -/

def chunkNsid (b : List Byte) : Nat := numAt b 0x1040 4
def chunkKind (b : List Byte) : Nat := numAt b 0x1046 1
def chunkLba (b : List Byte) : Nat := numAt b 0x1048 8
def chunkSeq (b : List Byte) : Nat := numAt b 0x1050 8
def chunkFrag (b : List Byte) : List Byte := (b.drop 0x1058).take 8
def chunkDcrc (b : List Byte) : Nat := numAt b 0x1064 4
def selfPool (b : List Byte) : Nat := numAt b 0x1078 3
def selfRow (b : List Byte) : Nat := numAt b 0x107B 2
def selfStrip (b : List Byte) : Nat := numAt b 0x107D 1
def selfCu (b : List Byte) : Nat := numAt b 0x107E 1
def unitOf (b : List Byte) : List Byte := trimZeros (b.take 4160)

/-- Whether a read knows the logical address of its chunk (R322). -/
def RdFor.addressed : RdFor → Bool
  | .host .. | .merge .. | .reclaim .. | .fold .. | .seal .. => true
  | _ => false

/-- The cistern that holds the same pages as a cistern of a pair (R168, R169). -/
def Chip.twinOf (c : Chip) (k : Nat) : Option Nat :=
  c.z.pairs.findSome? fun e => if e.2.a == k then some e.2.b else if e.2.b == k then some e.2.a else none

/-- The pair a cistern belongs to. -/
def Chip.pairOf (c : Chip) (k : Nat) : Option Nat := (c.z.pairs.find? fun e => e.2.a == k || e.2.b == k).map (·.1)

/-- The copy of a basin chunk whose address did not match, while the other copy is read (R322). -/
def Chip.badAt (c : Chip) (r : Rd) : Chunk :=
  match if r.place.isNone then c.twinOf (bkey r.at_.die r.at_.block) else none with
  | some k => { r.at_ with die := k / 4096, block := k % 4096 }
  | none => r.at_

/-- R322: the logical address of a data chunk, and its physical one, are what the read expects. -/
def Chip.addrOk (c : Chip) (r : Rd) (b : List Byte) : Bool :=
  let log := !r.for_.addressed || decide (chunkNsid b = r.expect.1 ∧ chunkLba b = r.expect.2) || r.expect = (0, 0)
  match r.place with
  | some (p, row, k) => (log || decide (k ≥ 16)) && decide (selfPool b = p ∧ selfRow b = row ∧ selfStrip b = k ∧ selfCu b = r.at_.cu)
  | none =>
    let phys := match c.pairOf (bkey r.at_.die r.at_.block) with
      | some i => decide (selfPool b = i ∧ selfRow b = r.at_.wl ∧ selfStrip b = 255 ∧ selfCu b = r.at_.cu)
      | none => true
    match r.for_ with
    | .firmware _ => true
    | .patrol _ | .recover .. => phys
    | _ => log && phys

/-- R321: a zero syndrome whose DCRC does not match. P and Q hold the parity of the DCRCs and are not checked by it (log 18). -/
def miscorrected (r : Rd) (b : List Byte) : Bool :=
  match r.place with
  | some (_, _, k) => decide (k < 16) && chunkDcrc b != (Config.crc32c (b.take 0x1064)).toNat
  | none => chunkDcrc b != (Config.crc32c (b.take 0x1064)).toNat

/-! Where a unit goes -/

/-- The index of a host command's unit: the tweak of R408. -/
def Chip.hostUnit (c : Chip) (t u : Nat) : Nat × Nat :=
  match c.ctx t with
  | some x => (x.nsid, firstUnit (c.perOf x.nsid) (sqeSlba x.sqe) + u)
  | none => (0, 0)

/-- Put a copied unit in the next position of a row, with its source (R317, R337). -/
def Chip.copyInto (c : Chip) (i : Nat) (pos : Nat) (b : List Byte) (src : Option (Nat × Nat)) : Chip :=
  c.modRow i fun r => { r with
    units := pset r.units pos (padTo 4200 b)
    src := match src with
      | some e => pset r.src pos e
      | none => r.src
    lastSeq := max r.lastSeq (chunkSeq b)
    firstSeq := if r.units.isEmpty then chunkSeq b else min r.firstSeq (chunkSeq b) }

/-- The row of the reclaim pool with room, binding a pool when there is none (R340). -/
def Chip.reclaimRow (c : Chip) (victim : Nat) : Chip × Option Nat :=
  let openRow := fun (c : Chip) (op : OpenPool) =>
    let (c, i) := c.newRow op.pool op.nextRow (.reclaim victim)
    (c.modZ fun z => { z with reclaimPool := some { op with nextRow := op.nextRow + 1, rowId := some i } }, some i)
  let fresh := fun (c : Chip) =>
    match c.bindPool with
    | (c, some p) => openRow c ⟨p, 0, none, none⟩
    | (c, none) => (c, none)
  match c.z.reclaimPool with
  | none => fresh c
  | some op =>
    match op.rowId.bind c.row with
    | some r => if r.full || r.openJsn.isSome || r.abandoned then (if op.nextRow < 384 then openRow c op else fresh c) else (c, op.rowId)
    | none => if op.nextRow < 384 then openRow c op else fresh c

/-- The row of a handle's open pool that a fold fills (R170). -/
def Chip.foldRow (c : Chip) (h : Nat) : Chip × Option Nat :=
  let usable := ((pget c.z.foldRows h).bind c.row).any fun r => !(r.full || r.openJsn.isSome || r.abandoned)
  if usable then (c, pget c.z.foldRows h)
  else
    let place := fun (c : Chip) (op : OpenPool) =>
      let (c, i) := c.newRow op.pool op.nextRow (.fold h)
      (c.modZ fun z => { z with handles := pset z.handles h { op with nextRow := op.nextRow + 1 }, foldRows := pset z.foldRows h i }, some i)
    match pget c.z.handles h with
    | some op => if op.nextRow < 384 then place c op else match c.bindPool with
      | (c, some p) => place c ⟨p, 0, none, none⟩
      | (c, none) => (c, none)
    | none => match c.bindPool with
      | (c, some p) => place c ⟨p, 0, none, none⟩
      | (c, none) => (c, none)

/-- A row of copies that no further unit will fill is padded with filler (R170, R340; log 19). -/
def Chip.closeCopyRow (c : Chip) (i : Nat) : Chip :=
  match c.row i with
  | some r => if r.openJsn.isNone && !r.abandoned && !r.units.isEmpty then c.padRow i else c
  | none => c

/-- Map indices that point at a place. -/
def Chip.pointing (c : Chip) (e : Nat) : List Nat := (c.z.map.filter fun x => x.2 == e).map (·.1)

/-- A unit of a victim was read, or cannot be: it joins a reclaim row if its entry still points there (R337); a zone's unit keeps its
place in the new pool (R339). Without a pool for its rows a copy ends, and the victim can be taken again. -/
def Chip.reclaimUnit (c : Chip) (victim off : Nat) (b : Option (List Byte)) : Chip :=
  match pget c.m.victims victim with
  | none => c
  | some v =>
    let c := c.modM fun m => { m with victims := pset m.victims victim { v with reads := v.reads.filter (· != off) } }
    let c := match v.zone with
      | some g =>
        match (c.zone g).newPool with
        | none => c
        | some target =>
        let (c, i) := match c.findRow target (off / 1024) with
          | some i => (c, i)
          | none => c.newRow target (off / 1024) (.reclaim victim)
        match b with
        | some b => (c.copyInto i (off % 1024) b none).rowGo i
        | none => (c.modRow i fun r => { r with pads := off % 1024 :: r.pads }).rowGo i
      | none =>
        match b, c.pointing (mapPool victim off) with
        | some b, i0 :: _ =>
          match c.reclaimRow victim with
          | (c, some i) =>
            let pos := ((c.row i).map fun r => r.units.length).getD 0
            ((c.copyInto i pos b (some (i0, mapPool victim off))).addFld F.RECLAIM_CNT_UNITS_COPIED 1).rowGo i
          | (c, none) => (c.modM fun m => { m with victims := pdel m.victims victim }).modPool victim fun q => { q with ptstate := 2 }
        | _, _ => c.addFld F.RECLAIM_CNT_DISCARDED 1
    if v.reads.filter (· != off) = [] && v.zone.isNone && c.m.victims.all (fun e => e.2.reads.isEmpty) then
      match c.z.reclaimPool.bind OpenPool.rowId with
      | some i => c.closeCopyRow i
      | none => c
    else c

/-- A unit of a basin pair in fold was read, or cannot be (R170). Without a pool for its row the fold ends, and the pair can be folded again. -/
def Chip.foldUnit (c : Chip) (pair off : Nat) (b : Option (List Byte)) : Chip :=
  match pget c.m.folds pair with
  | none => c
  | some l =>
    let h := ((c.pair pair).map PairRec.handle).getD 0
    let left := l.filter (· != off)
    let c := c.modM fun m => { m with folds := pset m.folds pair left }
    let (c, room) := match b, c.pointing (mapBasin pair off) with
      | some b, i0 :: _ =>
        match c.foldRow h with
        | (c, some i) =>
          let pos := ((c.row i).map fun (r : RowRec) => r.units.length).getD 0
          ((c.copyInto i pos b (some (i0, mapBasin pair off))).rowGo i, true)
        | (c, none) => (c, false)
      | _, _ => (c, true)
    if !room then c.modM fun m => { m with folds := pdel m.folds pair }
    else if left.isEmpty then
      match pget c.z.foldRows h with
      | some i => c.closeCopyRow i
      | none => c
    else c

/-- Bits of a page patrol reads are gathered until its four code units are in (R348). -/
def Chip.patrolUnit (c : Chip) (page bits : Nat) (escalated : Bool) : Chip :=
  let p := c.m.patrol
  let e := (pget p.open_ page).getD (0, 0)
  let worst := max e.1 (if escalated then 496 else bits)
  let n := e.2 + 1
  if n ≥ 4 then c.modM fun m => { m with patrol := { p with open_ := pdel p.open_ page, hist := mset 0 p.hist (min 31 (worst / 16)) (mget 0 p.hist (min 31 (worst / 16)) + 1) } }
  else c.modM fun m => { m with patrol := { p with open_ := pset p.open_ page (worst, n) } }

/-- The key of the rebuild batch's request for tokens (R478). -/
def rbKey : Nat := 1

/-- The rebuild batch holds its tokens, or asks for them; one asks once (R478, R479). -/
def Chip.rbTokens (c : Chip) (crit : Bool) : Chip × Bool :=
  let mine := fun (l : List SlReq) => l.any fun (r : SlReq) => r.key == rbKey
  let c := if mine c.m.sluice.inUse || mine c.m.sluice.q1 || mine c.m.sluice.qb then c
    else c.askSluice ⟨rbKey, c.fld F.SLUICE_COST2_REBUILD_MW, if crit then .d1 else .b⟩
  (c, mine c.m.sluice.inUse)

/-- A rebuilt code unit is there (R361): when all 64 are, the row's strip is programmed; filler for a row that is lost (R367). -/
def Chip.rebuildUnit (c : Chip) (p j r cu : Nat) (b : Option (List Byte)) : Chip :=
  match c.m.rbRow with
  | none => c
  | some x =>
    if (x.pool, x.slot, x.row) != (p, j, r) then c
    else
      let k := (j + 18 - r % 18) % 18
      let got := pset x.got cu (b.getD fillerBytes)
      let c := c.modM fun m => { m with rbRow := some { x with got := got } }
      let c := if got.length < 64 then c else c.releaseTokens rbKey
      if got.length < 64 then c
      else match (c.pool p).bind fun q => (q.slots[j]?).bind Slot.r with
        | some (d, blk) =>
          let gone := ((c.pool p).map Pool.lost).any (·.contains r)
          let data := (List.range 64).map fun u => let g := (pget got u).getD []
            padTo 4200 (if gone then fillerBytes else g) ++ selfBytes (numAt g 0x1068 8) (numAt g 0x1070 8) p r k u
          (c.newOp (mkOp .programQlc d blk r false .b (.rebuildStrip p j r) data)).1
        | none => c.modM fun m => { m with rbRow := none }

/-- A verification that cannot read a unit ends; the row it was in is lost (R367, R387). -/
def Chip.sealGone (c : Chip) (g : Nat) : Chip := c.endJob g

/-- A read ends with its chunk: bytes 0x0000 to 0x1067 and whether it came from escalation. Constituents are handled apart. -/
def Chip.deliver (c : Chip) (i : Nat) (b : List Byte) (bits : Nat) (escalated : Bool) : Chip :=
  match c.rd i with
  | none => c
  | some r =>
    let c := c.endRd i
    match r.for_ with
    | .host t u =>
      let k := c.hostUnit t u
      c.unitArrives t u (c.decUnit k.1 k.2 (unitOf b)) .success true
    | .merge t u =>
      let k := c.hostUnit t u
      c.mergeArrives t u (c.decUnit k.1 k.2 (unitOf b)) true
    | .patrol page => c.patrolUnit page bits escalated
    | .reclaim v off => c.reclaimUnit v off (some b)
    | .fold p off => c.foldUnit p off (some b)
    | .rebuild p j row _ cu => c.rebuildUnit p j row cu (some b)
    | .seal g u => c.sealUnit g u (unitOf b) (chunkFrag b)
    | .recover rowId k cu =>
      ((c.modRow rowId fun x => { x with units := pset x.units (64 * k + cu) (padTo 4200 b) }).rowGo rowId).recoverGo rowId
    | .firmware _ => c.put (r.expect.1 + 4608 * (r.at_.cu - r.expect.2)) (padTo 4224 b)
    | .part .. | .discard => c

/-- A read ends without data. -/
def Chip.fail (c : Chip) (i : Nat) (lost : Bool) : Chip :=
  match c.rd i with
  | none => c
  | some r =>
    let c := c.endRd i
    match r.for_ with
    | .host t u =>
      let st := if lost then ((c.ctx t).map fun x => lostStatus x.kind).getD .unrecoveredRead else .unrecoveredRead
      c.unitArrives t u [] st false
    | .merge t u => c.mergeArrives t u [] false
    | .patrol page => c.patrolUnit page 0 true
    | .reclaim v off => c.reclaimUnit v off none
    | .fold p off => c.foldUnit p off none
    | .rebuild p j row _ cu => c.rebuildUnit p j row cu none
    | .seal g _ => c.sealGone g
    | .recover rowId k cu => ((c.modRow rowId fun x => { x with pads := (64 * k + cu) :: x.pads }).rowGo rowId).recoverGo rowId
    | _ => c

/-! Constituents (R219 to R224, R358, R359) -/

/-- Withdraw what a read still has outstanding: queued operations go, posted ones finish and are discarded. -/
def Chip.withdraw (c : Chip) (i : Nat) : Chip :=
  match (c.rd i).bind Rd.op with
  | some o => if (c.op o).any fun (x : Op) => x.stage == OpStage.queued then (c.dropOp o).endRd i
      else c.modRd i fun r => { r with for_ := .discard }
  | none => c.endRd i

/-- The constituents of a read are withdrawn. -/
def Chip.dropParts' (c : Chip) (i : Nat) : Chip :=
  match c.rd i with
  | some r => (r.parts.map (·.2)).foldl (fun c p => c.withdraw p) (c.modRd i fun r => { r with parts := [], got := [] })
  | none => c

/-- SPILLWAY_ABANDON (R220, R222): event 0x3404, cause 1 address check, 2 no replacement; the direct read stands, or is queued now. -/
def Chip.abandonSpill (c : Chip) (i cause : Nat) : Chip :=
  match c.rd i with
  | none => c
  | some r =>
    let row := (r.place.map fun p => p.2.1).getD 0
    let c := ((c.dropParts' i).modRd i fun r => { r with spill := false, failed := [] }).post srcSched 0x3404 [r.at_.die, row, cause]
    if r.op.isSome || r.await then c else c.queueRead i

/-- A degraded read has too few usable chunks: the row is lost (R359, R367). -/
def Chip.degradedLost (c : Chip) (i : Nat) : Chip :=
  match c.rd i with
  | none => c
  | some r =>
    let c := c.dropParts' i
    match r.place with
    | some (p, row, _) => (c.rowLost p row (max 3 r.failed.length)).fail i true
    | none => c.fail i false

/-- A constituent failed: the strip left over replaces it, or the read is abandoned or lost (R220, R358, R359). -/
def Chip.partFails (c : Chip) (par k : Nat) : Chip :=
  match c.rd par with
  | none => c
  | some r =>
    match r.place with
    | none => c
    | some (p, row, kk) =>
      let c := c.modRd par fun r => { r with parts := pdel r.parts k, failed := k :: r.failed }
      let from_ := if r.degraded then c.degStrips p row kk r.cls else c.usableStrips p row kk r.cls
      let spare := from_.find? fun s => s.1 != k && (pget r.parts s.1).isNone && (pget r.got s.1).isNone && !r.failed.contains s.1
      match spare with
      | some s => Chip.constituent par c s.1
      | none => if r.degraded then c.degradedLost par else c.abandonSpill par 2

/-- Whether a reconstruction used Q (R359): two chunks unusable, one of them data. -/
def usedQ (got : PMap (List Byte)) : Bool :=
  let miss := (List.range 18).filter fun j => (pget got j).isNone
  let data := (miss.filter fun j => decide (j < 16)).length
  (pget got 17).isSome && decide (data ≥ 1) && (decide (data ≥ 2) || (pget got 16).isNone)

/-- A constituent's chunk arrives: with 16 of them the chunk is reconstructed, checked and delivered (R219, R222, R357). -/
def Chip.partArrives (c : Chip) (par k : Nat) (b : List Byte) : Chip :=
  match c.rd par with
  | none => c
  | some r =>
    match r.place with
    | none => c
    | some (p, row, kk) =>
      let got := pset r.got k (b.take 0x1068)
      let c := c.modRd par fun r => { r with parts := pdel r.parts k, got := got }
      if got.length < 16 then c
      else
        let chunk := (reconstruct kk got).map fun x =>
          padTo 0x1068 x ++ selfBytes (numAt b 0x1068 8) (numAt b 0x1070 8) p row kk r.at_.cu
        let degRow := (c.pool p).any fun q => q.slots.any fun s => s.pstate != 0
        let c := if usedQ got && degRow then (c.addFld F.STRIPE_CNT_PQ_RECOV 1).post srcStripe 0x4007 [r.cls.rank] else c
        let c := c.dropParts' par
        match chunk with
        | none => if r.degraded then c.degradedLost par else c.abandonSpill par 1
        | some b =>
          let ok := !r.for_.addressed || r.expect = (0, 0) || decide (chunkNsid b = r.expect.1 ∧ chunkLba b = r.expect.2)
          if ok then
            let c := if r.mismatch then (c.mark r 4 0 true).post srcLdpc 0x3505 [r.at_.die, r.at_.block, r.at_.wl, r.at_.cu, 0] else c
            let c := match r.op with
              | some o => if (c.op o).any fun (x : Op) => x.stage == OpStage.queued then c.dropOp o else c
              | none => c
            c.deliver par b 0 true
          else if r.mismatch then (c.post srcLdpc 0x3505 [r.at_.die, r.at_.block, r.at_.wl, r.at_.cu, 1]).fail par false
          else if r.degraded then c.fail par false
          else c.abandonSpill par 1

/-- A degraded read starts: counted, event 0x400C (R358, R376); too few usable strips lose the row. -/
def Chip.degradedRead (c : Chip) (i : Nat) : Chip :=
  match c.rd i with
  | none => c
  | some r =>
    match r.place with
    | none => c.fail i false
    | some (p, row, k) =>
      let c := (c.addFld F.STRIPE_CNT_DEG_READS 1).post srcStripe 0x400C [r.cls.rank]
      if (c.degStrips p row k r.cls).length < 16 then (c.modRd i fun r => { r with degraded := true }).degradedLost i
      else c.startDegraded i

/-- A code unit is handed to reconstruction: from its row, or for a basin chunk from the other copy (R169, R323). -/
def Chip.handOver (c : Chip) (i : Nat) : Chip :=
  match c.rd i with
  | none => c
  | some r =>
    let c := c.modRd i fun r => { r with op := none, await := false }
    match r.for_ with
    | .part par k => (c.endRd i).partFails par k
    | .firmware _ => c.endRd i
    | _ =>
      match r.place with
      | some _ => if r.spill then c else c.degradedRead i
      | none =>
        match r.other with
        | some b => (c.modRd i fun r => { r with at_ := b, other := none, level := 0, idx := 0, best := 0, weight := 2 ^ 16 }).queueRead i
        | none =>
          let a := c.badAt r
          (if r.mismatch then c.post srcLdpc 0x3505 [a.die, a.block, a.wl, a.cu, 1] else c).fail i false

/-! Escalation (R319, R320, R323, R226) -/

/-- The page type of a code unit, and the hint field of its die (R279, R320, LDPC_HINT); values above 47 are taken as 0. -/
def hintField (ch : Chunk) : Fld :=
  if ch.pslc then F.LDPC_HINT_SLC
  else match ch.cu / 4 / 4 with
    | 0 => F.LDPC_HINT_LOWER
    | 1 => F.LDPC_HINT_MIDDLE
    | 2 => F.LDPC_HINT_UPPER
    | _ => F.LDPC_HINT_TOP
def Chip.hint (c : Chip) (ch : Chunk) : Nat :=
  let v := c.fld (hintField ch) ch.die
  if v > 47 then 0 else v

/-- Highest level for a class (LDPC_ESC). -/
def Chip.escMax (c : Chip) (k : Cls) : Nat :=
  min 4 (match k with
    | .d0 => c.fld F.LDPC_ESC_D0_MAX
    | .d1 => c.fld F.LDPC_ESC_D1_MAX
    | _ => c.fld F.LDPC_ESC_B_MAX)

/-- SWEEP_STEPS as taken. -/
def Chip.sweep (c : Chip) : Nat := c.clampFld F.LDPC_ESC_SWEEP_STEPS 1 47

/-- The next level after one that failed (R319). -/
def Chip.nextLevel (c : Chip) (r : Rd) : Option Nat :=
  let l := if r.level = 0 then (if c.flag F.LDPC_CTL_HINT_EN && c.hint r.at_ != 0 then 1 else 2) else r.level + 1
  if l ≤ c.escMax r.cls then some l else none

/-- MEDIA_UNRECOVERABLE (R323): event 0x3503, an urgent mark, and the hand-over. -/
def Chip.unrecoverable (c : Chip) (i : Nat) (r : Rd) : Chip :=
  let c := (c.addFld F.LDPC_CNT_MEDIA_UNCORR 1).post srcLdpc 0x3503 [r.at_.die, r.at_.block, r.at_.wl, r.at_.cu, r.cls.rank]
  let c := match r.for_ with
    | .patrol _ => c.modM fun m => { m with patrol := { m.patrol with uncorr := m.patrol.uncorr + 1 } }
    | _ => c
  (c.mark r 3 0 true).handOver i

/-- ESCALATION_STEP (R319): the read of the next level is posted through SCHED; event 0x3501. -/
def Chip.escalate (c : Chip) (i : Nat) (r : Rd) : Chip :=
  match c.nextLevel r with
  | none => c.unrecoverable i r
  | some l =>
    let c := c.post srcLdpc 0x3501 [l, r.cls.rank]
    let base := c.directOp i r
    let start := if l = 2 && c.flag F.LDPC_CTL_HINT_EN && c.hint r.at_ = 1 then 2 else 1
    let (o, idx) : Op × Nat := match l with
      | 1 => ({ base with retryIdx := c.hint r.at_ }, c.hint r.at_)
      | 2 => ({ base with rt := .readRetry, retryIdx := start, param := c.sweep }, start)
      | 3 => ({ base with rt := .softRead, retryIdx := r.best, param := 2 }, r.best)
      | _ => ({ base with rt := .softRead, retryIdx := r.best, param := 4 }, r.best)
    let (c, k) := c.newOp o
    c.modRd i fun r => { r with op := some k, level := l, idx := idx, await := false }

/-- A success is counted, marks are set and the hint follows (R318, R320, R324, R349). -/
def Chip.decoded (c : Chip) (r : Rd) (bits : Nat) : Chip :=
  let c := c.addFld F.LDPC_CNT2_DECODED 1
  let c := match r.for_ with
    | .patrol _ => if r.level > 0 then c.modM fun m => { m with patrol := { m.patrol with escalated := m.patrol.escalated + 1 } } else c
    | _ => c
  let c := if r.level ≥ 3 then
      ((c.addFld F.LDPC_CNT_SOFT_OK 1).post srcLdpc 0x3502 [r.at_.die, r.at_.block, r.at_.wl, r.at_.cu, r.level]).mark r 1 bits true
    else if r.level ≥ 1 then c.mark r 0 bits false
    else if bits ≥ max 1 (c.fld F.LDPC_THR_REFRESH_BITS) then c.mark r 2 bits false else c
  if r.level = 2 then c.setFld (hintField r.at_) r.idx r.at_.die
  else if r.level ≥ 3 && c.flag F.LDPC_CTL_HINT_EN && c.hint r.at_ != 0 then c.setFld (hintField r.at_) 0 r.at_.die
  else c

/-- A code unit of a read leaves its decoder: success is checked for its address (R322) and delivered; failure escalates, is replaced, or
starts a spillway read (R226). -/
def Chip.decodeDone (c : Chip) (i : Nat) (r : Rd) (d : DecodeRes) : Chip :=
  let mis := d.ok && miscorrected r d.bytes
  let c := if mis then (c.addFld F.LDPC_CNT_MISCORRECT 1).post srcLdpc 0x3504 [r.at_.die, r.at_.block, r.at_.wl, r.at_.cu, r.level] else c
  let c := c.modRd i fun r => { r with op := none, await := false }
  if d.ok && !mis then
    let c := c.decoded r d.bits
    if c.addrOk r d.bytes then
      match r.for_ with
      | .part par k => (c.endRd i).partArrives par k d.bytes
      | _ =>
        let a := c.badAt r
        let c := if r.mismatch then (c.mark { r with at_ := a } 4 0 true).post srcLdpc 0x3505 [a.die, a.block, a.wl, a.cu, 0] else c
        (c.dropParts' i).deliver i d.bytes d.bits (decide (r.level > 0))
    else
      let c := c.addFld F.LDPC_CNT2_ADDR_MISMATCH 1
      match r.for_ with
      | .part par k => (c.endRd i).partFails par k
      | _ =>
        if r.place.isSome || r.other.isSome then (c.modRd i fun r => { r with mismatch := true }).handOver i
        else (if r.mismatch then c else c.post srcLdpc 0x3505 [r.at_.die, r.at_.block, r.at_.wl, r.at_.cu, 1]).handOver i
  else
    let c := if r.level = 0 then c.addFld F.LDPC_CNT_HARD_FAIL 1 else c
    let r := if d.weight < r.weight then { r with weight := d.weight, best := r.idx } else r
    let c := c.modRd i fun x => { x with weight := r.weight, best := r.best }
    match r.for_ with
    | .part par k => if (c.rd par).any fun x => x.spill then (c.endRd i).partFails par k else c.escalate i r
    | _ =>
      let c := if r.level = 0 && r.cls = .d0 && !r.spill then (c.trySpill i 3 true).1 else c
      c.escalate i r

/-- A read's operation ended without data (R323): a die or member that is gone, or a target that is busy. Its code unit goes to
reconstruction. -/
def Chip.readOpFailed (c : Chip) (i : Nat) : Chip := c.handOver i

/-- A die is BLOCKED: reads that wait for it are tested again, constituents queued on it are replaced where another strip is usable, and
escalations end with a hand-over (R215, R217, R220, R323). -/
def Chip.dieBlocked (c : Chip) (die : Nat) : Chip :=
  let c := c.blockDie die
  let waiting := ((c.die die).queue.filterMap c.op).filterMap fun (o : Op) => match o.purpose with
    | .read r => some r
    | _ => none
  waiting.foldl (fun c i =>
    match c.rd i with
    | some r =>
      match r.for_, r.place with
      | .part par k, some (p, row, _) =>
        match c.rd par with
        | some x =>
          let kk := (x.place.map fun q => q.2.2).getD 18
          let spare := (c.usableStrips p row kk x.cls).any fun s => s.1 != k && (pget x.parts s.1).isNone && (pget x.got s.1).isNone && !x.failed.contains s.1
          if spare || x.spill then ((c.withdraw i).partFails par k).modRd par fun y => { y with failed := y.failed.filter (· != k) } else c
        | none => c
      | .part .., none => c
      | _, place => if r.level > 0 && (place.isSome || r.other.isSome) then (c.unqueue i).handOver i else c
    | none => c) c

/-- SUSPEND_STALL_EXPIRY (R215): a suspend not confirmed within STALL_US puts the die in BLOCKED; event 0x3403. -/
def execSuspendStallExpiry (die : Nat) (s : State) : Outcome :=
  onChip (fun c =>
    let d := c.die die
    match d.susp with
    | some i =>
      if d.st = .suspending then
        ((c.advanceTo (d.suspAt + us (max 30 (c.fld F.SCHED_SPILL_STALL_US)))).post srcSched 0x3403 [die, i]).dieBlocked die
      else c
    | none => c) s

/-- A read reaches SCHED (R203, R205, R217, R218, R358): class, deadline, then degraded read, spillway or its die. -/
def Chip.readArrives (c : Chip) (i : Nat) : Chip :=
  match c.rd i with
  | none => c
  | some r0 =>
    if r0.here then c
    else
      let k := c.classOf r0
      let dl := c.deadlineOf k
      let c := c.modRd i fun r => { r with here := true, cls := k, deadline := dl, arrived := c.now }
      let c := if k = .d0 || k = .d1 then c.modM fun m => { m with winReads := m.winReads + 1 } else c
      let c := match r0.for_ with
        | .host t _ => c.modCtx t fun x => { x with deadline := match x.deadline, dl with
            | some a, some b => some (min a b)
            | a, b => a.or b }
        | _ => c
      let c := c.modRd i c.basinSide
      match c.rd i with
      | none => c
      | some r =>
        let dead := r.place.isSome && (c.memberLost (memberOf r.at_.die) || (c.die r.at_.die).retired)
        if r.degraded || dead then c.degradedRead i
        else if c.spillClass k then
          let (c, done) := c.trySpill i 1 (c.tooLate r)
          if done then c else c.queueRead i
        else c.queueRead i

/-- SCHED_READ_ARRIVAL (R217). -/
def execSchedReadArrival (rd : Nat) (s : State) : Outcome := onChip (fun c => c.readArrives rd) s

/-- REBUILD_ROW (R361, R362, R478): the next row of the next slot is reconstructed once the batch has its tokens, one code unit after another
at the same offset; its program follows when all 64 are there. -/
def execRebuildRow (s : State) : Outcome :=
  onChip (fun c =>
    if c.m.rbRow.isSome then c
    else match c.rbNext with
      | none => c
      | some (p, j, crit) =>
        match c.rbBlock p j with
        | (c, false) => c
        | (c, true) =>
          match (c.pool p).bind fun q => (q.slots[j]?).map fun s => (q, s) with
          | none => c
          | some (q, s) =>
            let r := s.rDone
            if r ≥ q.goal s then c.slotRebuilt p j
            else
              match c.rbTokens crit with
              | (c, false) => c
              | (c, true) =>
              let k := (j + 18 - r % 18) % 18
              let c := c.modM fun m => { m with rbRow := some ⟨p, j, r, []⟩ }
              let one := fun (c : Chip) (cu : Nat) =>
                let rd := mkRd (.rebuild p j r k cu) ⟨0, 0, r, cu, false⟩ (some (p, r, k)) none (0, 0) true
                let (c, i) := c.newRd { rd with here := true, cls := if crit then .d1 else .b }
                if (c.degStrips p r k .b).length < 16 then c.degradedLost i else c.startDegraded i
              (List.range 64).foldl one c) s

end Sys2Proof.Machine
end

