-- ==== Sys2Proof/Machine/SeqBase.lean ====
section
/-! DEFINITION. The sequencers below their routines: frames of a routine, the block state table, erase cycles, firmware completions,
grown defects (R275, R278, R285 to R288, R290 to R294, R298, R309). -/

namespace Sys2Proof.Machine

/-- The code of a routine, and the routine of a code (R281). -/
def Routine.code : Routine → Nat
  | .read => 1
  | .readRetry => 2
  | .softRead => 3
  | .programQlc => 4
  | .programSlc => 5
  | .erase => 6
  | .suspend => 7
  | .resume => 8
  | .status => 9
  | .paramSet => 10
  | .dieIdentify => 11
  | .bridgeReg => 12
def routineOf : Nat → Option Routine
  | 1 => some .read
  | 2 => some .readRetry
  | 3 => some .softRead
  | 4 => some .programQlc
  | 5 => some .programSlc
  | 6 => some .erase
  | 7 => some .suspend
  | 8 => some .resume
  | 9 => some .status
  | 10 => some .paramSet
  | 11 => some .dieIdentify
  | 12 => some .bridgeReg
  | _ => none

/-- The code of a completion status (R282). -/
def SeqStatus.code : SeqStatus → Nat
  | .success => 0x00
  | .suspended => 0x01
  | .completedInstead => 0x02
  | .invalidDescriptor => 0x10
  | .notPermitted => 0x11
  | .targetNotErased => 0x12
  | .outOfOrder => 0x13
  | .modeMismatch => 0x14
  | .targetDefect => 0x15
  | .targetBusy => 0x16
  | .tooCold => 0x17
  | .programFail => 0x20
  | .eraseFail => 0x21
  | .dieTimeout => 0x30
  | .dieFault => 0x31
  | .bridgeError => 0x32
  | .memberLost => 0x33
  | .profileMismatch => 0x34

/-- The state code of a block, and its 8-byte entry as firmware reads it (R287). -/
def BState.code : BState → Nat
  | .erased => 0
  | .opened => 1
  | .full => 2
  | .erasing => 3
  | .incomplete => 4
  | .factoryBad => 8
  | .grownBad => 9
def Bst.word (b : Bst) : Nat :=
  min b.count 0xFFFFF * 2 ^ 44 + b.owner * 2 ^ 40 + b.ptr * 2 ^ 16 + b2n b.pslc * 16 + b.st.code

/-- The frame of an operation (R252): its content names routine, block, wordline, first unit, step and offset index. The bus cycles
behind it are the profile's supplier values (log 20). -/
def Chip.opFrame (c : Chip) (i : Nat) (o : Op) (kind : FrameKind) (slots : Nat) : Chip :=
  c.sendFrame (memberOf o.die) 1 o.die (some i) kind slots
    [o.rt.code, o.block, o.wl, o.cuFirst, o.cuCount, o.retryIdx + o.step, o.param, b2n o.pslc]

/-- Data-input frames of a program: 4 for QLC, 1 for pSLC (R286). -/
def Op.dinFrames (o : Op) : Nat := if o.rt = .programQlc then 4 else 1

/-- The chunks of one data-input frame go ahead of it in DATA_W frames, the first of them once the program's chunk slots are free (R255, R259, R286). -/
def Chip.dataFrames (c : Chip) (i : Nat) (o : Op) (k : Nat) : Chip :=
  ((o.data.drop (16 * k)).take 16).foldl (fun c b =>
    c.sendFrame (memberOf o.die) 2 o.die (some i) .din (if k = 0 then 16 * o.dinFrames else 0) (b.map BitVec.toNat)) c

/-- A program's data input ends before its starting cycle: its chunk slots return (R259, R309). -/
def Chip.dropSlots (c : Chip) (o : Op) : Chip :=
  match o.phase with
  | .data (_ + 1) => if o.rt = .programQlc then c.modLink (memberOf o.die) fun l => { l with chunks := l.chunks + 64 } else c
  | _ => c

/-- Send data-input frame k of a program; the last holds the starting cycle (R286, R309). -/
def Chip.sendDin (c : Chip) (i : Nat) (o : Op) (k : Nat) : Chip :=
  let last := k + 1 ≥ o.dinFrames
  let c := (c.dataFrames i o k).opFrame i o (if last then .start else .din) (if k = 0 ∨ last then 16 * o.dinFrames else 0)
  c.modOp i fun o => { o with
    phase := if last then .start else .data (k + 1)
    started := o.started || last
    runAt := if last then c.now else o.runAt }

/-- Time of the first program of a pool: its zone opens its age, its handle too (R148, R159). -/
def Chip.firstProgram (c : Chip) (die block : Nat) : Chip :=
  match pfind c.m.pools fun _ q => q.ptstate == 2 && q.firstAt.isNone && q.slots.any fun s => (s.die, s.block) == (die, block) with
  | none => c
  | some (p, _) =>
    let c := c.modPool p fun q => { q with firstAt := some c.now }
    let c := match c.zoneOfPool p with
      | some g => c.modZone g fun z => { z with openTime := if c.stamp = (0, 0) then (1, 0) else c.stamp }
      | none => c
    c.modZ fun z => { z with
      handles := z.handles.map fun h => if h.2.pool = p then (h.1, { h.2 with firstAt := some c.now }) else h
      reclaimPool := z.reclaimPool.map fun o => if o.pool = p then { o with firstAt := some c.now } else o }

/-- The first cycle of a program is sent (R288). -/
def Chip.bstProgram (c : Chip) (o : Op) : Chip :=
  ((c.modBst o.die o.block fun b => { b with ptr := o.wl + 1, st := if o.wl + 1 ≥ 384 then .full else .opened }).touch
    (segTable (memberOf o.die))).firstProgram o.die o.block |>.modM fun m => { m with
      progAt := pset m.progAt (bkey o.die o.block) c.opTime }

/-- A block becomes bad and enters the grown-defect list: cause 1 program, 2 erase, 3 firmware (R288, R290). -/
def Chip.growBad (c : Chip) (die block cause : Nat) : Chip :=
  ((c.modBst die block fun b => { b with st := .grownBad }).modM fun m => { m with defects := m.defects ++ [⟨die, block, cause, c.stamp⟩] }).touch
    (segTable (memberOf die))

/-- ERASE_START_DURABLE (R288, R298, R299): the erase cycles are sent; the block is ERASING and its count rises; event 0x300C once past
the rated cycles. -/
def Chip.sendErase (c : Chip) (i : Nat) : Chip :=
  match c.op i with
  | none => c
  | some o =>
    if o.stage != .journal then c
    else
      let b := c.bst o.die o.block
      let n := min (b.count + 1) 0xFFFFF
      let rated := (c.m.profile.map fun p => if o.pslc then p.peSlc else p.peQlc).getD (2 ^ 20)
      let c := (c.modBst o.die o.block fun b => { b with st := .erasing, count := n, rated := b.rated || decide (n > rated) }).touch
        (segTable (memberOf o.die))
      let c := if n > rated && !b.rated then c.post (srcSeq (memberOf o.die)) 0x300C [o.die, o.block, n] else c
      (c.modOp i fun o => { o with stage := .running, phase := .start, started := true, runAt := c.now, eraseCount := n }).opFrame i o .start 0

/-! Firmware queues (R273 to R278) -/

/-- Entries of the firmware queues of a port (R273); SIZE 7 is taken as 6. -/
def Chip.fdqSize (c : Chip) (p : Nat) : Nat := 64 * 2 ^ min 6 (c.fld F.SEQ_FDQ_SIZE p)

/-- The FCQ is full (R275). -/
def Chip.fcqFull (c : Chip) (p : Nat) : Bool :=
  (c.fld F.SEQ_FCQ_PTR_TAIL p + 1) % c.fdqSize p == c.fld F.SEQ_FCQ_PTR_HEAD p % c.fdqSize p

/-- FCQ_ENTRY_WRITE (R275, R278): the entry with its PHASE, TAIL moves on, and the interrupt where IRQ asks for it. The first pass uses
PHASE 1: `fcqPhase` holds true once it has turned. -/
def Chip.fcqEntry (c : Chip) (p descId rt st dieSt flags elapsed retry count detail : Nat) (irq : Bool) : Chip :=
  let tail := c.fld F.SEQ_FCQ_PTR_TAIL p
  let turned := (pget c.m.fcqPhase p).getD false
  let e := leBytes 4 descId ++ leBytes 1 rt ++ leBytes 1 st ++ leBytes 1 dieSt ++ leBytes 1 (flags + b2n (!turned)) ++ leBytes 4 elapsed ++
    leBytes 1 retry ++ leBytes 3 0 ++ leBytes 4 count ++ leBytes 4 detail ++ leBytes 8 0
  let c := c.put (c.fld F.SEQ_FCQ_BASE p * 4096 + 32 * tail) e
  let next := (tail + 1) % c.fdqSize p
  let c := c.setFld F.SEQ_FCQ_PTR_TAIL next p
  let c := if next = 0 then c.modM fun m => { m with fcqPhase := pset m.fcqPhase p (!turned) } else c
  let c := c.setFld F.SEQ_STAT_FCQ_FULL (b2n (c.fcqFull p)) p
  if irq then (c.setFld F.SEQ_STAT_FCQ_IRQ 1 p).emit (.fwIrq (srcSeq p)) else c

/-- Whether every chunk a read captured holds fewer than 64 bits at 0 (R292). -/
def zeroBits (b : List Byte) : Nat := (b.map fun x => ((List.range 8).filter fun i => !x.getLsbD i).length).sum
def Op.erasedFlag (o : Op) : Bool := o.rt.isRead && !o.raw.isEmpty && o.raw.all fun e => decide (zeroBits e.2 < 64)

/-- The completion of a firmware descriptor (R278). -/
def Chip.fcqDone (c : Chip) (o : Op) (descId flags : Nat) (st : SeqStatus) : Chip :=
  let detail := match o.rt with
    | .bridgeReg => if st = .success then o.pdata else 0
    | .read | .readRetry | .softRead | .programQlc | .programSlc | .erase =>
      if decide (0x11 ≤ st.code ∧ st.code ≤ 0x17) then (c.bst o.die o.block).word % 2 ^ 32 else 0
    | _ => 0
  c.fcqEntry (memberOf o.die) descId o.rt.code st.code o.dieStatus (2 * b2n o.erasedFlag + 4 * b2n o.wasSusp) (c.elapsed o / 1000) (o.retryIdx + o.step)
    (if o.rt = .erase then o.eraseCount else 0) detail (bitOf flags 0)

/-- An operation starts on the bus after its checks (R281, R285, R286). A program takes its wordline with its first cycle (R288). -/
def Chip.startOp (c : Chip) (i : Nat) : Chip :=
  match c.op i with
  | none => c
  | some o =>
    let run := fun (c : Chip) (g : Op → Op) => c.modOp i fun o => g { o with stage := .running }
    match o.rt with
    | .read | .readRetry | .softRead =>
      (run c fun o => { o with phase := .start, started := true, runAt := c.now }).opFrame i o .sense 0
    | .programQlc | .programSlc =>
      let c := run (c.bstProgram o) fun o => { o with phase := .data 0 }
      c.sendDin i o 0
    | .erase =>
      let b := c.bst o.die o.block
      let reason := match o.purpose with
        | .poolErase .. => if b.st = .incomplete then 3 else 1
        | .blockErase r => r
        | .spareErase .. => 4
        | _ => o.param
      let c := c.modOp i fun o => { o with stage := .journal }
      let c := c.addFld F.SEQ_CNT2_RE_ERASE (b2n (reason = 3)) (memberOf o.die)
      c.jErase ⟨o.die, o.block, b.count + 1, o.pslc, reason⟩ (.erase i)
    | .status => (run c fun o => { o with phase := .poll }).opFrame i o .poll 0
    | .suspend | .resume | .paramSet => (run c fun o => { o with phase := .start }).opFrame i o .sense 0
    | .dieIdentify => (run c fun o => { o with phase := .poll, runAt := c.now }).opFrame i o .poll 0
    | .bridgeReg =>
      (run c fun o => { o with phase := .start }).sendFrame (memberOf o.die) (if o.param = 0 then 3 else 4) o.die (some i) .reg 0
        [o.block * 65536 + o.wl, o.pdata]

/-- Forget an operation that ended: its charge and its tokens return and others are admitted (R191, R478). -/
def Chip.endOp (c : Chip) (i : Nat) : Chip :=
  match c.op i with
  | none => c
  | some o =>
    let c := (c.modDie o.die fun d => { d with queue := d.queue.filter (· != i), posted := d.posted.filter (· != i) }).dropSlots o
    (c.opReported i).modM fun m => { m with ops := pdel m.ops i }

/-- What the block state table takes from the end of an operation, with its events and counts (R288, R290, R296, R297, R301, R312). -/
def Chip.bstEnd (c : Chip) (o : Op) (st : SeqStatus) : Chip :=
  let p := memberOf o.die
  let ev := fun (c : Chip) id items => c.post (srcSeq p) id items
  let b := c.bst o.die o.block
  let t := fun (c : Chip) => c.touch (segTable p)
  match o.rt, st with
  | .erase, .success => t (c.modBst o.die o.block fun b => { b with st := .erased, ptr := 0, pslc := o.pslc })
  | .erase, .eraseFail => ((ev c 0x3007 [o.die, o.block, o.dieStatus]).addFld F.SEQ_CNT_ERS_FAIL 1 p).growBad o.die o.block 2
  | .erase, .dieTimeout | .erase, .dieFault | .erase, .bridgeError | .erase, .memberLost =>
    if b.st = .erasing then t (c.modBst o.die o.block fun b => { b with st := .incomplete }) else c
  | .programQlc, .programFail | .programSlc, .programFail =>
    ((ev c 0x3001 [o.die, o.block, o.wl, o.dieStatus]).addFld F.SEQ_CNT_PRG_FAIL 1 p).growBad o.die o.block 1
  | .programQlc, .bridgeError | .programSlc, .bridgeError => if o.started then ev c 0x3008 [o.die, o.block, o.wl] else c
  | .programQlc, .targetNotErased | .programSlc, .targetNotErased =>
    ev (c.addFld F.SEQ_CNT_NOT_ERASED 1 p) 0x3003 [o.die, o.block, o.wl, b.word]
  | .programQlc, .outOfOrder | .programSlc, .outOfOrder => ev c 0x3004 [o.die, o.block, o.wl, b.ptr]
  | _, _ => c

/-- A descriptor refused by the checks of R283: counted, event 0x300B with poster 0 SCHED and engines, 1 firmware. -/
def Chip.refused (c : Chip) (o : Op) (st : SeqStatus) : Chip :=
  let poster := match o.purpose with
    | .firmware .. => 1
    | _ => 0
  (c.addFld F.SEQ_CNT_REJECT 1 (memberOf o.die)).post (srcSeq (memberOf o.die)) 0x300B [memberOf o.die, poster, st.code]

end Sys2Proof.Machine
end

