-- ==== Sys2Proof/Machine/EvRec.lean ====
section
/-! DEFINITION. The event recorder: records, ring and staging, log pages, black-box images, counter checkpoints, clearing and reading
(R513 to R533). -/

namespace Sys2Proof.Machine

/-- Change the recorder. -/
def Chip.modEv (c : Chip) (g : Recorder → Recorder) : Chip := { c with ev := g c.ev }

/-! Bytes of records, blocks and counter entries -/

/-- Length of a record: 16 bytes and its items, padded to a multiple of 16 (R516). -/
def Rec.len (r : Rec) : Nat := 16 + (8 * r.ev.items.length + 15) / 16 * 16

/-- The 8 bytes of a time stamp (R514). -/
def stampBytes (t : Nat × Nat) : List Byte := leBytes 4 t.1 ++ leBytes 3 t.2 ++ leBytes 1 0

/-- A record as it is stored (R516). -/
def Rec.bytes (r : Rec) : List Byte :=
  padTo r.len (leBytes 2 r.ev.id ++ leBytes 1 (r.len / 16) ++ leBytes 1 (r.ev.items.length + b2n r.early * 16) ++ leBytes 4 r.time
    ++ leBytes 3 r.cycles ++ leBytes 1 r.ev.srcCode ++ leBytes 4 r.rsn ++ r.ev.items.flatMap (leBytes 8))

/-- The entry of index i of the counter table (R514). -/
def Chip.counterBytes (c : Chip) (i : Nat) : List Byte :=
  let e := (pget c.ev.counters i).getD counterZero
  let id := if i ≥ 496 then (i - 496) * 4096 + 0xFFF else ((catalogue[i]?).map CatRow.id).getD 0
  leBytes 2 id ++ leBytes 2 e.sat ++ leBytes 4 e.count ++ leBytes 4 e.max ++ leBytes 4 (b2n (eventHasValue id)) ++ stampBytes e.first
    ++ stampBytes e.last ++ stampBytes e.maxTs ++ e.hist.flatMap (leBytes 2) ++ leBytes 8 0

/-- Records of a block from the front of a list, in at most `room` bytes, and the rest (R520). -/
def packBlock : Nat → List Rec → List Rec × List Rec
  | _, [] => ([], [])
  | room, r :: t => if r.len ≤ room then let (a, b) := packBlock (room - r.len) t; (r :: a, b) else ([], r :: t)

/-- Records of at most `n` blocks, and the rest; the last block leaves `spare` bytes (R521, R526). -/
def packBlocks (spare : Nat) : Nat → List Rec → List (List Rec) × List Rec
  | 0, rs => ([], rs)
  | n + 1, rs =>
    let (a, b) := packBlock (if n = 0 then 4064 - spare else 4064) rs
    if a.isEmpty then ([], rs) else let (x, y) := packBlocks spare n b; (a :: x, y)

/-- A block with its header (R520). -/
def blockBytes (area flags serial first : Nat) (body : List Byte) : List Byte :=
  let head := fun (crc : Nat) => leBytes 4 0x47455652 ++ leBytes 1 area ++ leBytes 1 flags ++ leBytes 2 (32 + body.length) ++ leBytes 8 first
    ++ leBytes 8 serial ++ leBytes 4 0 ++ leBytes 4 crc
  padTo 4096 (head (Config.crc32c (head 0 ++ body)).toNat ++ body)

/-- Blocks of records. -/
def recBlocks (area flags serial : Nat) (bs : List (List Rec)) : List (List Byte) :=
  bs.map fun b => blockBytes area flags serial ((b.head?.map Rec.rsn).getD 0) (b.flatMap Rec.bytes)

/-! Pages of the recorder's areas: 1 the log, 2 the black box, 3 the counters (R520) -/

/-- Post the three copies of a page: the cistern of its turn, the page in it. -/
def Chip.recorderPage (c : Chip) (area serial turn page : Nat) (cls : Cls) (data : List (List Byte)) : Chip :=
  (List.range 3).foldl (fun c k =>
    let x := Config.recorderCistern area k turn
    (c.newOp (mkOp .programSlc (x / 4096) (x % 4096) page true cls (.recorder area serial k) data)).1) c

/-- Erase the three cisterns of a turn (R298). -/
def Chip.recorderErase (c : Chip) (area turn : Nat) : Chip :=
  (List.range 3).foldl (fun c k =>
    let x := Config.recorderCistern area k turn
    (c.newOp (mkOp .erase (x / 4096) (x % 4096) 0 true .b (.blockErase 2))).1) c

/-- FIRST_CIST as taken, and pages of the log (EVREC_CFG). -/
def Chip.firstCist (c : Chip) : Nat :=
  let n := c.fld F.EVREC_CFG_FIRST_CIST
  if 1 ≤ n ∧ n ≤ 8 then n else 2
def Chip.logPages (c : Chip) : Nat := c.firstCist * 384

/-- Programs of an area that have not ended. -/
def Chip.recorderBusy (c : Chip) (area : Nat) : Bool :=
  c.m.ops.any fun e => match e.2.purpose with
    | .recorder a _ _ => a == area
    | _ => false

/-- A black-box image of the records below an RSN (R523): at most 4,096 records in up to 5 pages; when one cistern is full the other is erased, with
its images.
Event 0x9035: 0 power fail, 1 warm reset, 2 class. -/
def Chip.blackBox (c : Chip) (below cause : Nat) (cls : Cls) : Chip :=
  let rs := c.ev.ring.filter (·.rsn < below)
  let n := c.ev.imageSerial
  let (bs, _) := packBlocks 0 80 rs
  let blocks := recBlocks 2 1 n bs
  let pages := max 1 ((blocks.length + 15) / 16)
  let c := c.modEv fun e => { e with images := ⟨n, rs⟩ :: e.images, imageSerial := n + 1 }
  let c := (List.range pages).foldl (fun c i => c.recorderPage 2 n (n / 76 % 2) (5 * (n % 76) + i) cls ((blocks.drop (16 * i)).take 16)) c
  let c := if n % 76 = 75 then
      (c.modEv fun e => { e with images := e.images.filter fun (i : Image) => i.serial / 76 == n / 76 }).recorderErase 2 ((n / 76 + 1) % 2)
    else c
  c.post srcEvrec 0x9035 [cause]

/-- A counter checkpoint as things stand (R520, R524). -/
def Chip.counterCkpt (c : Chip) (cls : Cls) (clearRec : List Byte) : Chip :=
  let n := c.ev.ckptSerial
  let all := (List.range 512).flatMap c.counterBytes ++ stampBytes c.stamp ++ leBytes 8 c.ev.nextRsn ++ clearRec
  let blocks := (List.range ((all.length + 4063) / 4064)).map fun i => blockBytes 3 1 n 0 ((all.drop (4064 * i)).take 4064)
  let c := c.modEv fun e => { e with ckptSerial := n + 1, ckptNew := some (n, e.counters, c.opTime, e.cycles, e.nextRsn) }
  let c := c.recorderPage 3 n (n / 384 % 2) (n % 384) cls blocks
  if n % 384 = 383 then c.recorderErase 3 ((n / 384 + 1) % 2) else c

/-! Records (R513 to R519, R526) -/

/-- Bytes in staging (EVREC_STAT.STAGED_BYTES). -/
def Chip.stagedBytes (c : Chip) : Nat := (c.ev.staging.map Rec.len).sum

/-- Make a record of an event: RSN, time stamp, EARLY before the restore. -/
def Chip.makeRec (c : Chip) (e : Event) : Rec := ⟨c.ev.nextRsn, e, c.opTime, c.ev.cycles, !c.ev.restored⟩

/-- A record enters the ring (R519). -/
def Chip.toRing (c : Chip) (r : Rec) : Chip :=
  c.modEv fun e => { e with nextRsn := e.nextRsn + 1, ring := (e.ring ++ [r]).drop (e.ring.length + 1 - 4096) }

/-- The log's last page is written: event 0x9031 with the RSN of the last record logged stands in its last block; the log is full (R526). -/
def Chip.fillLog (c : Chip) (last : Nat) : Chip × List Rec :=
  let e : Event := ⟨0x9031, [last], srcEvrec, 0⟩
  let r := c.makeRec e
  let c := ((c.count e).toRing r).setFld F.EVREC_STAT_LOG_FULL 1
  (c.modEv fun v => { v with logFull := true }, [r])

/-- LOG_PAGE_WRITE (R521): one page of staged records goes to the log. Trigger of event 0x9030: 0 full page, 1 age, 2 class, 3 power fail.
None is written before the restore (R518), while a clear is under way (R531), or once the log is full. -/
def Chip.writePage (c : Chip) (trigger : Nat) (cls : Cls) : Chip :=
  if c.ev.staging.isEmpty || c.ev.logFull || !c.ev.restored || c.ev.clear.isSome then c
  else
    let n := c.ev.logPages
    let lastPage := decide (n + 1 ≥ c.logPages)
    let (bs, rest) := packBlocks (if lastPage then 32 else 0) 16 c.ev.staging
    let rs := bs.flatten
    let (c, full) := if lastPage then c.fillLog ((rs.getLast?.map Rec.rsn).getD 0) else (c, [])
    let blocks := recBlocks 1 (b2n lastPage * 2) n (if lastPage then bs.dropLast ++ [(bs.getLast?.getD []) ++ full] else bs)
    let c := c.modEv fun e => { e with
      staging := if lastPage then [] else rest, stagedAt := c.now, log := e.log ++ rs ++ full, logPages := n + 1
      lastPage := if trigger = 2 then some c.now else e.lastPage, waitPage := false }
    (c.recorderPage 1 n (8 * c.ev.turn + n / 384) (n % 384) cls blocks).post srcEvrec 0x9030 [trigger]

/-- A record enters staging, or is left out of the log where staging is full (R519). -/
def Chip.toStaging (c : Chip) (r : Rec) : Chip :=
  if c.ev.logFull then c
  else if c.stagedBytes + r.len > 131072 then
    (c.addFld F.EVREC_STAT_DROPPED 1).modEv fun e => { e with dropRun := e.dropRun + 1, dropped := true }
  else c.modEv fun e => { e with staging := e.staging ++ [r], stagedAt := if e.staging.isEmpty then c.now else e.stagedAt }

/-- A run of drops ends: event 0x9034 with its length (R519). -/
def Chip.endRun (c : Chip) : Chip :=
  if c.ev.dropRun = 0 then c
  else
    let e : Event := ⟨0x9034, [c.ev.dropRun], srcEvrec, 0⟩
    let r := c.makeRec e
    if !c.ev.logFull && c.stagedBytes + r.len > 131072 then c
    else (((c.modEv fun v => { v with dropRun := 0 }).count e).toRing r).toStaging r

/-- The interval between class-triggered pages (EVREC_CTL). -/
def Chip.flushMin (c : Chip) : Nat := ms (max 1 (c.fld F.EVREC_CTL_FLUSH_MIN_MS))

/-- A class-triggered page, now or after the interval (R521). -/
def Chip.classPage (c : Chip) : Chip :=
  if c.ev.lastPage.any fun t => decide (c.now < t + c.flushMin) then c.modEv fun e => { e with waitPage := true } else c.writePage 2 .d1

/-- Full pages of staging are written (R521). -/
def Chip.fullPages (c : Chip) : Chip :=
  let (bs, rest) := packBlocks 0 16 c.ev.staging
  let full := !rest.isEmpty || (bs.length = 16 && (bs.getLast?).any fun (b : List Rec) => decide ((b.map Rec.len).sum ≥ 4064))
  if full then (c.writePage 0 .b).endRun else c

/-- An event that makes a record: ring, staging, and what its class triggers (R519, R521, R523). -/
def Chip.record (c : Chip) (e : Event) : Chip :=
  let c := c.endRun
  let r := c.makeRec e
  let k := e.id / 4096
  let c := ((c.toRing r).toStaging r).fullPages
  let c := if bitOf (c.fld F.EVREC_CTL_FLUSH_CLS) k then c.classPage else c
  let due := !(c.ev.lastImage.any fun t => decide (c.now < t + seconds 10))
  if bitOf (c.fld F.EVREC_CTL_BB_CLS) k && due && c.ev.restored then
    (c.modEv fun v => { v with lastImage := some c.now }).blackBox c.ev.nextRsn 2 .d1
  else c

/-- The event at the head of the queue with the lowest source index is counted and recorded (R517). -/
def Chip.recordOne (c : Chip) : Chip :=
  match c.ev.queues.find? fun q => !q.2.isEmpty with
  | some (src, e :: t) =>
    let c := (c.modEv fun v => { v with queues := mset [] v.queues src t }).count e
    if histogramOnly e.id then c else c.record e
  | _ => c

/-- EVENT_RECORD (R517): one event is taken from the queues. -/
def execEventRecord (s : State) : Outcome := onChip (fun c => c.recordOne) s

/-- Every event queued is recorded, in the order of R517: the recorder takes one in each ACLK cycle. -/
def Chip.recordAll (c : Chip) : Chip := (List.range ((c.ev.queues.map fun q => q.2.length).sum)).foldl (fun c _ => c.recordOne) c

/-- STAGING_AGE_EXPIRY (R521): FLUSH_MS since the oldest staged record. -/
def execStagingAgeExpiry (s : State) : Outcome :=
  onChip (fun c =>
    if c.ev.staging.isEmpty then c
    else ((c.advanceTo (c.ev.stagedAt + ms (max 10 (c.fld F.EVREC_CTL_FLUSH_MS)))).writePage 1 .b).endRun) s

/-- FLUSH_INTERVAL_EXPIRY (R521): a class-triggered page that waits is written. -/
def execFlushIntervalExpiry (s : State) : Outcome :=
  onChip (fun c =>
    match c.ev.lastPage with
    | some t => if c.ev.waitPage then ((c.advanceTo (t + c.flushMin)).writePage 2 .d1).endRun else c
    | none => c) s

/-- COUNTER_CHECKPOINT (R524). -/
def execCounterCheckpoint (s : State) : Outcome :=
  onChip (fun c => if c.ev.restored && c.ev.clear.isNone then c.counterCkpt .b [] else c) s

/-- FIRMWARE_EVENT_POST (R533): codes 0xF00 to 0xFFF of any class enter the core's queue with the core in SRC [7:4] and 0x2 in [3:0]. -/
def execFirmwareEventPost (core id : Nat) (items : List Nat) (s : State) : Outcome :=
  onChip (fun c =>
    if core < 16 then
      if decide (id % 4096 ≥ 0xF00 ∧ id < 65536) then c.postAs (srcCore core) id (items.take 6) (core * 16 + 2)
      else c.setFld F.EVREC_POST_REFUSED 1 core
    else c) s

/-! Clearing (R530 to R532) -/

/-- A clear begins once no page flush is in progress: its RSN, its counter checkpoint with the clear record (R531, R532). -/
def Chip.clearBegin (c : Chip) : Chip :=
  match c.ev.clear with
  | some j =>
    if j.c.isSome || c.recorderBusy 1 then c
    else
      let n := c.ev.nextRsn
      let gone := if bitOf j.scope 1 then c.ev.log.length + c.ev.staging.length else 0
      let void := if bitOf j.scope 2 then c.ev.images.length else 0
      let r := c.makeRec ⟨0x9032, [j.scope, n - 1, gone, void], srcEvrec, 0⟩
      (c.modEv fun e => { e with nextRsn := n + 1, clear := some { j with c := some n, discarded := gone, voided := void, copies := [0, 1, 2] } }).counterCkpt
        .d1 r.bytes
  | none => c

/-- CLEAR_COMMIT (R531): the checkpoint is durable on all copies: the selected parts lose everything below C, the clear record counts once,
and the command completes. -/
def Chip.clearCommit (c : Chip) : Chip :=
  match c.ev.clear with
  | some j =>
    match j.c with
    | some n =>
      let e : Event := ⟨0x9032, [j.scope, n - 1, j.discarded, j.voided], srcEvrec, 0⟩
      let r : Rec := ⟨n, e, c.opTime, c.ev.cycles, false⟩
      let keep := fun l : List Rec => l.filter (·.rsn ≥ n)
      let turn := c.ev.turn
      let c := c.modEv fun v => { v with
        counters := if bitOf j.scope 0 then [] else v.counters
        ring := if bitOf j.scope 2 then r :: keep v.ring else v.ring.filter (·.rsn < n) ++ r :: keep v.ring
        images := if bitOf j.scope 2 then [] else v.images
        staging := if bitOf j.scope 1 then r :: keep v.staging
          else if v.logFull then v.staging else v.staging.filter (·.rsn < n) ++ r :: keep v.staging
        log := if bitOf j.scope 1 then [] else v.log
        logPages := if bitOf j.scope 1 then 0 else v.logPages
        logFull := if bitOf j.scope 1 then false else v.logFull
        turn := if bitOf j.scope 1 then 1 - v.turn else v.turn
        dropped := v.dropped && !bitOf j.scope 1
        clears := v.clears + 1
        clear := none }
      let c := (c.count e).setFld F.EVREC_CLRCMD_BUSY 0 |>.setFld F.EVREC_CLRCMD_RESULT 0
      let c := if bitOf j.scope 1 then
          (List.range c.firstCist).foldl (fun c k => c.recorderErase 1 (8 * turn + k)) ((c.setFld F.EVREC_STAT_LOG_FULL 0).setFld F.EVREC_STAT_DROPPED 0)
        else c
      (c.complete j.tag .success).fullPages
    | none => c
  | none => c

/-- A page of the recorder was programmed: a checkpoint becomes the newest valid one; a clear goes on (R524, R531, R532). -/
def Chip.recorderOk (c : Chip) (area serial copy : Nat) : Chip :=
  let c := if area = 3 then c.modEv fun e => { e with ckpt := if e.ckptNew.any fun k => k.1 == serial then e.ckptNew else e.ckpt } else c
  match c.ev.clear with
  | some j =>
    if j.c.isNone then c.clearBegin
    else if area = 3 && j.copies.contains copy && c.ev.ckptNew.any fun k => k.1 == serial then
      let left := j.copies.filter (· != copy)
      let c := c.modEv fun e => { e with clear := some { j with copies := left } }
      if left.isEmpty then c.clearCommit else c
    else c
  | none => c

/-- An uncommitted clear is abandoned (R532). -/
def Chip.clearAbandon (c : Chip) : Chip :=
  if c.ev.clear.isSome then ((c.modEv fun e => { e with clear := none }).setFld F.EVREC_CLRCMD_BUSY 0).setFld F.EVREC_CLRCMD_RESULT 6 else c

/-- The checks of R530 in order; the first that fails, with its status. -/
def Chip.clearCheck (c : Chip) (x : Ctx) (data : List Byte) : Option (Nat × Status) :=
  let scope := numAt data 8 4
  let slot := c.fld F.EVREC_AUTH_SLOT
  let key := if 3 ≤ slot ∧ slot ≤ 63 then (pget c.keys slot).filter fun k => bitOf k.usage 2 else none
  let msg := asciiBytes "GW-EVCLR-V1" ++ (data.take 8) ++ leBytes 4 scope ++ leBytes 4 c.fuses.lotTag
  if !isPf x.fn then some (1, .invalidOpcode)
  else if data.length != 64 || scope = 0 || scope > 7 || scope != x.dw 10 % 8 then some (2, .invalidField)
  else match key with
    | none => some (3, .accessDenied)
    | some k =>
      if numAt data 0 8 != c.ev.nonce.toNat then some (4, .accessDenied)
      else if Config.hmac256 k.key msg != (data.drop 16).take 32 then some (5, .accessDenied)
      else none

/-- EVENT_CLEAR (R530): checks, a new nonce for every command that reaches check 3, event 0x9033 for failures at checks 3 to 5; then the
clear of R531. XA not On is woken by DEMAND. -/
def execEventClear (tag : Nat) (data : List Byte) (s : State) : Outcome :=
  onChip (fun c => c.withCtx tag fun x c =>
    if x.st != .firmware || x.sent || c.flag F.EVREC_CLRCMD_BUSY then c
    else
      let c := c.setFld F.EVREC_CLRCMD_TAG tag
      let res := c.clearCheck x data
      let reached := (res.map fun r => decide (r.1 ≥ 3)).getD true
      let (v, c) := if reached then c.take else (0, c)
      let c := if reached then (c.demand domXa).modEv fun e => { e with nonce := BitVec.ofNat 64 v } else c
      match res with
      | some (k, st) =>
        let c := if k ≥ 3 then c.post srcEvrec 0x9033 [portOf x.fn, k] else c
        (c.setFld F.EVREC_CLRCMD_RESULT k).complete tag st
      | none =>
        ((c.setFld F.EVREC_CLRCMD_BUSY 1).modEv fun e => { e with clear := some ⟨tag, numAt data 8 4, none, 0, 0, []⟩ }).clearBegin) s

/-! Copies of lost cisterns (R525) -/

/-- RECORDER_CISTERN_COPY (R525): a cistern of the recorder lost with a member or marked for refresh is copied elsewhere; event 0x9036 for each
area with a copy there (cause 0 loss, 1 refresh). -/
def Chip.recorderCopies (c : Chip) (hit : Nat → Bool) (member cause : Nat) : Chip :=
  [1, 2, 3].foldl (fun c a =>
    let turns := if a = 1 then (List.range c.firstCist).map (8 * c.ev.turn + ·) else [0, 1]
    if turns.any fun t => (List.range 3).any fun k => hit (Config.recorderCistern a k t) then c.post srcEvrec 0x9036 [a, member, cause] else c) c

/-! Reading (R527 to R529) -/

/-- What a source holds: entries as number (index or RSN) and bytes. -/
def Chip.recSource (c : Chip) (source image : Nat) : List (Nat × List Byte) :=
  let rs := fun l : List Rec => l.map fun r => (r.rsn, r.bytes)
  match source with
  | 0 => (List.range 512).map fun i => (i, c.counterBytes i)
  | 1 => rs (c.ev.log ++ c.ev.staging)
  | _ => if image = 0 then rs c.ev.ring else rs (((c.ev.images[image - 1]?).map Image.recs).getD [])

/-- Entries from the front that fit in a number of bytes. -/
def fitEntries : Nat → List (Nat × List Byte) → List (Nat × List Byte)
  | _, [] => []
  | room, e :: t => if e.2.length ≤ room then e :: fitEntries (room - e.2.length) t else []

/-- Entries from a cursor in at most `room` bytes: them, FLAGS, the next cursor, oldest and newest (R528). -/
def Chip.recRead (c : Chip) (source image cursor room : Nat) : List (Nat × List Byte) × Nat × Nat × Nat × Nat :=
  let all := c.recSource source image
  let oldest := (all.head?.map (·.1)).getD 0
  let newest := (all.getLast?.map (·.1)).getD 0
  let there := all.filter (·.1 ≥ cursor)
  let es := fitEntries room there
  let next := ((there.drop es.length).head?.map (·.1)).getD (newest + 1)
  let flags := b2n c.ev.logFull + 2 * b2n (!all.isEmpty && decide (cursor < oldest)) + 4 * b2n (es.length = there.length)
    + 8 * b2n c.ev.dropped
  (es, flags, next, oldest, newest)

/-- The response of log page 0xC2 (R528). -/
def Chip.recPage (c : Chip) (source image cursor room : Nat) : List Byte :=
  let (es, flags, next, oldest, newest) := c.recRead source image cursor (room - 64)
  leBytes 4 1 ++ leBytes 1 source ++ leBytes 1 flags ++ leBytes 2 0 ++ leBytes 8 ((es.head?.map (·.1)).getD cursor) ++ leBytes 8 next
    ++ leBytes 8 oldest ++ leBytes 8 newest ++ leBytes 8 c.ev.nonce.toNat ++ leBytes 4 c.ev.clears ++ leBytes 4 es.length ++ leBytes 8 0
    ++ es.flatMap (·.2)

/-- EVENT_WINDOW_READ (R529): GO in EVW_CUR of a window, 0 to 3 the PFs' and 4 firmware's, fills its data area of 3,840 bytes. Source 0b11 holds
nothing. -/
def execEventWindowRead (win source image cursor : Nat) (s : State) : Outcome :=
  onChip (fun c =>
    if win > 4 then c
    else
      let c := ((c.setFld F.EVW_CUR_SOURCE source win).setFld F.EVW_CUR_IMAGE image win).setFld F.EVW_CUR_CURSOR cursor win
      let (es, flags, next, _, _) := if source % 4 = 3 then ([], 4, cursor, 0, 0) else c.recRead (source % 4) (image % 256) (cursor % 2 ^ 48) 3840
      let c := c.modEv fun e => { e with windows := pset e.windows win (es.map fun x => x.2.map BitVec.toNat) }
      (((c.setFld F.EVW_STAT_READY 1 win).setFld F.EVW_STAT_FLAGS flags win).setFld F.EVW_STAT_ENTRIES es.length win).setFld F.EVW_NEXT_NEXT next win) s

end Sys2Proof.Machine
end

