-- ==== Sys2Proof/Machine/PowerFail.lean ====
section
/-! DEFINITION. The power-fail sequence of the write path: commit, landing, and the steps up to PF_END (R194 to R199, R522). -/

namespace Sys2Proof.Machine

/-- An operation that has not been posted to its sequencer; one that is there. -/
def Op.waits (o : Op) : Bool := match o.stage with
  | .created | .ledger | .admitted | .sluice | .queued | .cold => true
  | _ => false
def Op.there (o : Op) : Bool := !o.waits

/-- Strip k of a row counts as issued: it has succeeded, or its program is with its sequencer (R197). -/
def Chip.stripIssued (c : Chip) (i : Nat) (r : RowRec) (k : Nat) : Bool :=
  r.okStrips.contains k || c.m.ops.any fun (e : Nat × Op) => e.2.purpose == Purpose.strip i k && e.2.there

/-- Every strip of a row was issued. -/
def Chip.rowIssued (c : Chip) (i : Nat) : Bool := (c.row i).any fun r => (List.range 18).all (c.stripIssued i r)

/-- A program of a page of a pair is with its sequencer or has succeeded. -/
def Chip.pageIssued (c : Chip) (i page : Nat) : Bool :=
  [0, 1].all fun k => ((c.pair i).any fun q => q.okCopies.contains (page * 2 + k)) ||
    c.m.ops.any fun (e : Nat × Op) => e.2.purpose == Purpose.basinPage i page k && e.2.there

/-- Pages of a pair that hold a part. -/
def Part.pages (p : Part) : List Nat := (List.range ((p.pairOff + p.len + 15) / 16 - p.pairOff / 16)).map (p.pairOff / 16 + ·)

/-- A committed part must be landed: it is not on the medium and neither its row nor its basin pages were all issued (R197). -/
def Chip.mustLand (c : Chip) (p : Part) : Bool :=
  !p.onMedium && !((p.row.map c.rowIssued).getD false) &&
    !((p.pair.map fun i => p.pages.all (c.pageIssued i)).getD false)

/-- Pairs of landing cisterns on distinct members, at most `n` (R194, R197). -/
def landPairs : Nat → List Nat → List (Nat × Nat)
  | 0, _ => []
  | _ + 1, [] => []
  | n + 1, a :: t =>
    match t.find? fun b => memberOf (b / 4096) != memberOf (a / 4096) with
    | some b => (a, b) :: landPairs n (t.filter (· != b))
    | none => []

/-- LAND_DIES as taken. -/
def Chip.landDies (c : Chip) : Nat := c.clampFld F.LEDGER_PF_LAND_DIES 32 288

/-- Open the landing pairs of the sequence. -/
def Chip.openLanding (c : Chip) : Chip :=
  (landPairs (c.landDies / 2) c.z.landRes).foldl (fun c x =>
    let i := c.z.nextPair
    let q : PairRec := ⟨x.1, x.2, none, 0, 0, none, 0, [], false, [], true⟩
    c.modZ fun z => { z with pairs := pset z.pairs i q, nextPair := i + 1, landRes := z.landRes.filter fun y => y != x.1 && y != x.2 }) c

/-- The landing pair with most room whose dies a part has not failed on. -/
def Chip.landPair (c : Chip) (p : Part) : Option Nat :=
  let bad := match p.pair.bind c.pair with
    | some q => if p.landTry > 0 then [q.a / 4096, q.b / 4096] else []
    | none => []
  let open_ := c.z.pairs.filter fun e => e.2.landing && !e.2.closed && decide (e.2.next + p.len ≤ 6144)
    && !bad.contains (e.2.a / 4096) && !bad.contains (e.2.b / 4096)
  bestBy (fun i => 6144 - ((c.pair i).map PairRec.next).getD 0) (open_.map (·.1))

/-- PF_LANDING (R197): both copies of a part in landing cisterns, in class RT, under a LAND record. -/
def Chip.pfLand (c : Chip) (pid : Nat) : Chip :=
  match c.part pid with
  | none => c
  | some p =>
    match c.landPair p with
    | none => c
    | some i =>
      let off := (((c.pair i).map PairRec.next).getD 0 + 15) / 16 * 16
      let c := c.modPair i fun q => { q with
        next := (off + p.len + 15) / 16 * 16
        gathered := (off + p.len + 15) / 16 * 16
        units := (p.units.zipIdx).foldl (fun m x => pset m (off + x.2) (p.first + x.2, pid, x.1)) q.units }
      let (c, n) := c.jAppend p.nsid p.seq
        (.land i off p.zone.isSome p.len (((p.zone.map c.zone).map ZoneRec.zidx).getD 0) p.first p.handle) [.part pid]
      let c := c.modPart pid fun p => { p with route := .basin, pair := some i, pairOff := off, jsns := p.jsns ++ [n] }
      match c.part pid, c.pair i with
      | some p, some q =>
        p.pages.foldl (fun c n =>
          let data := (List.range 16).map fun k => c.pairChunk i q (16 * n + k)
          let c := (c.newOp (mkOp .programSlc (q.a / 4096) (q.a % 4096) n true .rt (.landPage pid i n 0) data)).1
          (c.newOp (mkOp .programSlc (q.b / 4096) (q.b % 4096) n true .rt (.landPage pid i n 1) data)).1) c
      | _, _ => c

/-- A landing page succeeded: a part with all its pages on both cisterns is on the medium (R18). The outcome of a repeat is recorded. -/
def Chip.landOk (c : Chip) (pid i page copy : Nat) : Chip :=
  let c := c.modPair i fun q => { q with okCopies := (page * 2 + copy) :: q.okCopies }
  match c.part pid, c.pair i with
  | some p, some q =>
    if p.pair = some i && !p.basinOk && p.pages.all fun n => q.okCopies.contains (2 * n) && q.okCopies.contains (2 * n + 1) then
      let c := (c.modPart pid fun p => { p with basinOk := true }).modL fun l => { l with landed := l.landed + 1 }
      if p.landTry > 0 then c.post srcLedger 0xA106 [p.landDie, 0] else c
    else c
  | _, _ => c

/-- LANDING_PROGRAM_FAIL (R199): the whole part is landed once more on two other dies; a second failure leaves it unlanded. -/
def Chip.landFail (c : Chip) (pid i die : Nat) : Chip :=
  match c.part pid with
  | none => c
  | some p =>
    if p.pair != some i then c
    else if p.landTry = 0 then (c.modPart pid fun p => { p with landTry := 1, landDie := die }).pfLand pid
    else if p.landTry = 1 then (c.modPart pid fun p => { p with landTry := 2 }).post srcLedger 0xA106 [p.landDie, 1]
    else c

/-- PF_COMMIT (R197 steps 1 to 5, R216, R532): PF_BEGIN, fetch stopped, uncommitted work squashed, ports idle, suspended operations resumed,
programs not posted withdrawn, journal frames posted again in class RT, and the parts landed. -/
def Chip.pfCommit (c : Chip) : Chip :=
  if c.z.ledger.pfCommit then c
  else
    let need := c.needUj / 1000
    let avail := c.availUj / 1000
    let mib := (c.committedBytes + 2 ^ 20 - 1) / 2 ^ 20
    let ts := c.stamp
    let c := c.modL fun l => { l with pfCommit := true, frozen := true, step := .landing, pfAt := c.now, landed := 0 }
    let c := ((c.jAppend 0 0 (.pfBegin ts.1 ts.2 need avail)).1).post srcLedger 0xA103 [need, avail, mib]
    let c := ((c.intake.tags.filter fun e => !e.2.committed).map (·.1)).foldl (fun c t => c.squash t) c
    let c : Chip := { c with fns := c.fns.map fun (e : Nat × FnRec) => (e.1, { e.2 with aers := [] }) }
    let c := c.clearAbandon
    let c := (List.range 4).foldl (fun c p => c.emit (.lanesIdle p)) c
    let c := c.modM fun m => { m with sluice := { m.sluice with q1 := [], qb := [] } }
    let idle := c.m.ops.filter fun (e : Nat × Op) => e.2.cls != Cls.rt && e.2.waits
    let c := idle.foldl (fun c e => c.dropOp e.1) c
    let c := idle.foldl (fun c e => match e.2.purpose with
      | .frame .. => (c.newOp { e.2 with cls := .rt, stage := .created, charge := 0, tokens := 0 }).1
      | _ => c) c
    let c := c.m.dies.foldl (fun c d => c.dieNext d.1) c
    let c := c.openLanding
    (c.z.parts.filter fun e => c.mustLand e.2).foldl (fun c e => c.pfLand e.1) c

/-- Landing and the programs of step 6 have ended. -/
def Chip.landingDone (c : Chip) : Bool :=
  !(c.m.ops.any fun e => match e.2.purpose with
    | .landPage .. | .strip .. | .basinPage .. => true
    | _ => false)

/-- PF_JOURNAL_FLUSH (R197 step 7). -/
def execPfJournalFlush (s : State) : Outcome :=
  onChip (fun c =>
    if c.z.ledger.step = .landing && c.landingDone then (c.modL fun l => { l with step := .journal }).closeFrame else c) s

/-- Every journal record is durable. -/
def Chip.journalDone (c : Chip) : Bool := c.z.journal.opened.isEmpty && c.z.journal.flying.isEmpty

/-- PF_RECORDER_FLUSH (R197 step 8, R522): staged records, a black-box image and a counter checkpoint, each as it stands now. -/
def execPfRecorderFlush (s : State) : Outcome :=
  onChip (fun c =>
    if c.z.ledger.step = .journal && c.journalDone then
      let c := (c.modL fun l => { l with step := .recorder }).endRun
      let pages := (c.stagedBytes + 65535) / 65024 + 1
      let c := (List.range pages).foldl (fun c _ => c.writePage 3 .rt) c
      (c.blackBox c.ev.nextRsn 0 .rt).counterCkpt .rt []
    else c) s

/-- The recorder has no program under way. -/
def Chip.recorderDone (c : Chip) : Bool := !(c.recorderBusy 1) && !(c.recorderBusy 2) && !(c.recorderBusy 3)

/-- PF_END_WRITE (R197 step 9): PF_END with the duration, the energy measured (a free value) and the parts landed. -/
def execPfEndWrite (s : State) : Outcome :=
  onChip (fun c =>
    if c.z.ledger.step = .recorder && c.recorderDone then
      let (e, c) := c.take
      let mj := e % 65536
      let us := (c.now - c.z.ledger.pfAt) / 1000
      let c := c.modL fun l => { l with step := .pfEnd, pfEnergy := mj }
      ((c.jAppend 0 0 (.pfEnd us mj c.z.ledger.landed) [.pfEnd]).1).closeFrame
    else c) s

end Sys2Proof.Machine
end

