-- ==== Sys2Proof/Machine/OpDone.lean ====
section
/-! DEFINITION. What the end of a media operation brings about, by what it was for: rows, retries and relocation, basin pages, journal
frames, checkpoints, erases, rebuilds (R15 to R19, R140, R151 to R153, R162, R164, R171, R174, R184 to R186, R298, R337 to R341, R354, R361, R577, R578). -/

namespace Sys2Proof.Machine

/-! Copies of whole pools and victims (R186, R337, R339) -/

/-- Map entries that point into a pool (R334). -/
def Chip.validOf (c : Chip) (p : Nat) : Nat := (c.entriesOf p).length

/-- Units of a pool whose rows reported success. -/
def Pool.units (q : Pool) : List Nat := q.done.flatMap fun r => (List.range 1024).map (r * 1024 + ·)

/-- A class-B read of a unit of a victim, with its pin (R325, R337). -/
def Chip.readVictim (c : Chip) (f : RdFor) (p off : Nat) : Chip :=
  let at_ := (c.unitChunk p off).getD ⟨0, 0, rowOfUnit off, cuOfUnit off, false⟩
  let rd := mkRd f at_ (some (p, rowOfUnit off, stripOfUnit off)) none (0, 0) (c.unitChunk p off).isNone
  (c.newRd rd).1

/-- A pool bound to a zone is copied whole into a fresh one (R186 step 2, R339). -/
def Chip.copyZone (c : Chip) (g old new : Nat) : Chip :=
  let us := ((c.pool old).map Pool.units).getD []
  let c := c.modM fun m => { m with victims := pset m.victims old ⟨some g, us, us.length / 1024, 0, false⟩ }
  let c := c.modZone g fun z => { z with newPool := some new }
  us.foldl (fun c u => c.readVictim (.reclaim old u) old u) c

/-- A victim of conventional data: every unit whose entry points into it is read (R337 step 1). -/
def Chip.copyVictim (c : Chip) (p : Nat) : Chip :=
  let us := (c.entriesOf p).map fun e => e.2 % 2 ^ 19
  let c := (c.modPool p fun q => { q with ptstate := 4 }).touch (segPools p)
  let c := c.modM fun m => { m with victims := pset m.victims p ⟨none, us, 0, 0, false⟩ }
  us.foldl (fun c u => c.readVictim (.reclaim p u) p u) c

/-- A victim whose valid count is 0 joins the erase queue: event 0x350C (R337 step 5). -/
def Chip.victimFree (c : Chip) (p : Nat) : Chip :=
  match pget c.m.victims p with
  | some v =>
    if v.zone.isNone && c.validOf p = 0 then
      ((c.modM fun m => { m with victims := pdel m.victims p, marks := pdel m.marks p, scores := pdel m.scores p }).freePool p).post srcReclaim 0x350C [p, v.moved]
    else c
  | none => c

/-- A whole copy of a zone's pool is ready: STRIPE writes the MOVE record with one item for the zone (R186 step 4, R339). -/
def Chip.copyCheck (c : Chip) (g : Nat) : Chip :=
  let z := c.zone g
  match z.pool, z.newPool with
  | some old, some new =>
    let reading := (pget c.m.victims old).any fun (v : Victim) => !v.reads.isEmpty
    let open_ := c.z.rows.any fun r => r.2.pool == new && !r.2.abandoned && r.2.full && decide (r.2.okStrips.length < 18)
    let waits := c.z.journal.waits.any fun w => w.2 == .relocate g old new
    if reading || open_ || waits || c.z.rows.any fun r => r.2.pool == new && r.2.owner == .reclaim old && decide (r.2.okStrips.length < 18) then c
    else
      let seq := c.fld F.CONF_SEQ_NEXT
      let c := c.setFld F.CONF_SEQ_NEXT (seq + 1)
      (c.jAppend z.nsid seq (.move [(z.zidx * 0x80000, mapPool old 0, mapPool new 0)]) [.relocate g old new]).1
  | _, _ => c

/-- ZONE_RELOCATION (R186): a fresh pool is bound, the rows that are not done go over to it, and the others are copied. Without a pool in
the reserve the zone waits for one. -/
def Chip.relocate (c : Chip) (g : Nat) : Chip :=
  let z := c.zone g
  match z.pool, c.bindPool with
  | some old, (c, some new) =>
    let c := (c.modZ fun z => { z with relocQ := z.relocQ.filter (· != g) }).post srcZmap 0x200F [z.nsid, z.zidx, old, new]
    let from_ := z.newPool.getD old
    let rows := c.z.rows.filter fun r => r.2.pool == from_ && !r.2.abandoned && decide (r.2.okStrips.length < 18)
    let c := (rows.filter fun r => r.2.owner == .zone g).foldl (fun (c : Chip) r =>
      let i := c.z.nextRowId
      let fresh : RowRec := { r.2 with
        pool := new, bindGen := c.genOf new, openJsn := none, issued := [], okStrips := [], retries := [], subst := [] }
      let c := c.modZ fun z => { z with rows := pset z.rows i fresh, nextRowId := i + 1 }
      let c := fresh.parts.foldl (fun c p => c.modPart p fun p => { p with row := some i }) c
      c.rowGo i) c
    let c := rows.foldl (fun (c : Chip) r => c.modRow r.1 fun r => { r with abandoned := true, parts := [] }) c
    let c := if z.newPool.isSome then c.freePool from_ else c
    c.copyZone g old new
  | some _, (c, none) => c.modZ fun z => { z with relocQ := if z.relocQ.contains g then z.relocQ else z.relocQ ++ [g] }
  | none, _ => c

/-- Zones that wait for a pool are relocated once the reserve has one (R136, R186). -/
def Chip.relocNext (c : Chip) : Chip := if c.z.reserve.isEmpty then c else c.z.relocQ.foldl (fun c g => c.relocate g) c

/-! Rows (R15, R174, R184, R185, R341) -/

/-- ROW_DONE (R174, R151, R162): all 18 strips report success. -/
def Chip.rowSuccess (c : Chip) (i : Nat) : Chip :=
  match c.row i with
  | none => c
  | some r =>
    let c := (c.modPool r.pool fun q => { q with
      done := if q.done.contains r.row then q.done else q.done ++ [r.row]
      fullAt := if r.row = 383 then some c.now else q.fullAt }).touch (segPools r.pool)
    let c := (c.jAppend (((r.parts.head?.bind c.part).map Part.nsid).getD 0) r.lastSeq (.rowDone r.pool r.row r.bindGen) [.rowDone i]).1
    let c := match r.recovered with
      | some n => c.post srcZmap 0x2108 [r.pool, r.row, n]
      | none => c
    let c := r.parts.foldl (fun c p => (c.modPart p fun x => { x with rowOk := true }).partDone p) c
    let commits := ((r.parts.filterMap c.part).map Part.commit).eraseDups
    let c := commits.foldl (fun c k => c.commitReleased k) c
    let c := match r.zone, r.finishTag with
      | some g, some t => ((c.makeFull g (decide (t = 65536))).modZone g fun z => { z with finishTag := some t }).sealStore g
      | _, _ => c
    let c := match r.owner with
      | .zone g => c.copyCheck g
      | .reclaim v => match (pget c.m.victims v).bind Victim.zone with
        | some g => c.copyCheck g
        | none => c
      | _ => c
    c.retryGo

/-- PRG_RETRY as taken (STRIPE_JCFG). -/
def Chip.prgRetry (c : Chip) : Nat := min 4 (c.fld F.STRIPE_JCFG_PRG_RETRY)

/-- RETRIES_EXHAUSTED (R159, R185, R341): conventional parts are landed, a zone is relocated, a reclaim row is copied anew; where no
substitute block exists, the open pool of a handle is closed. Outcome in event 0x2106:
0 landed, 1 relocated. During the power-fail sequence the parts are landed by the flush engine (R197). -/
def Chip.exhausted (c : Chip) (i k : Nat) : Chip :=
  match c.row i with
  | none => c
  | some r =>
    if r.abandoned then c
    else
      let out := if r.zone.isSome then 1 else 0
      let c := c.post srcZmap 0x2106 [r.pool, r.row, k, out]
      let shut := fun (c : Chip) (h : Nat) => match pget c.z.handles h with
        | some op => if op.pool = r.pool && decide (mget 0 r.retries k < c.prgRetry) then c.closeHandle h op else c
        | none => c
      match r.owner with
      | .zone g => c.relocate g
      | .handle h =>
        let c := (c.modRow i fun r => { r with abandoned := true, parts := [] }).modZ fun z => { z with handles := pmod z.handles h fun o => { o with
          rowId := if o.rowId == some i then none else o.rowId } }
        shut (r.parts.foldl (fun c p => (c.modPart p fun x => { x with row := none, rowOk := false }).landPart p 1) c) h
      | .fold h =>
        let c := (c.modRow i fun r => { r with abandoned := true }).modZ fun z => { z with
          foldRows := if pget z.foldRows h == some i then pdel z.foldRows h else z.foldRows }
        let c := shut c h
        if r.recovered.isSome then c else r.src.foldl (fun (c : Chip) x => match mapDecode x.2.2 with
          | .basin pair off => c.modM fun m => { m with folds := pset m.folds pair (off :: (pget m.folds pair).getD []) }
          | _ => c) c
      | .reclaim v =>
        let c := (c.addFld F.RECLAIM_CNT_REDIRECTS 1).post srcReclaim 0x350B [v, r.pool, r.row]
        let c := ((c.modRow i fun r => { r with abandoned := true }).modZ fun z => { z with reclaimPool := none }).modPool r.pool fun q => { q with
          fullAt := some c.now }
        match (pget c.m.victims v).bind Victim.zone with
        | some g => c.relocate g
        | none =>
          r.src.foldl (fun (c : Chip) x =>
            let off := x.2.2 % 2 ^ 19
            let p := (x.2.2 / 2 ^ 19)
            (c.modM fun m => { m with victims := pmod m.victims p fun v => { v with reads := off :: v.reads } }).readVictim (.reclaim p off) p off) c

/-- PROGRAM_RETRY_SUBSTITUTE (R184, R297): a substitute block is named by ROW_SUBST; the strip follows when the record is durable. The slot's
later rows go there too; rows in an earlier substitute are rebuilt. -/
def Chip.stripFail (c : Chip) (i k : Nat) : Chip :=
  match c.row i with
  | none => c
  | some r =>
    if r.abandoned then c
    else if c.z.ledger.pfCommit then
      r.parts.foldl (fun c p => if (c.part p).any fun x => !x.onMedium then c.pfLand p else c) (c.modRow i fun r => { r with abandoned := true })
    else
      let n := mget 0 r.retries k + 1
      let old := ((c.rowPlace r k).map (·.1)).getD 0
      match (if n > c.prgRetry then none else (c.pool r.pool).bind c.chooseSpare) with
      | none => c.exhausted i k
      | some (d, b) =>
        let c := (c.modRow i fun r => { r with retries := mset 0 r.retries k n }).substTo i k d b
        c.post srcStripe 0x2105 [r.pool, r.row, k, old, d]

/-- Program a strip in its substitute block, which is erased first if need be (R297). -/
def Chip.substGo (c : Chip) (i k d b : Nat) : Chip :=
  match c.row i with
  | none => c
  | some r =>
    if r.abandoned || pget r.subst k != some (d, b) then c
    else if (c.bst d b).st = .erased && !(c.bst d b).pslc || (c.bst d b).st = .opened then c.issueStrip i k
    else (c.newOp (mkOp .erase d b 0 false .b (.spareErase r.pool (slotOf r.row k)))).1

/-! What becomes possible when a record is durable -/

/-- Items of a MOVE record that still stand (R152, R337, R338). -/
def Chip.moveItems (c : Chip) (r : RowRec) : List (Nat × Nat × Nat) :=
  r.src.filterMap fun x => if c.mapAt x.2.1 = x.2.2 then some (x.2.1, x.2.2, mapPool r.pool (r.row * 1024 + x.1)) else none

/-- A pair no entry points into is erased: event 0x2104 (R170). -/
def Chip.foldDone (c : Chip) (pair moved : Nat) : Chip :=
  match c.pair pair with
  | some q =>
    let held := c.z.map.any fun e => match mapDecode e.2 with
      | .basin p _ => p == pair
      | _ => false
    let live := q.units.any fun u => (c.part u.2.2.1).any fun p => !p.onMedium
    let landed := c.z.zones.any fun z => z.2.lands.any fun l => l.2.2.1 == pair
    if held || live || landed then c
    else (((c.modM fun m => { m with folds := pdel m.folds pair, marks := pdel m.marks (cisternKey (q.a / 4096) (q.a % 4096)) }).erasePair pair).post
      srcZmap 0x2104 [pair, moved]).basinLevel
  | none => c

/-- ROW_DONE is durable: a zone's tail pair goes once its rows are done (R171); a copied row's MOVE record is written (R337 step 3). The row is
forgotten. -/
def Chip.rowDurable (c : Chip) (i : Nat) : Chip :=
  match c.row i with
  | none => c
  | some r =>
    let c := (c.modZ fun z => { z with rows := pdel z.rows i }).dropParts r.parts
    match r.owner with
    | .zone g =>
      let c := c.modZone g fun z => { z with lands := z.lands.filter fun l => l.1 / 1024 != r.row }
      match (pget c.z.zPairs g).bind c.pair with
      | some q => if q.units.all fun u => ((c.part u.2.2.1).map Part.rowOk).getD true then c.dropTail g else c
      | none => c
    | .handle _ => c
    | .reclaim v =>
      if ((pget c.m.victims v).bind Victim.zone).isSome then c
      else
        let items := c.moveItems r
        let c := c.addFld F.RECLAIM_CNT_DISCARDED (r.src.length - items.length)
        if items.isEmpty then ((r.src.map fun x => x.2.2 / 2 ^ 19).eraseDups).foldl (fun (c : Chip) p => c.victimFree p) (c.victimFree v)
        else
          let seq := c.fld F.CONF_SEQ_NEXT
          ((c.setFld F.CONF_SEQ_NEXT (seq + 1)).jAppend 0 seq (.move items) [.move v items]).1
    | .fold h =>
      let items := c.moveItems r
      if items.isEmpty then ((r.src.map fun x => x.2.2 / 2 ^ 19 - 0x100000).eraseDups).foldl (fun (c : Chip) p => c.foldDone p 0) c
      else
        let seq := c.fld F.CONF_SEQ_NEXT
        ((c.setFld F.CONF_SEQ_NEXT (seq + 1)).jAppend 0 seq (.move items) [.move (2 ^ 32 + h) items]).1

/-- RECLAIM_MOVE (R152, R337 step 4): each item is applied if its entry still holds the old value; victims and pairs left empty are freed. -/
def Chip.applyMove (c : Chip) (v : Nat) (items : List (Nat × Nat × Nat)) : Chip :=
  let c := items.foldl (fun (c : Chip) x => c.moveMap x.1 x.2.1 x.2.2) c
  if v < 2 ^ 32 then
    let olds := (items.map fun x => x.2.1 / 2 ^ 19).eraseDups
    olds.foldl (fun (c : Chip) p =>
      let n := (items.filter fun x => x.2.1 / 2 ^ 19 == p).length
      (c.modM fun m => { m with victims := pmod m.victims p fun v => { v with moved := v.moved + n } }).victimFree p) c
  else
    ((items.map fun x => x.2.1 / 2 ^ 19 - 0x100000).eraseDups).foldl (fun (c : Chip) p =>
      c.foldDone p (items.filter fun x => x.2.1 / 2 ^ 19 - 0x100000 == p).length) c

/-- The MOVE record of a zone is durable: the zone lies in the new pool; the old one joins the erase queue (R186, R339). -/
def Chip.switchZone (c : Chip) (g old new : Nat) : Chip :=
  if (c.zone g).newPool = some new && (c.zone g).pool = some old then
    let moved := ((pget c.m.victims old).map Victim.rows).getD 0 * 1024
    let c := (c.modZone g fun z => { z with pool := some new, newPool := none }).modM fun m => { m with
      victims := pdel m.victims old, marks := pdel m.marks old }
    (c.freePool old).post srcReclaim 0x350C [old, moved]
  else c

/-- Act on a wait whose record is durable (R16, R19, R140, R153, R164, R298). -/
def Chip.act (c : Chip) (w : JWait) : Chip :=
  match w with
  | .row i => if (c.row i).any fun r => !r.abandoned then c.issueRow i else c
  | .zoneReset t g off => ((c.zoneEmptied g off).dropQueries g |>.zoneNotify g).actDone t g
  | .dealloc t => c.complete t .success
  | .part p => match c.part p with
    | some x => c.writeCheck x.tag
    | none => c
  | .subst i k d b => c.substGo i k d b
  | .move v items => c.applyMove v items
  | .relocate g old new => c.switchZone g old new
  | .erase o => c.sendErase o
  | .resv t => c.complete t .success
  | .tailRelease g => c.dropTail g
  | .rowDone i => c.rowDurable i
  | .pfEnd =>
    let l := c.z.ledger
    (c.modL fun l => { l with step := .off }).post srcLedger 0xA104 [(c.now - l.pfAt) / 1000, l.pfEnergy, l.landed]
  | .exhaust i k => c.exhausted i k
  | .rebuildRow p j r => if (c.pool p).any fun q => q.ptstate != 0 then c.modSlot p j fun s => { s with rDone := max s.rDone (r + 1) } else c

/-- JOURNAL_FRAME_DURABLE (R177): a mirror of a frame reports success; waits whose records are durable go on. -/
def Chip.frameDone (c : Chip) (no mirror : Nat) : Chip :=
  let (c, ws) := c.frameOk no mirror
  ws.foldl (fun c w => c.act w) c

/-! Basin pages (R18, R168, R578) -/

/-- Parts in a page of a pair. -/
def Chip.pageParts (c : Chip) (i page : Nat) : List Nat :=
  ((c.pair i).map fun q => ((q.units.filter fun u => u.1 / 16 == page).map fun u => u.2.2.1).eraseDups).getD []

/-- A copy of a page succeeded: parts whose pages succeeded on both cisterns are on the medium (R18, R151). -/
def Chip.pageOk (c : Chip) (i page copy : Nat) : Chip :=
  let c := c.modPair i fun q => { q with okCopies := (page * 2 + copy) :: q.okCopies }
  let ok := fun (n : Nat) => (c.pair i).any fun q => q.okCopies.contains (2 * n) && q.okCopies.contains (2 * n + 1)
  let ready := (c.pageParts i page).filter fun p => (c.part p).any fun x => x.pair == some i && !x.basinOk && x.pages.all ok
  let c := ready.foldl (fun c p => (c.modPart p fun x => { x with basinOk := true }).partDone p) c
  let commits := ((ready.filterMap c.part).map Part.commit).eraseDups
  (commits.foldl (fun c k => c.commitReleased k) c).retryGo

/-- BASIN_PAGE_FAIL (R578): the pair takes no further parts, and the parts of the failed page are landed in a fresh pair; event 0x2109. During the
power-fail sequence they are landed by the flush engine. -/
def Chip.pageFail (c : Chip) (i page die : Nat) : Chip :=
  let ps := (c.pageParts i page).filter fun p => (c.part p).any fun x => x.pair == some i && !x.basinOk
  let c := c.modPair i fun q => { q with closed := true, units := q.units.filter fun u => !ps.contains u.2.2.1 }
  let c := c.post srcZmap 0x2109 [i, page, die]
  ps.foldl (fun c p =>
    let c := c.modPart p fun x => { x with pair := none }
    if c.z.ledger.pfCommit then c.pfLand p else c.landPart p 0) c

/-! Erases -/

/-- An erased cistern of OWNER 1 that is in no pair joins the landing reserve until that holds R194, then a tail pair of one of the 8,192
active-zone slots (R166), then a pair of the general basin (R167); the cisterns of a pair lie on distinct members. -/
def Chip.joinBasin (c : Chip) (k : Nat) : Chip :=
  let used := c.z.landRes ++ c.z.loose ++ (c.z.freePairs ++ c.z.tailPairs).flatMap (fun x => [x.1, x.2]) ++ c.z.pairs.flatMap fun e => [e.2.a, e.2.b]
  if used.contains k then c
  else
    let dies := (c.z.landRes.map (· / 4096)).eraseDups
    let need := (2 * c.clampFld F.LEDGER_CTL_COMMIT_MAX_MIB 64 4096 + 23) / 24
    let c := if decide (c.z.landRes.length < need) || decide (dies.length < c.landDies) && !dies.contains (k / 4096) then
        c.modZ fun z => { z with landRes := z.landRes ++ [k] }
      else match c.z.loose.find? fun x => memberOf (x / 4096) != memberOf (k / 4096) with
        | none => c.modZ fun z => { z with loose := z.loose ++ [k] }
        | some o =>
          let c := c.modZ fun z => { z with loose := z.loose.filter (· != o) }
          let tails := c.z.tailPairs.length + (c.z.pairs.filter fun e => e.2.zone.isSome).length
          if tails < 8192 then c.modZ fun z => { z with tailPairs := z.tailPairs ++ [(o, k)] }
          else c.modZ fun z => { z with freePairs := z.freePairs ++ [(o, k)], totalPairs := z.totalPairs + 1 }
    Chip.commitAll (c.basinLevel.ledgerPump)

/-- A cistern of a pair was erased: when both are, the pair is free for its role again (R166, R167, R194). -/
def Chip.cisternErased (c : Chip) (die block : Nat) : Chip :=
  let k := bkey die block
  match pfind c.z.pairs fun _ q => q.closed && q.units.isEmpty && (q.a == k || q.b == k) with
  | some (i, q) =>
    let ok := fun (x : Nat) => (c.bst (x / 4096) (x % 4096)).st == BState.erased
    if ok q.a && ok q.b then
      let c := c.modZ fun z => { z with
        pairs := pdel z.pairs i
        tailPairs := if q.zone.isSome then z.tailPairs ++ [(q.a, q.b)] else z.tailPairs
        landRes := if q.landing then z.landRes ++ [q.a, q.b] else z.landRes
        freePairs := if q.zone.isNone && !q.landing then z.freePairs ++ [(q.a, q.b)] else z.freePairs }
      Chip.commitAll (c.basinLevel.ledgerPump)
    else c
  | none =>
    if (c.bst die block).owner = 6 then c.spareRetry
    else if (c.bst die block).owner = 1 then c.joinBasin k
    else c

/-- The erase of a cistern of a pair failed: the pair is gone, and its good cistern is joined to another one once it is erased (R19, R297). -/
def Chip.cisternBad (c : Chip) (die block : Nat) : Chip :=
  let k := bkey die block
  match pfind c.z.pairs fun _ q => q.closed && q.units.isEmpty && (q.a == k || q.b == k) with
  | some (i, q) =>
    let c := c.modZ fun z => { z with
      pairs := pdel z.pairs i
      totalPairs := if q.zone.isNone && !q.landing then z.totalPairs - 1 else z.totalPairs }
    let o := if q.a = k then q.b else q.a
    if (c.bst (o / 4096) (o % 4096)).st == BState.erased then c.joinBasin o else c.basinLevel
  | none => c

/-- A block of a pool in the erase queue was erased or failed (R137, R354): a pool whole again joins the reserve; one with a failed block is
dissolved. -/
def Chip.poolErased (c : Chip) (p : Nat) : Chip :=
  match c.pool p with
  | none => c
  | some q =>
    if q.ptstate != 3 then c
    else if c.mustDissolve q then
      if c.m.ops.any fun (e : Nat × Op) => match e.2.purpose with
        | .poolErase x _ => x == p
        | _ => false then c else c.dissolve p
    else if q.slots.all fun s => (c.bst s.die s.block).st == BState.erased && !(c.bst s.die s.block).pslc then
      ((c.modPool p fun q => { q with ptstate := 1, done := [], lost := [], firstAt := none, fullAt := none }).modZ fun z => { z with
        eraseQ := z.eraseQ.filter (· != p), reserve := z.reserve ++ [p] }).touch (segPools p)
    else c

/-- A spare was prepared: strips that wait for it are programmed (R297). -/
def Chip.spareReady (c : Chip) (die block : Nat) : Chip :=
  c.z.rows.foldl (fun c r => r.2.subst.foldl (fun c s =>
    if s.2 = (die, block) && !r.2.okStrips.contains s.1 then c.substGo r.1 s.1 die block else c) c) c.spareRetry

/-- The preparation of a spare failed: another one is chosen (R184, R361). -/
def Chip.spareFail (c : Chip) (p j die block : Nat) : Chip :=
  let c := c.modSlot p j fun s => if s.r = some (die, block) then { s with r := none, rDone := 0, pstate := 1 } else s
  c.z.rows.foldl (fun c r => r.2.subst.foldl (fun c s => if s.2 = (die, block) && !r.2.okStrips.contains s.1 then c.stripFail r.1 s.1 else c) c) c

/-! The end of an operation -/

/-- A row of a rebuild was programmed, or failed (R361, R364). -/
def Chip.rebuilt (c : Chip) (p j row : Nat) (ok : Bool) : Chip :=
  let c := (c.modM fun m => { m with rbRow := none }).releaseTokens rbKey
  match (c.pool p).bind fun q => q.slots[j]? with
  | none => c
  | some s =>
    if s.r.isNone then c
    else if ok then
      let c := c.modM fun m => { m with rbTimes := c.now :: m.rbTimes.filter fun t => decide (c.now < t + seconds 60) }
      let c := (c.modSlot p j fun s => { s with rDone := row + 1 }).touch (segPools p)
      if (c.pool p).any fun q => (q.slots[j]?).any fun s => decide (s.rDone ≥ q.goal s) then c.slotRebuilt p j else c
    else ((c.modSlot p j fun s => { s with r := none, rDone := 0, pstate := 1 }).touch (segPools p)).post srcStripe 0x4008 [p, j, 0]

/-- A suspension is confirmed, or met the end of the operation (R209, R212, R214). From PF_COMMIT on the operation is resumed at once (R216). -/
def Chip.suspended (c : Chip) (die i : Nat) (confirmed : Bool) : Chip :=
  match c.op i with
  | some o =>
    if confirmed then
      let c := c.modOp i fun o => { o with stage := .suspended, ran := o.ran + (c.now - o.runAt), suspends := o.suspends + 1, wasSusp := true }
      ((c.modDie die fun d => { d with st := if o.rt = .erase then .ersSusp else .prgSusp, confAt := some c.now, served := 0 }).addFld
        F.SCHED_CNT_SUSPENDS 1).dieNext die
    else c.modDie die fun d => { d with susp := none, confAt := none }
  | none => (c.modDie die fun d => { d with susp := none, confAt := none }).arrayFree die

/-- The operation resumed runs on from T_RESUME after the resume command (R305). -/
def Chip.resumed (c : Chip) (i : Nat) : Chip := c.modOp i fun o => { o with stage := .running, phase := .poll, runAt := c.now + c.profNs Profile.tResume }

/-- A firmware read delivers its code units to the decoder (R281, R282). -/
def Chip.firmwareReads (c : Chip) (i : Nat) (o : Op) : Chip :=
  (List.range o.cuCount).foldl (fun c k =>
    let base := mkRd (.firmware i) ⟨o.die, o.block, o.wl, o.cuFirst + k, o.pslc⟩ none none (o.buf, o.cuFirst) false
    (c.newRd { base with here := true, await := true }).1) c

/-- A die is usable again: erases that its fault left unfinished are issued again with REASON 0x3 (R300, R354). -/
def Chip.eraseLeft (c : Chip) (die : Nat) : Chip :=
  let left := c.m.bst.filter fun e => e.1 / 4096 == die && e.2.st == .incomplete &&
    !(c.m.ops.any fun x => x.2.rt == .erase && x.2.die == die && x.2.block == e.1 % 4096)
  left.foldl (fun (c : Chip) e =>
    let again := fun (p : Purpose) => (c.newOp (mkOp .erase die (e.1 % 4096) 0 e.2.pslc .b p)).1
    match pfind c.m.pools fun _ q => q.ptstate == 3 && q.slots.any fun s => (s.die, s.block) == (die, e.1 % 4096) with
    | some (p, _) => again (.poolErase p 0)
    | none => if (c.z.pairs.any fun x => x.2.closed && x.2.units.isEmpty && (x.2.a == e.1 || x.2.b == e.1)) then again (.blockErase 3) else c) c

/-- What the end of an operation means to its requester (R272). -/
def Chip.requester (c : Chip) (i : Nat) (o : Op) (st : SeqStatus) : Chip :=
  let ok := st = .success
  match o.purpose with
  | .strip r k =>
    if ok || (c.fuses.grade = 2 && st = .memberLost) then
      let c := c.modRow r fun x => { x with okStrips := if x.okStrips.contains k then x.okStrips else k :: x.okStrips }
      if (c.row r).any fun x => decide (x.okStrips.length = 18) then c.rowSuccess r else c
    else c.stripFail r k
  | .basinPage p n k => if ok then c.pageOk p n k else c.pageFail p n o.die
  | .frame n m => if ok then c.frameDone n m else c.frameFailed o.die o.block n
  | .segment k cp => if ok then c.segPageOk k cp else c.segPageFail k cp
  | .recorder a n k =>
    if ok then c.recorderOk a n k
    else match c.ev.clear with
      | some j => if a = 3 && j.copies.contains k then (c.modEv fun e => { e with clear := some { j with copies := [0, 1, 2] } }).counterCkpt .d1 [] else c
      | none => c
  | .landPage p q n k => if ok then c.landOk p q n k else c.landFail p q o.die
  | .read r =>
    if (c.rd r).any fun x => x.for_ == .discard then c.endRd r
    else if ok then c.modRd r fun x => { x with await := true } else c.readOpFailed r
  | .poolErase p k => if st = .bridgeError then (c.newOp (mkOp .erase o.die o.block 0 false .b (.poolErase p k))).1 else c.poolErased p
  | .blockErase _ =>
    if ok then c.cisternErased o.die o.block
    else if st = .bridgeError then (c.newOp (mkOp .erase o.die o.block 0 o.pslc .b (.blockErase 3))).1
    else if st = .dieFault || st = .dieTimeout then c
    else c.cisternBad o.die o.block
  | .spareErase p j => if ok then c.spareReady o.die o.block else c.spareFail p j o.die o.block
  | .rebuildStrip p j r => c.rebuilt p j r ok
  | .suspendOf x => c.suspended o.die x (decide (st = .suspended))
  | .resumeOf x => if ok then c.resumed x else c
  | .firmware _ d f =>
    let c := c.fcqDone o d f st
    if ok && o.rt.isRead then c.firmwareReads i o else c
  | .copyPage k n => c.copyPage k n ok
  | .dieClear => if ok then (c.modDie o.die fun d => { d with faulted := false, identifying := false, st := .idle }).eraseLeft o.die else c.modDie o.die fun d => { d with identifying := false }

/-- The end of an operation (R191, R206, R272, R288): block states, charge and tokens, its requester, and the next operation of its die. A program
refused for temperature waits to be posted again (R302). -/
def Chip.opDone (c : Chip) (i : Nat) (st : SeqStatus) : Chip :=
  match c.op i with
  | none => c
  | some o =>
    let isFw := match o.purpose with
      | .firmware .. => true
      | _ => false
    if st = .tooCold && !isFw then
      let c := c.modDie o.die fun d => { d with queue := d.queue.filter (· != i), posted := d.posted.filter (· != i) }
      ((c.modOp i fun o => { o with stage := .cold, charge := 0, tokens := 0 }).opReported i).arrayFree o.die
    else
      let c := c.bstEnd o st
      let c := if o.rt.isRead && (c.die o.die).susp.isSome then c.modDie o.die fun d => { d with served := d.served + 1 } else c
      let c := ((c.endOp i).requester i o st).relocNext
      match o.purpose with
      | .suspendOf _ => if st = .suspended then c else c.arrayFree o.die
      | .resumeOf _ => c
      | _ => c.arrayFree o.die

end Sys2Proof.Machine
end

