-- ==== Sys2Proof/Machine/Seq.lean ====
section
/-! DEFINITION. The media sequencers: checks and routines, frames and their ends, polling, faults, firmware's queues, the block state
commands, and the decoders (R272 to R312, R318). -/

namespace Sys2Proof.Machine

/-- The numeric order of a signed 16-bit reading. -/
def signed16 (v : Nat) : Int := if v % 65536 ≥ 32768 then (v % 65536 : Int) - 65536 else v % 65536

/-- PROG_MIN_Q as taken (R482): never below 0xFFEC. -/
def Chip.progMin (c : Chip) : Int := max (-20) (signed16 (c.fld F.RESV_TLIM_PROG_MIN_Q))

/-- The temperature a program is judged by (R301): the sub-channel's sensor, otherwise the bridge's, if one is valid. -/
def Chip.progTemp (c : Chip) (die : Nat) : Option Int :=
  let i := memberOf die * 9
  let s := i + 1 + subOf die
  if c.flag F.BINOR_TEMP_VALID s then some (signed16 (c.fld F.BINOR_TEMP_VALUE s))
  else if c.flag F.BINOR_TEMP_VALID i then some (signed16 (c.fld F.BINOR_TEMP_VALUE i))
  else none

/-! The checks of R283 -/

/-- Check 5 for programs (R295). -/
def Chip.programCheck (c : Chip) (o : Op) : Option SeqStatus :=
  let b := c.bst o.die o.block
  let slc := o.rt = .programSlc
  if b.bad then some .targetDefect
  else if b.pslc != slc || o.pslc != slc then some .modeMismatch
  else if b.st != .erased && b.st != .opened then some .targetNotErased
  else if o.wl < b.ptr then some .targetNotErased
  else if o.wl > b.ptr then some .outOfOrder
  else none

/-- Check 5 for erases (R299). -/
def Chip.eraseCheck (c : Chip) (o : Op) : Option SeqStatus :=
  let b := c.bst o.die o.block
  if b.bad then some .targetDefect else if b.st = .erasing then some .targetBusy else none

/-- A read of what a suspended operation is working on (R304). -/
def Chip.readBusy (c : Chip) (o : Op) : Bool :=
  ((c.die o.die).susp.bind c.op).any fun x =>
    x.block == o.block && (x.rt == .erase || o.wl + 1 == (c.bst x.die x.block).ptr)

/-- Check 3 for a member (R283, R311): lost, or back with its slots still degraded, which leaves only its bridge to be reached. -/
def Chip.portLost (c : Chip) (rt : Routine) (p : Nat) : Bool :=
  if rt = .bridgeReg then c.flag F.BINOR_STAT_LOST p else c.memberLost p

/-- Checks 3 to 6 of R283, made when the sequencer takes a descriptor. -/
def Chip.seqCheck (c : Chip) (o : Op) : Option SeqStatus :=
  let d := c.die o.die
  if c.portLost o.rt (memberOf o.die) then some .memberLost
  else if d.faulted && !(d.identifying && o.rt = .dieIdentify) && o.rt != .bridgeReg then some .dieFault
  else if (d.st = .prgSusp || d.st = .ersSusp) && !o.rt.isRead && o.rt != .resume && o.rt != .bridgeReg then some .targetBusy
  else if o.rt.isRead && c.readBusy o then some .targetBusy
  else
    let five := if o.rt.isProgram then c.programCheck o else if o.rt = .erase then c.eraseCheck o else none
    match five with
    | some st => some st
    | none =>
      if o.rt.isProgram && o.cls != .rt && (match c.progTemp o.die with
        | some t => decide (t < c.progMin)
        | none => true) then some .tooCold else none

/-- MEDIA_TOO_COLD (R301): counted; event 0x300A once per sub-channel each time refusal begins. -/
def Chip.coldRefusal (c : Chip) (o : Op) : Chip :=
  let p := memberOf o.die
  let key := p * 8 + subOf o.die
  let c := c.addFld F.SEQ_CNT2_COLD 1 p
  if c.m.cold.contains key then c
  else (c.modM fun m => { m with cold := key :: m.cold }).post (srcSeq p) 0x300A [o.die / 16, ((c.progTemp o.die).map fun t => (t % 65536).toNat).getD 0]

/-- A routine is taken for execution, in the order its die's descriptors were posted (R276): checks, then its first frame (R281). -/
def Chip.runRoutine (c : Chip) (i : Nat) (rt : Routine) : Chip :=
  match c.op i with
  | none => c
  | some o =>
    let first := (c.die o.die).posted.find? fun x => (c.op x).any fun y => y.stage == .posted
    if o.stage = .posted && o.rt = rt && first = some i then
      match c.seqCheck o with
      | none => c.startOp i
      | some .tooCold => ((c.refused o .tooCold).coldRefusal o).opDone i .tooCold
      | some st => (c.refused o st).opDone i st
    else c

/-- ROUTINE_READ (R281). -/
def execRoutineRead (op : Nat) (s : State) : Outcome := onChipMem (fun c => c.runRoutine op .read) s
/-- ROUTINE_READ_RETRY (R281). -/
def execRoutineReadRetry (op : Nat) (s : State) : Outcome := onChipMem (fun c => c.runRoutine op .readRetry) s
/-- ROUTINE_SOFT_READ (R281). -/
def execRoutineSoftRead (op : Nat) (s : State) : Outcome := onChipMem (fun c => c.runRoutine op .softRead) s
/-- ROUTINE_PROGRAM_QLC (R286, R295). -/
def execRoutineProgramQlc (op : Nat) (s : State) : Outcome := onChipMem (fun c => c.runRoutine op .programQlc) s
/-- ROUTINE_PROGRAM_SLC (R286, R295). A refused firmware descriptor is completed in memory. -/
def execRoutineProgramSlc (op : Nat) (s : State) : Outcome := onChipMem (fun c => c.runRoutine op .programSlc) s
/-- ROUTINE_ERASE (R298, R299). -/
def execRoutineErase (op : Nat) (s : State) : Outcome := onChipMem (fun c => c.runRoutine op .erase) s
/-- ROUTINE_SUSPEND (R303). -/
def execRoutineSuspend (op : Nat) (s : State) : Outcome := onChipMem (fun c => c.runRoutine op .suspend) s
/-- ROUTINE_RESUME (R305). -/
def execRoutineResume (op : Nat) (s : State) : Outcome := onChipMem (fun c => c.runRoutine op .resume) s
/-- ROUTINE_STATUS (R281). -/
def execRoutineStatus (op : Nat) (s : State) : Outcome := onChipMem (fun c => c.runRoutine op .status) s
/-- ROUTINE_PARAM_SET (R281). -/
def execRoutineParamSet (op : Nat) (s : State) : Outcome := onChipMem (fun c => c.runRoutine op .paramSet) s
/-- ROUTINE_DIE_IDENTIFY (R306). -/
def execRoutineDieIdentify (op : Nat) (s : State) : Outcome := onChipMem (fun c => c.runRoutine op .dieIdentify) s
/-- ROUTINE_BRIDGE_REG (R257, R263). -/
def execRoutineBridgeReg (op : Nat) (s : State) : Outcome := onChipMem (fun c => c.runRoutine op .bridgeReg) s

/-! Faults (R310) -/

/-- Everything with the sequencer for a die ends with a status; then what is queued on it is refused by check 3. -/
def Chip.endDie (c : Chip) (die : Nat) (st queued : SeqStatus) : Chip :=
  let c := (c.die die).posted.foldl (fun c i => c.opDone i st) c
  let c := c.modDie die fun d => { d with susp := none, confAt := none }
  (c.die die).queue.foldl (fun c i => ((c.op i).elim c fun o => c.refused o queued).opDone i queued) c

/-- DIE_FAULT (R310): the die is marked and BLOCKED; event 0x3006 with the cause, 0 sub-channel fault, 1 implausible status, 2 mismatch, or 0x3005 for
a timeout. -/
def Chip.dieFault (c : Chip) (die : Nat) (st : SeqStatus) (cause : Nat) (o : Op) : Chip :=
  let p := memberOf die
  let c := if st = .dieTimeout then (c.addFld F.SEQ_CNT2_DIE_TMO 1 p).post (srcSeq p) 0x3005 [die, o.rt.code, c.elapsed o / 1000]
    else c.post (srcSeq p) 0x3006 [die, cause]
  let c := (c.modDie die fun d => { d with faulted := true }).dieBlocked die
  c.endDie die st .dieFault

/-! Polling (R285, R303, R306) -/

/-- What a status byte shows (R284, R310). -/
def Chip.statusMeaning (c : Chip) (b : Nat) : Option Nat := c.m.profile.bind fun p => pget p.status b

/-- The SUSPEND under way on a die. -/
def Chip.suspendOp (c : Chip) (die : Nat) : Option Nat :=
  (c.die die).posted.find? fun i => (c.op i).any fun o => o.rt == .suspend

/-- The die shows ready: what the routine does then. `st` is 1 ready and passed, 2 ready and failed, 3 ready and suspended. -/
def Chip.dieReady (c : Chip) (i : Nat) (o : Op) (st : Nat) : Chip :=
  match o.rt with
  | .read | .readRetry | .softRead => (c.modOp i fun o => { o with phase := .out }).opFrame i o .out o.cuCount
  | .programQlc | .programSlc =>
    if st = 3 then c
    else if o.step = 1 then c.opDone i .bridgeError
    else c.opDone i (if st = 1 then .success else .programFail)
  | .erase =>
    if st = 3 then c
    else if o.step = 1 then c.opDone i .bridgeError
    else c.opDone i (if st = 1 then .success else .eraseFail)
  | .suspend =>
    if st = 3 then c.opDone i .suspended
    else match o.purpose with
      | .suspendOf x =>
        match c.op x with
        | some y =>
          let c := c.modOp x fun y => { y with dieStatus := o.dieStatus }
          (c.opDone x (if st = 1 then .success else if y.rt = .erase then .eraseFail else .programFail)).opDone i .completedInstead
        | none => c.opDone i .completedInstead
      | _ => c.opDone i .completedInstead
  | .dieIdentify =>
    if o.phase = .poll then (c.modOp i fun o => { o with phase := .reset }).opFrame i o .sense 0
    else (c.modOp i fun o => { o with phase := .ident }).opFrame i o .out 1
  | .status => c.opDone i .success
  | _ => c

/-- The result of a poll (R285, R310): three implausible bytes in a row mark the die faulted. -/
def Chip.polled (c : Chip) (i : Nat) (o : Op) (b : Nat) : Chip :=
  match c.statusMeaning b with
  | none =>
    if o.badPolls + 1 ≥ 3 then c.dieFault o.die .dieFault 1 o
    else c.modOp i fun o => { o with badPolls := o.badPolls + 1, dieStatus := b }
  | some m =>
    let c := c.modOp i fun o => { o with badPolls := 0, dieStatus := b, step := if m = 0 && !o.rt.isRead then 0 else o.step }
    match c.op i with
    | none => c
    | some o => if o.rt = .status then c.opDone i .success else if m = 0 then c else c.dieReady i o m

/-- The busy limit of an operation in ns (R284, R285). -/
def Chip.busyMax (c : Chip) (o : Op) : Nat :=
  c.profNs (match o.rt with
    | .read | .readRetry | .softRead => Profile.maxR
    | .programQlc | .programSlc => Profile.maxProg
    | _ => Profile.maxBers)

/-- The poll interval of an operation in ns (R285, R303). -/
def Chip.pollEvery (c : Chip) (o : Op) : Nat :=
  match o.rt with
  | .suspend => us 5
  | .read | .readRetry | .softRead => c.profNs Profile.pollR
  | .programQlc | .programSlc => c.profNs Profile.pollP
  | _ => c.profNs Profile.pollE

/-- STATUS_POLL_TIMER (R285, R303, R306): a STATUS frame is sent at the nominal time and every interval after it; past the busy limit the routine
ends with DIE_TIMEOUT. A SUSPEND shares the limit of its operation. -/
def execStatusPollTimer (op : Nat) (s : State) : Outcome :=
  onChipMem (fun c =>
    match c.op op with
    | none => c
    | some o =>
      let polls := o.stage = .running && (o.phase = .poll || o.phase = .resetPoll)
      let out := (c.link (memberOf o.die)).frames.any fun f => f.op == some op
      if !polls || out then c
      else
        let c := if o.rt = .suspend || !o.started then c else c.advanceTo (o.runAt + (c.nominal o - o.ran))
        let held := match o.purpose with
          | .suspendOf x => (c.op x).getD o
          | _ => o
        let ran := if o.rt = .dieIdentify then c.now - o.runAt else c.elapsed held
        if ran > c.busyMax held then c.dieFault o.die .dieTimeout 0 held
        else c.opFrame op o .poll 0) s

/-! Ends of frames (R254 to R257, R281, R286, R309) -/

/-- A code unit of a read operation is with a decoder: the reads it serves. -/
def Chip.readsOf (c : Chip) (i : Nat) (o : Op) : List Nat :=
  match o.purpose with
  | .read r => [r]
  | _ => (c.m.rds.filter fun e => e.2.for_ == .firmware i).map (·.1)

/-- A read's data has left the die. A READ_RETRY keeps its place until an attempt decodes (R281). -/
def Chip.dataOut (c : Chip) (i : Nat) (o : Op) : Chip :=
  if o.rt = .readRetry then
    let c := if (c.readsOf i o).isEmpty then c.firmwareReads i o else c
    let c := c.modOp i fun o => { o with phase := .decode }
    (c.readsOf i o).foldl (fun c r => c.modRd r fun x => { x with await := true, idx := o.retryIdx + o.step }) c
  else c.opDone i .success

/-- The identification was read (R306): it matches the profile, or the die is faulted. -/
def Chip.identified (c : Chip) (i : Nat) (o : Op) : Chip :=
  let id := (o.raw.map (·.2)).flatten
  let want := (c.m.profile.map Profile.idMatch).getD []
  let c := match o.purpose with
    | .firmware .. => c.put o.buf (padTo 512 id)
    | _ => c
  if id.take want.length = want then c.opDone i .success
  else (c.opDone i .profileMismatch).dieFault o.die .dieFault 2 o

/-- A CMD frame of an operation was executed (CMP OK). -/
def Chip.frameOkCmd (c : Chip) (i : Nat) (o : Op) (kind : FrameKind) (sb : List Nat) : Chip :=
  match kind with
  | .sense =>
    match o.rt with
    | .resume | .paramSet => c.opDone i .success
    | .dieIdentify => c.modOp i fun o => { o with phase := .resetPoll }
    | _ => c.modOp i fun o => { o with phase := .poll }
  | .start => c.modOp i fun o => { o with phase := .poll }
  | .din => match o.phase with
    | .data k => c.sendDin i o k
    | _ => c
  | .out => if o.rt = .dieIdentify then c.identified i o else c.dataOut i o
  | .poll => match sb.getLast? with
    | some b => c.polled i o b
    | none => c
  | .reg | .hb => c

/-- CMP_RECEIVED (R256): credits return; OK goes on with the routine, MALFORMED and CHUNK_ERROR end it with BRIDGE_ERROR, SCH_FAULT marks the die
faulted, LINK_LOST ends it with MEMBER_LOST. -/
def execCmpReceived (port tag result : Nat) (sb : List Nat) (cycles : Nat) (s : State) : Outcome :=
  onChipMem (fun c =>
    match (c.link port).frames.find? fun f => f.tag == tag && f.ftype == 1 with
    | none => c
    | some f =>
      let c := c.endFrame port tag
      match f.op.bind fun i => (c.op i).map fun o => (i, o) with
      | none => c
      | some (i, o) =>
        match result with
        | 0x00 => if cycles = 0 then c else c.frameOkCmd i o f.kind sb
        | 0x03 => c.dieFault o.die .dieFault 0 o
        | 0xF0 => c.opDone i .memberLost
        | _ => c.opDone i .bridgeError) s

/-- DATA_R_RECEIVED (R255): the bytes a DOUT cycle of a frame captured. -/
def execDataRReceived (port tag idx : Nat) (bytes : List Byte) (s : State) : Outcome :=
  onChip (fun c =>
    match ((c.link port).frames.find? fun f => f.tag == tag && f.ftype == 1).bind BFrame.op with
    | some i => c.modOp i fun o => { o with raw := pset o.raw idx bytes }
    | none => c) s

/-- REG_RSP_RECEIVED (R257): register data of a BRIDGE_REG routine; MALFORMED ends it with BRIDGE_ERROR. -/
def execRegRspReceived (port tag result data : Nat) (s : State) : Outcome :=
  onChipMem (fun c =>
    match (c.link port).frames.find? fun f => f.tag == tag && (f.ftype == 3 || f.ftype == 4) with
    | none => c
    | some f =>
      let c := c.endFrame port tag
      match f.op.bind fun i => (c.op i).map fun o => (i, o) with
      | none => c
      | some (i, o) =>
        if result = 0 then
          let c := if o.param = 1 && o.block * 65536 + o.wl = 0x48 then c.modLink port fun l => { l with talarm := o.pdata } else c
          (c.modOp i fun o => { o with pdata := if o.param = 0 then data else o.pdata }).opDone i .success
        else c.opDone i .bridgeError) s

/-- FRAME_TIMEOUT (R309): a CMD frame without CMP is lost; event 0x3009 with the action, 0 sent once more, 1 polled, 2 program restarted, 3 ended. -/
def execFrameTimeout (port tag : Nat) (s : State) : Outcome :=
  onChipMem (fun c =>
    match (c.link port).frames.find? fun f => f.tag == tag && f.ftype == 1 with
    | none => c
    | some f =>
      let c := c.advanceTo (f.sentAt + us (max 50 (c.fld F.SEQ_TMO_FRAME_US port)))
      let c := (c.addFld F.SEQ_CNT2_FRAME_LOST 1 port).endFrame port tag
      let note := fun (c : Chip) (a : Nat) => c.post (srcSeq port) 0x3009 [port, tag, a]
      match f.op.bind fun i => (c.op i).map fun o => (i, o) with
      | none => note c 3
      | some (i, o) =>
        match f.kind with
        | .start => (note c 1).modOp i fun o => { o with phase := .poll, step := 1 }
        | .din =>
          if o.lost ≥ 1 then (note c 3).opDone i .bridgeError
          else (((note c 2).dropSlots o).modOp i fun o => { o with lost := o.lost + 1, phase := .data 0 }).sendDin i o 0
        | k =>
          if o.lost ≥ 1 then (note c 3).opDone i .bridgeError
          else ((note c 0).modOp i fun o => { o with lost := o.lost + 1 }).opFrame i o k f.slots) s

/-! The decoders (R318, R281) -/

/-- A code unit of a READ_RETRY left its decoder: it succeeds at this attempt, or the next one is sensed, up to PARAM of them (R281). -/
def Chip.retryDecode (c : Chip) (rd i : Nat) (r : Rd) (o : Op) (d : DecodeRes) : Chip :=
  let ok := d.ok && !miscorrected r d.bytes
  let last := decide (o.step + 1 ≥ o.param)
  if ok || last then
    let others := (c.readsOf i o).filter (· != rd)
    let waits := others.any fun x => (c.rd x).any fun y => y.await
    let c := if waits then c else c.opDone i .success
    match c.rd rd with
    | some r => c.decodeDone rd { r with idx := o.retryIdx + o.step } d
    | none => c
  else
    let r := if d.weight < r.weight then { r with weight := d.weight, best := o.retryIdx + o.step } else r
    let c := c.modRd rd fun x => { x with await := false, weight := r.weight, best := r.best }
    if (c.readsOf i o).any fun x => (c.rd x).any fun y => y.await then c
    else (c.modOp i fun o => { o with step := o.step + 1, phase := .start, raw := [], lost := 0 }).opFrame i { o with step := o.step + 1 } .sense 0

/-- A code unit leaves a decoder. -/
def Chip.decodeEnds (c : Chip) (rd : Nat) (soft : Bool) (d : DecodeRes) : Chip :=
  match c.rd rd with
  | none => c
  | some r =>
    let fw := match r.for_ with
      | .firmware _ => true
      | _ => false
    if !r.await || (!fw && decide (r.level ≥ 3) != soft) then c
    else
      let oid := match r.for_ with
        | .firmware i => some i
        | _ => r.op
      match oid.bind fun i => (c.op i).map fun o => (i, o) with
      | some (i, o) => if o.rt = .readRetry && o.phase = .decode then c.retryDecode rd i r o d else c.decodeDone rd r d
      | none => c.decodeDone rd r d

/-- HARD_DECODE_DONE (R318). -/
def execHardDecodeDone (rd : Nat) (res : DecodeRes) (s : State) : Outcome := onChipMem (fun c => c.decodeEnds rd false res) s
/-- SOFT_DECODE_DONE (R318). -/
def execSoftDecodeDone (rd : Nat) (res : DecodeRes) (s : State) : Outcome := onChipMem (fun c => c.decodeEnds rd true res) s

/-! Firmware's queues (R204, R273 to R278, R283, R294) -/

/-- FDQ_TAIL_WRITE (R273). -/
def execFdqTailWrite (port tail : Nat) (s : State) : Outcome :=
  onChip (fun c => if port < 36 then c.setFld F.SEQ_FDQ_PTR_TAIL tail port else c) s

/-- FCQ_HEAD_WRITE (R275). -/
def execFcqHeadWrite (port head : Nat) (s : State) : Outcome :=
  onChip (fun c =>
    if port < 36 then
      let c := c.setFld F.SEQ_FCQ_PTR_HEAD head port
      c.setFld F.SEQ_STAT_FCQ_FULL (b2n (c.fcqFull port)) port
    else c) s

/-- A descriptor of 64 bytes as an operation (R277). -/
def descOp (port : Nat) (rt : Routine) (b : List Byte) : Op :=
  let die := port * 128 + numAt b 9 1 % 8 * 16 + numAt b 10 1 % 16
  { mkOp rt die (numAt b 12 2) (numAt b 14 2) (bitOf (numAt b 2 2) 1) (if numAt b 1 1 = 3 then .b else .d1)
      (.firmware port (numAt b 4 4) (numAt b 2 2)) with
    cuFirst := numAt b 0x18 1, cuCount := numAt b 0x19 1, retryIdx := numAt b 0x1A 1, param := numAt b 0x1B 1, pdata := numAt b 0x1C 4
    buf := numAt b 0x10 8 % 2 ^ 48 }

/-- Check 1 of R283 for a firmware descriptor: class, member and the ranges of R277 and R281. -/
def Chip.descOk (c : Chip) (port : Nat) (o : Op) (b : List Byte) : Bool :=
  let cls := numAt b 1 1
  let named := o.rt.isRead || o.rt.isProgram || o.rt = .erase
  let planes := numAt b 11 1
  (cls = 2 || cls = 3) && numAt b 8 1 = port && numAt b 9 1 < 8 && numAt b 10 1 < 16 &&
  (!named || decide (o.block < c.blocks)) &&
  (!(o.rt.isRead || o.rt.isProgram) || decide (o.wl < 384)) &&
  (!(o.rt.isProgram || o.rt = .erase) || planes = 0xF) &&
  (!o.rt.isRead || (decide (1 ≤ o.cuCount ∧ o.cuCount ≤ 16 ∧ o.retryIdx ≤ 47 ∧ planes ≤ 0xF) &&
    (if o.pslc then decide (o.cuFirst + o.cuCount ≤ 16)
     else decide (o.cuFirst + o.cuCount ≤ 64 ∧ o.cuFirst / 16 = (o.cuFirst + o.cuCount - 1) / 16)))) &&
  (o.rt != .readRetry || decide (1 ≤ o.param ∧ o.param ≤ 48)) &&
  (o.rt != .softRead || o.param = 2 || o.param = 4) &&
  (o.rt != .erase || decide (1 ≤ o.param ∧ o.param ≤ 5)) &&
  (o.rt != .bridgeReg || o.param ≤ 1)

/-- Check 2: what firmware may post, and where (R281, R294). -/
def Chip.descPermitted (c : Chip) (o : Op) : Bool :=
  match o.rt with
  | .programQlc | .suspend | .resume => false
  | .programSlc => (c.bst o.die o.block).owner = 5
  | .erase => (c.bst o.die o.block).owner = 5 || (c.bst o.die o.block).owner = 6
  | .paramSet => (c.m.profile.map Profile.features).any fun l => l.contains o.param
  | _ => true

/-- An FDQ entry is read (R274, R283): refused at once into the FCQ, or on its way to its die; `data` is what BUF holds for a program. -/
def Chip.takeDesc (c : Chip) (port : Nat) (b : List Byte) (data : List (List Byte)) : Chip :=
  match routineOf (numAt b 0 1) with
  | none =>
    let o := descOp port .status b
    ((c.refused o .invalidDescriptor).fcqEntry port (numAt b 4 4) (numAt b 0 1) SeqStatus.invalidDescriptor.code 0 0 0 0 0 0 (bitOf (numAt b 2 2) 0))
  | some rt =>
    let o := descOp port rt b
    let bad := if !c.descOk port o b then some SeqStatus.invalidDescriptor
      else if !c.descPermitted o then some .notPermitted
      else if c.portLost rt port then some .memberLost
      else if rt != .bridgeReg && (c.die o.die).faulted then some .dieFault
      else none
    match bad with
    | some st => (c.refused o st).fcqDone o (numAt b 4 4) (numAt b 2 2) st
    | none => (c.newOp { o with data := if rt = .programSlc then data else [] }).1

/-- FDQ_ENTRY_READ (R274, R275): the entry at HEAD, unless the FDQ is empty or the FCQ full. -/
def execFdqEntryRead (port : Nat) (s : State) : Outcome :=
  onState (fun s =>
    let c := s.chip
    let head := c.fld F.SEQ_FDQ_PTR_HEAD port % c.fdqSize port
    if port ≥ 36 || !c.flag F.SEQ_CTL_FDQ_EN port || !c.flag F.SEQ_CTL_EN port || head = c.fld F.SEQ_FDQ_PTR_TAIL port % c.fdqSize port
        || c.fcqFull port then s
    else
      let b := readBytes s (c.fld F.SEQ_FDQ_BASE port * 4096 + 64 * head) 64
      let buf := numAt b 0x10 8 % 2 ^ 48
      let data := if numAt b 0 1 = 5 then (List.range 16).map fun k => readBytes s (buf + 4608 * k) 4608 else []
      let c := c.setFld F.SEQ_FDQ_PTR_HEAD ((head + 1) % c.fdqSize port) port
      flushWrites { s with chip := c.takeDesc port b data }) s

/-! The block state commands (R293) and DIECLR (R310) -/

/-- The fields of SEQn_BSTCMD after a command. -/
def Chip.bstCmd (c : Chip) (op die block owner result : Nat) : Chip :=
  let p := memberOf die
  ((((((c.setFld F.SEQ_BSTCMD_OP op p).setFld F.SEQ_BSTCMD_OWNER owner p).setFld F.SEQ_BSTCMD_SCH (subOf die) p).setFld F.SEQ_BSTCMD_DIE
    (die % 16) p).setFld F.SEQ_BSTCMD_BLOCK block p).setFld F.SEQ_BSTCMD_RESULT result p)

/-- SET_OWNER (R293): only while the block is ERASED or ERASE_INCOMPLETE. -/
def execSetOwner (die block owner : Nat) (s : State) : Outcome :=
  onChip (fun c =>
    let b := c.bst die block
    let res := if block ≥ c.blocks || owner > 6 then 2 else if b.st = .erased || b.st = .incomplete then 0 else 1
    let c := c.bstCmd 1 die block owner res
    if res = 0 then (c.modBst die block fun b => { b with owner := owner }).touch (segTable (memberOf die)) else c) s

/-- MARK_BAD (R290, R293): not on a FACTORY_BAD block or one in ERASING. -/
def execMarkBad (die block : Nat) (s : State) : Outcome :=
  onChip (fun c =>
    let b := c.bst die block
    let res := if block ≥ c.blocks then 2 else if b.st = .factoryBad || b.st = .erasing then 1 else 0
    let c := c.bstCmd 2 die block (c.fld F.SEQ_BSTCMD_OWNER (memberOf die)) res
    if res = 0 then c.growBad die block 3 else c) s

/-- DIE_CLEAR (R310, SEQn_DIECLR): DIE_IDENTIFY runs on the die; its success clears the mark. -/
def execDieClear (die : Nat) (s : State) : Outcome :=
  onChip (fun c =>
    let p := memberOf die
    let c := (c.setFld F.SEQ_DIECLR_SCH (subOf die) p).setFld F.SEQ_DIECLR_DIE (die % 16) p
    if (c.die die).identifying then c
    else (c.modDie die fun d => { d with identifying := true }).postOp (mkOp .dieIdentify die 0 0 false .d1 .dieClear)) s

end Sys2Proof.Machine
end

