-- ==== Sys2Proof/Machine/Reclaim.lean ====
section
/-! DEFINITION. PATROL and RECLAIM: laps over the medium, scores, victims, folds of the basin, marked cisterns, pins that hold an erase
(R170, R324 to R341). -/

namespace Sys2Proof.Machine

/-- The pool, row and strip of a wordline of a block, if a pool holds the block (R352, R355). -/
def Chip.placeOf (c : Chip) (die block wl : Nat) : Option (Nat × Nat × Nat) :=
  let hit := fun (s : Slot) (r : Nat) => s.homePlace r == some (die, block, wl) || s.readPlace r == some (die, block, wl)
  c.m.pools.findSome? fun e =>
    if e.2.ptstate = 0 then none
    else (e.2.slots.zipIdx).findSome? fun x =>
      let row := match x.1.f with
        | some (d, b, r0) => if (d, b) == (die, block) then wl + r0 else wl
        | none => wl
      if hit x.1 row then some (e.1, row, (x.2 + 18 - row % 18) % 18) else none

/-! Patrol (R327 to R331, R348) -/

/-- Change the lap. -/
def Chip.modPatrol (c : Chip) (g : Patrol → Patrol) : Chip := c.modM fun m => { m with patrol := g m.patrol }

/-- Pages of a wordline: four page types on four planes, one of them in pSLC (R279, R327). -/
def wlPages (pslc : Bool) : Nat := if pslc then 4 else 16

/-- Pages of an item of the lap. -/
def Chip.itemPages (c : Chip) (x : Nat × Nat × Nat) : Nat := (x.2.2 - x.2.1) * wlPages (c.bst (x.1 / 4096) (x.1 % 4096)).pslc

/-- Put an item in place by a key, smaller keys first. -/
def insertBy (key : Nat → Nat) (x : Nat) : List Nat → List Nat
  | [] => [x]
  | y :: t => if key x < key y then x :: y :: t else y :: insertBy key x t

/-- Sort by a key. -/
def sortBy (key : Nat → Nat) (l : List Nat) : List Nat := l.foldl (fun a x => insertBy key x a) []

/-- The zone a block's data belongs to, while it is full: its pool is read row by row (R329). -/
def Chip.fullZones (c : Chip) : List (Nat × Nat) :=
  c.z.zones.filterMap fun e => if e.2.st == .zsf then e.2.pool.map fun p => (e.1, p) else none

/-- What a lap reads: pools of full zones row by row in zone order, then every other block with a programmed wordline (R327, R329); a restart lap
takes the blocks in ascending order of the age of their last program (R330). -/
def Chip.lapItems (c : Chip) (restart : Bool) : List (Nat × Nat × Nat) :=
  let used := (c.m.bst.filter fun e => (e.2.st == .opened || e.2.st == .full || e.2.st == .grownBad) && decide (e.2.ptr > 0)).map (·.1)
  let whole := fun k => (k, 0, (c.bst (k / 4096) (k % 4096)).ptr)
  if restart then (sortBy (fun k => c.opTime - mget 0 c.m.progAt k) used).map whole
  else
    let rowsOf := fun (p : Nat) => match c.pool p with
      | some q => (List.range q.rows).flatMap fun r => q.slots.filterMap fun s => (s.readPlace r).map fun x => (bkey x.1 x.2.1, x.2.2, x.2.2 + 1)
      | none => []
    let zoned := c.fullZones.flatMap fun x => rowsOf x.2
    zoned ++ (used.filter fun k => !zoned.any fun x => x.1 == k).map whole

/-- Days of the lap under way (PATROL_CTL): 3 to 60. -/
def Chip.lapDays (c : Chip) : Nat :=
  if c.flag F.PATROL_STAT_RESTART then c.clampFld F.PATROL_CTL_RESTART_DAYS 3 60 else c.clampFld F.PATROL_CTL_LAP_DAYS 3 60
def Chip.lapLen (c : Chip) : Nat := hours (24 * c.lapDays)

/-- A lap begins (R328, R330). -/
def Chip.lapStart (c : Chip) : Chip :=
  let restart := c.m.patrol.fresh
  let items := c.lapItems restart
  let c := ((c.setFld F.PATROL_STAT_RESTART (b2n restart)).setFld F.PATROL_STAT_BEHIND 0).setFld F.PATROL_LAP_PROGRESS 0
  let c := c.setFld F.PATROL_LAP_LAP (c.fld F.PATROL_LAP_LAP + 1)
  let len := c.lapLen
  c.modPatrol fun p => { p with
    todo := items
    page := 0
    total := (items.map c.itemPages).sum
    pages := 0
    startNs := c.now
    startTs := c.stamp
    nextNs := c.now + len
    marks := 0
    escalated := 0
    uncorr := 0
    lost := 0
    verified := 0
    mismatch := 0
    hist := []
    open_ := []
    zones := []
    done := false
    fresh := false
    pace := ((items.map c.itemPages).sum, len) }

/-- A lap ends: its counts stand, event 0x3507; a late lap is followed at once by the next (R328, R348). -/
def Chip.lapEnd (c : Chip) : Chip :=
  let p := c.m.patrol
  let time := c.opTime - p.startTs.1
  let c := (c.post srcPatrol 0x3507 [c.fld F.PATROL_LAP_LAP, time, p.pages, p.marks]).setFld F.PATROL_STAT_LAST_LAP_H ((c.now - p.startNs) / hours 1)
  let c := (c.setFld F.PATROL_LAP_PROGRESS 1000).modPatrol fun p => { p with
    done := true
    pagesLast := p.pages
    lastTime := time
    marksLast := p.marks
    escalatedLast := p.escalated
    uncorrLast := p.uncorr
    lostLast := p.lost
    verifiedLast := p.verified
    mismatchLast := p.mismatch
    histLast := p.hist }
  if c.flag F.PATROL_STAT_BEHIND then c.lapStart else c

/-- The lap has come `n` pages further. -/
def Chip.lapPages (c : Chip) (n : Nat) : Chip :=
  let c := c.modPatrol fun p => { p with pages := p.pages + n }
  c.setFld F.PATROL_LAP_PROGRESS (if c.m.patrol.total = 0 then 1000 else c.m.patrol.pages * 1000 / c.m.patrol.total)

/-- A block leaves the lap: its pages count as read (R331). -/
def Chip.dropItem (c : Chip) (x : Nat × Nat × Nat) (rest : List (Nat × Nat × Nat)) : Chip :=
  (c.modPatrol fun p => { p with todo := rest, page := 0 }).lapPages (c.itemPages x - c.m.patrol.page)

/-- The four code units of a page are read in class B (R327); a verification starts with the first page of a full zone (R329). -/
def Chip.readPage (c : Chip) (die block page : Nat) : Chip :=
  let pslc := (c.bst die block).pslc
  let n := wlPages pslc
  let wl := page / n
  let place := c.placeOf die block wl
  let c := (c.addFld F.PATROL_CNT_PAGES 1).modPatrol fun p => { p with open_ := pset p.open_ p.pages (0, 0) }
  let no := c.m.patrol.pages
  let twin := c.twinOf (bkey die block)
  let c := (List.range 4).foldl (fun (c : Chip) i =>
    let cu := page % n * 4 + i
    let other := twin.map fun k => (⟨k / 4096, k % 4096, wl, cu, true⟩ : Chunk)
    (c.newRd (mkRd (.patrol no) ⟨die, block, wl, cu, pslc⟩ place other (0, 0) false)).1) c
  match place.bind fun x => c.fullZones.find? fun e => e.2 == x.1 with
  | some (g, _) =>
    if c.m.patrol.zones.contains g then c
    else (c.modPatrol fun p => { p with zones := g :: p.zones }).startJob g 0 none
  | none => c

/-- PATROL_READ_ISSUE (R327 to R331): the next page of the lap. Strips of a lost member are skipped and counted; a block erased since is dropped; a
wordline whose program has not reported success is not read. -/
def execPatrolReadIssue (s : State) : Outcome :=
  onChip (fun c =>
    let p := c.m.patrol
    if !c.flag F.PATROL_CTL_EN || p.done then c
    else match p.todo with
      | [] => if p.open_.isEmpty then c.lapEnd else c
      | x :: rest =>
        let die := x.1 / 4096
        let block := x.1 % 4096
        let b := c.bst die block
        let freed := ((c.placeOf die block x.2.1).bind fun y => c.pool y.1).any fun (q : Pool) => q.ptstate == 3
        if freed || decide (b.ptr < x.2.2) then c.dropItem x rest
        else
          let page := x.2.1 * wlPages b.pslc + p.page
          let wl := page / wlPages b.pslc
          let flying := c.m.ops.any fun e => e.2.rt.isProgram && e.2.die == die && e.2.block == block && e.2.wl == wl
          let c := if c.memberLost (memberOf die) then c.addFld F.PATROL_CNT_SKIPPED 1
            else if flying then c
            else c.readPage die block page
          let last := decide (p.page + 1 ≥ c.itemPages x)
          (c.modPatrol fun p => { p with todo := if last then rest else p.todo, page := if last then 0 else p.page + 1 }).lapPages 1) s

/-- PATROL_PACE_RECOMPUTE (R328): pages left over time left, every 60 s. -/
def execPatrolPaceRecompute (s : State) : Outcome :=
  onChip (fun c => if c.m.patrol.done then c else c.modPatrol fun p => { p with pace := (p.total - p.pages, p.nextNs - c.now) }) s

/-- PATROL_LAP_START (R328, R330): the scheduled start; at a start of the controller the restart lap begins at once. -/
def execPatrolLapStart (s : State) : Outcome :=
  onChip (fun c =>
    if c.flag F.PATROL_CTL_EN && c.m.patrol.done then (if c.m.patrol.fresh then c else c.advanceTo c.m.patrol.nextNs).lapStart else c) s

/-- PATROL_LAP_OVERRUN (R328). -/
def execPatrolLapOverrun (s : State) : Outcome :=
  onChip (fun c =>
    if c.m.patrol.done || c.flag F.PATROL_STAT_BEHIND then c
    else ((c.advanceTo c.m.patrol.nextNs).setFld F.PATROL_STAT_BEHIND 1).post srcPatrol 0x3509
      [c.fld F.PATROL_LAP_LAP, c.fld F.PATROL_LAP_PROGRESS]) s

/-! Folds of the basin (R169, R170, R372, R578) -/

/-- Map entries that point into a pair, by offset. -/
def Chip.pairEntries (c : Chip) (i : Nat) : List Nat :=
  (c.z.map.filterMap fun e => match mapDecode e.2 with
    | .basin p off => if p = i then some off else none
    | _ => none).eraseDups

/-- A conventional pair is folded: it takes no further parts, and units that entries point at are read in class B (R170). -/
def Chip.startFold (c : Chip) (i : Nat) : Chip :=
  match c.pair i with
  | none => c
  | some q =>
    if q.zone.isSome || q.landing || (pget c.m.folds i).isSome then c
    else
      let offs := c.pairEntries i
      let c := (c.modPair i fun q => { q with closed := true }).modZ fun z => { z with hPairs := z.hPairs.filter (·.2 != i) }
      if offs.isEmpty then c.foldDone i 0
      else
        let c := c.modM fun m => { m with folds := pset m.folds i offs }
        offs.foldl (fun (c : Chip) off => (c.newRd (c.basinRd (.fold i off) i off (0, 0))).1) c

/-- A zoned tail pair is copied from its other cistern into a fresh one on another member (R372, R578). -/
def Chip.copyTail (c : Chip) (i k : Nat) : Chip :=
  match c.pair i with
  | none => c
  | some q =>
    let other := if q.a = k then q.b else q.a
    let copy := if q.a = k then 0 else 1
    match (c.copyMembers 36).find? fun m => m != memberOf (k / 4096) && m != memberOf (other / 4096) with
    | none => c
    | some m =>
      match c.takeCistern m (c.bst (k / 4096) (k % 4096)).owner with
      | (c, none) => c
      | (c, some (d, b)) =>
        let c := c.modPair i fun q => { q with
          a := if copy = 0 then bkey d b else q.a
          b := if copy = 1 then bkey d b else q.b
          okCopies := q.okCopies.filter fun x => x % 2 != copy }
        match c.pair i with
        | none => c
        | some q => (List.range (q.gathered / 16)).foldl (fun (c : Chip) n =>
            (c.newOp (mkOp .programSlc d b n true .b (.basinPage i n copy) ((List.range 16).map fun k => c.pairChunk i q (16 * n + k)))).1) c

/-- Share of the general basin in use, in percent. -/
def Chip.basinUsedPct (c : Chip) : Nat := 100 - c.basinFreePct

/-- FOLD_START_PCT as it stands. -/
def Chip.foldStart (c : Chip) : Nat := c.fld F.ZMAP_BASIN_FOLD_START_PCT

/-- The pair to fold next: marked ones first, then one a failed page has closed, then the oldest full one, then the oldest (R170, R333, R578). -/
def Chip.nextFold (c : Chip) : Option Nat :=
  let conv := c.z.pairs.filter fun e => e.2.zone.isNone && (!e.2.landing || e.2.closed) && !(e.2.closed && e.2.units.isEmpty) && (pget c.m.folds e.1).isNone
  let marked := conv.find? fun e => [e.2.a, e.2.b].any fun x => (pget c.m.marks (cisternKey (x / 4096) (x % 4096))).isSome
  let closed := conv.find? fun e => e.2.closed
  let full := conv.find? fun e => decide (e.2.next + 16 > 6144)
  let due := decide (c.basinUsedPct > c.foldStart)
  match marked, closed with
  | some e, _ => some e.1
  | none, some e => some e.1
  | none, none => if due then match full with
    | some e => some e.1
    | none => conv.head?.map (·.1) else none

/-- A row being copied, or a MOVE record on its way, names units of a pair. -/
def Chip.foldBusy (c : Chip) (i : Nat) : Bool :=
  let mine := fun (e : Nat) => match mapDecode e with
    | .basin p _ => p == i
    | _ => false
  (c.z.rows.any fun r => !r.2.abandoned && r.2.src.any fun x => mine x.2.2) ||
  c.z.journal.waits.any fun w => match w.2 with
    | .move _ is => is.any fun x => mine x.2.1
    | _ => false

/-- Pairs whose units have all been read: one that nothing points at is erased, one that still holds data can be folded again (R170). -/
def Chip.foldSweep (c : Chip) : Chip :=
  ((c.m.folds.filter fun e => e.2.isEmpty).map (·.1)).foldl (fun (c : Chip) i =>
    if c.foldBusy i then c
    else
      let c := c.foldDone i 0
      c.modM fun m => { m with folds := pdel m.folds i }) c

/-- BASIN_FOLD (R170): the next pair is folded. -/
def execBasinFold (s : State) : Outcome :=
  onChip (fun c =>
    let c := c.foldSweep
    match c.nextFold with
    | some i => c.startFold i
    | none => c) s

/-! Reclaim (R332 to R341) -/

/-- A score candidate (R334): a full pool of conventional data that is no open pool and is not being copied. -/
def Chip.isCandidate (c : Chip) (p : Nat) : Bool :=
  match c.pool p with
  | none => false
  | some q =>
    q.ptstate == 2 && (c.zoneOfPool p).isNone && !q.done.isEmpty && !c.z.handles.any (fun h => h.2.pool == p)
      && !c.z.reclaimPool.any (fun o => o.pool == p) && (pget c.m.victims p).isNone
      && !c.z.rows.any (fun r => r.2.pool == p && !r.2.abandoned && decide (r.2.okStrips.length < 18))

/-- The score of a pool (R335). -/
def Chip.scoreOf (c : Chip) (p : Nat) : Nat :=
  match c.pool p with
  | none => 0
  | some q =>
    let cap := max 1 (c.fld F.RECLAIM_W_AGE_CAP_H)
    let pe := max 1 ((c.m.profile.map Profile.peQlc).getD 1)
    let age := match q.fullAt with
      | some t => (c.now - t) / hours 1
      | none => 0
    let wear := (q.slots.map fun s => (c.bst s.die s.block).count).sum / 18
    c.fld F.RECLAIM_W_W_INV * ((393216 - c.validOf p) * 1024 / 393216) + c.fld F.RECLAIM_W_W_AGE * (min age cap * 1024 / cap)
      - c.fld F.RECLAIM_W_W_WEAR * (min wear pe * 1024 / pe)

/-- A candidate's score is taken anew; one with nothing valid joins the erase queue without a copy (R334, R335). -/
def Chip.rescore (c : Chip) (p : Nat) : Chip :=
  if !c.isCandidate p then c
  else if c.validOf p = 0 then
    ((c.modM fun m => { m with marks := pdel m.marks p, scores := pdel m.scores p }).freePool p).post srcReclaim 0x350C [p, 0]
  else c.modM fun m => { m with scores := pset m.scores p (c.scoreOf p, c.validOf p) }

/-- Scores whose valid count has changed are taken anew (R335). -/
def Chip.freshScores (c : Chip) : Chip :=
  c.m.pools.foldl (fun (c : Chip) e =>
    if (pget c.m.scores e.1).any (fun s => s.2 == c.validOf e.1) then c else c.rescore e.1) c

/-- SCORE_UPDATE (R335): once an hour. -/
def execScoreUpdate (s : State) : Outcome := onChip (fun c => c.m.pools.foldl (fun (c : Chip) e => c.rescore e.1) c) s

/-- A marked pool can be refreshed now (R333): conventional data as a candidate, a zone's once it is full or read only. -/
def Chip.canRefresh (c : Chip) (p : Nat) : Bool :=
  match c.zoneOfPool p with
  | some g => ((c.zone g).st == .zsf || (c.zone g).st == .zsro) && (c.zone g).newPool.isNone && (pget c.m.victims p).isNone
  | none => c.isCandidate p

/-- A victim is taken (R332, R336, R337, R339): event 0x350A; a zone's pool only while a fresh pool can be bound; a refresh of conventional data is an FDP event of the handles (log 10). -/
def Chip.takeVictim (c0 : Chip) (p : Nat) : Chip :=
  let c := c0
  let c := c.post srcReclaim 0x350A [c.scoreOf p, c.validOf p]
  let marked := (pget c.m.marks p).isSome
  match c.zoneOfPool p with
  | some g => match c.bindPool with
    | (c, some new) => (c.modM fun m => { m with marks := pdel m.marks p }).copyZone g p new
    | (_, none) => c0
  | none =>
    let hs := ((c.entriesOf p).filterMap fun e => (c.ns (c.nsOfIndex e.1)).map fun n => n.handles.getD 0 0).eraseDups
    let c := if marked && c.z.fdp then c.modZ fun z => { z with fdpEvents := z.fdpEvents ++ hs.map fun h => (0x80, h) } else c
    ((c.modM fun m => { m with marks := pdel m.marks p }).copyVictim p).victimFree p

/-- PARALLEL as taken (RECLAIM_CTL). -/
def Chip.reclaimPar (c : Chip) : Nat := c.clampFld F.RECLAIM_CTL_PARALLEL 1 16

/-- The next victim: urgent marks, marked pools of zones, then the highest score, a marked pool before its equals (R332, R336). -/
def Chip.nextVictim (c : Chip) : Option Nat :=
  let marked := c.m.marks.filter fun e => decide (e.1 < 2 ^ 63) && c.canRefresh e.1
  match marked.find? (·.2), marked.find? fun e => (c.zoneOfPool e.1).isSome with
  | some e, _ => some e.1
  | none, some e => some e.1
  | none, none =>
    let cand := (c.m.pools.map (·.1)).filter c.isCandidate
    bestBy (fun p => 2 * ((pget c.m.scores p).map (·.1)).getD (c.scoreOf p) + b2n (pget c.m.marks p).isSome) cand

/-- A marked cistern is rewritten by its owner (R333): a pair is folded or copied, a segment goes with the next pass, a journal cistern and a
recorder cistern get a fresh copy. -/
def Chip.refreshCistern (c : Chip) (key : Nat) : Chip :=
  let die := (key - 2 ^ 63) / 65536
  let block := key % 65536
  let k := bkey die block
  let done := fun (c : Chip) => c.modM fun m => { m with marks := pdel m.marks key }
  match pfind c.z.pairs fun _ q => q.a == k || q.b == k with
  | some (i, q) => if q.landing then c else if q.zone.isSome then done (c.copyTail i k) else c.startFold i
  | none =>
    match pfind c.z.segs fun _ x => x.bestCists.contains k with
    | some (g, _) => done (c.touch g)
    | none =>
      if c.z.journal.retained.any fun r => r.2.contains k then done (c.copyJournal k (some (memberOf die)) (some k) none)
      else done (c.recorderCopies (fun x => x == k) (memberOf die) 1)

/-- RECLAIM_VICTIM_SELECT (R332, R333, R336): marked cisterns are rewritten; while AUTO is 1 and the erased reserve is below TARGET, a victim is
taken as long as fewer than PARALLEL are in copy. -/
def execReclaimVictimSelect (s : State) : Outcome :=
  onChip (fun c =>
    let c := ((c.m.marks.map (·.1)).filter (· ≥ 2 ^ 63)).foldl (fun (c : Chip) k => c.refreshCistern k) c
    let c := c.freshScores
    if c.flag F.RECLAIM_CTL_AUTO && decide (c.z.reserve.length < c.fld F.ZMAP_POOLRES_TARGET) && decide (c.m.victims.length < c.reclaimPar) then
      match c.nextVictim with
      | some p => c.takeVictim p
      | none => c
    else c) s

/-- RECLAIM_COMMAND (R336): firmware names a victim. -/
def execReclaimCommand (pool : Nat) (s : State) : Outcome :=
  onChip (fun c =>
    let res := if (pget c.m.victims pool).isSome then 1
      else if !(c.isCandidate pool || ((pget c.m.marks pool).isSome && c.canRefresh pool)) then 2
      else if c.m.victims.length ≥ c.reclaimPar then 3 else 0
    let c := (c.setFld F.RECLAIM_CMD_POOL pool).setFld F.RECLAIM_CMD_RESULT res
    if res = 0 then c.takeVictim pool else c) s

/-- PIN_WAIT_WARNING (R326): an erase has waited PIN_WARN_MS on a pin; recorded once for each erase. -/
def execPinWaitWarning (op : Nat) (s : State) : Outcome :=
  onChip (fun c => match c.op op with
    | some o =>
      let key := c.pinKey o.die o.block
      if o.rt = .erase && o.stage = .queued && decide (c.pinned key > 0) && !c.m.warned.contains op then
        let c := c.advanceTo (o.arrived + ms (max 1 (c.fld F.RECLAIM_CTL_PIN_WARN_MS)))
        (c.modM fun m => { m with warned := op :: m.warned }).post srcReclaim 0x350D [key, (c.now - o.arrived) / ms 1]
      else c
    | none => c) s

end Sys2Proof.Machine
end

