-- ==== Sys2Proof/Machine/LinkRows.lean ====
section
/-! DEFINITION. Training of a Binor port by ordered sets, heartbeats, and the loss of a member (R241 to R245, R264 to R269, R311, R372). -/

namespace Sys2Proof.Machine

/-- The basin after the loss of a member (R372): conventional pairs with a copy on it are folded at once, zoned tail pairs get a fresh copy. -/
def Chip.basinLost (c : Chip) (m : Nat) : Chip :=
  let on := fun (x : Nat) => memberOf (x / 4096) == m
  c.z.pairs.foldl (fun (c : Chip) e =>
    if e.2.landing || (e.2.closed && e.2.units.isEmpty) then c
    else if on e.2.a || on e.2.b then
      (if e.2.zone.isSome then c.copyTail e.1 (if on e.2.a then e.2.a else e.2.b) else c.startFold e.1)
    else c) c

/-- MEMBER_LOST (R267, R268, R311): LOST with its cause, event 0xB005; frames outstanding end with LINK_LOST, descriptors of the port with
MEMBER_LOST; what lay on the member is read and rewritten elsewhere. -/
def Chip.loseMember (c : Chip) (p cause : Nat) : Chip :=
  if c.linkState p = 7 then c
  else
    let c := ((c.setFld F.BINOR_STAT_LOST 1 p).setFld F.BINOR_STAT_LOST_CAUSE cause p).setFld F.BINOR_STAT_STATE 7 p
    let c := (c.modLink p fun l => { l with frames := [], sendQ := [], timers := false, parking := false, notice := none }).post (srcBinor p) 0xB005 [p, cause]
    let c := c.stripeLost p
    let dies := (c.m.dies.map (·.1)).filter fun d => memberOf d == p
    let c := dies.foldl (fun c d => c.endDie d .memberLost .memberLost) c
    (c.basinLost p).recorderCopies (fun x => memberOf (x / 4096) == p) p 0

/-- An attempt of a training ends without reaching ACTIVE (R241, R244). -/
def Chip.attemptFails (c : Chip) (p : Nat) : Chip :=
  let l := c.link p
  let st := c.linkState p
  let c := c.setFld F.BINOR_STAT_FAIL_STATE st p
  if l.full then
    if l.attempts ≥ 3 then (c.setFld F.BINOR_STAT_STATE 0 p).post (srcBinor p) 0xB006 [p, st]
    else (c.modLink p fun l => { l with attempts := l.attempts + 1 }).trainState p 1
  else if l.attempts ≥ 2 then (c.post (srcBinor p) 0xB004 [p, l.cause, 1]).loseMember p 2
  else (c.modLink p fun l => { l with attempts := l.attempts + 1 }).trainState p 2

/-- Lanes a port receives on. -/
def Chip.rxLanes (c : Chip) (p : Nat) : List Nat := if c.flag F.BINOR_STAT_RX_X1 p then [c.fld F.BINOR_STAT_RX_LANE p] else [0, 1]

/-- TS1 (R241, R242): the bridge asks for a preset of the RX9's lane, and the receiver has chosen one for the bridge's; with both done on every
lane the link goes to ALIGN. -/
def Chip.ts1 (c : Chip) (p : Nat) (o : OrderedSet) : Chip :=
  let lane := o.lane % 2
  let c := c.setFld (if lane = 0 then F.BINOR_EQ_TX0 else F.BINOR_EQ_TX1) (o.preset % 8) p
  let c := match o.choice with
    | some k => if k < 8 then (c.setFld (if lane = 0 then F.BINOR_EQ_BTX0 else F.BINOR_EQ_BTX1) k p).modLink p fun l => { l with
        eqLocal := if l.eqLocal.contains lane then l.eqLocal else lane :: l.eqLocal } else c
    | none => c
  let c := c.modLink p fun l => { l with
    eqRemote := if o.eqDone then (if l.eqRemote.contains lane then l.eqRemote else lane :: l.eqRemote) else l.eqRemote.filter (· != lane) }
  let l := c.link p
  if (c.rxLanes p).all fun k => l.eqLocal.contains k && l.eqRemote.contains k then c.trainState p 4 else c

/-- TS2 (R241): eight in a row on every lane in use. -/
def Chip.ts2 (c : Chip) (p : Nat) (o : OrderedSet) : Chip :=
  let lane := o.lane % 2
  let c := c.modLink p fun l => { l with ts2 := mset 0 l.ts2 lane (if o.kind = 2 then mget 0 l.ts2 lane + 1 else 0) }
  if (c.rxLanes p).all fun k => decide (mget 0 (c.link p).ts2 k ≥ 8) then c.trainState p 5 else c

/-- LINK_ACTIVE (R243, R244, R245, R259, R260, R268, R270): the bridge's values are taken, credits reset by a full training, timers run, and the
flits from NEXT_RX_SEQ on are sent again. -/
def Chip.linkUp (c : Chip) (p : Nat) (o : OrderedSet) : Chip :=
  let l := c.link p
  let c := ((c.setFld F.BINOR_BRID_ID o.brId p).setFld F.BINOR_BRID_INC o.brInc p).setFld F.BINOR_BRCAP_CAP o.brCap p
  let c := (c.setFld F.BINOR_BRCAP_CHUNK_LEN o.chunkLen p).setFld F.BINOR_STAT_STATE 6 p
  let held := if o.nextRx = l.txSeq then [] else
    if l.held.any (·.seq == o.nextRx) then l.held.dropWhile (·.seq != o.nextRx) else l.held
  let c := c.modLink p fun l => { l with
    held := held.map fun h => { h with sentAt := c.now, replays := 0 }
    ackAt := c.now
    discarding := false
    notice := none
    hist := []
    since := c.now }
  let c := if held.isEmpty then c
    else ((c.addFld F.BINOR_ERR_REPLAYS 1 p).post (srcBinor p) 0xB003 [p, held.length]).emit (.link p linkReplay o.nextRx)
  let width := fun (f : Fld) => if c.flag f p then 1 else 2
  let c := c.post (srcBinor p) 0xB001 [p, width F.BINOR_STAT_TX_X1, width F.BINOR_STAT_RX_X1, b2n l.full]
  let c := if l.full then
      let q := bitsOf o.brCap 7 0
      let c := ((c.setFld F.BINOR_STAT_LOST 0 p).setFld F.BINOR_STAT_LOST_CAUSE 0 p).setFld F.BINOR_STAT_PARKED 0 p
      c.modLink p fun l => { l with
        cmdq := (List.range 8).foldl (fun m k => mset 0 m k q) []
        chunks := bitsOf o.brCap 19 8
        regFree := 4
        frames := []
        timers := true
        hbAt := c.now
        tempAt := c.now }
    else c.post (srcBinor p) 0xB004 [p, l.cause, 0]
  let c := if l.full && bitOf (c.fld F.STRIPE_MEMSTAT_LOST) p then c.takeBack p else c
  c.linkGo p

/-- CFG (R241, R243, R245): four the same complete CONFIG; a protocol version other than 1 fails it, a new BR_INC at a fast retrain loses the
member. -/
def Chip.cfg (c : Chip) (p : Nat) (o : OrderedSet) : Chip :=
  let v := [o.brId, o.brCap, o.brInc, o.nextRx, o.chunkLen]
  let c := c.modLink p fun l => { l with cfgSeen := if l.cfg = v then l.cfgSeen + 1 else 1, cfg := v }
  if (c.link p).cfgSeen < 4 then c
  else if bitsOf o.brId 15 8 != 1 then c.attemptFails p
  else if !(c.link p).full && o.brInc != c.fld F.BINOR_BRID_INC p then c.loseMember p 3
  else c.linkUp p o

/-- ORDERED_SET_RECEIVED (R241, R242): a block whose OSCRC fails is not taken. -/
def execOrderedSetReceived (port : Nat) (os : OrderedSet) (s : State) : Outcome :=
  onChipMem (fun c =>
    if !os.crcOk || !c.portIn port then c
    else if os.kind = 4 then c.dmark port os.lane
    else
      let st := c.linkState port
      if st = 3 && os.kind = 1 then c.ts1 port os
      else if st = 4 then c.ts2 port os
      else if st = 5 && os.kind = 3 then c.cfg port os
      else c) s

/-- The timeout of a training state in ns (R241). -/
def trainLimit (st : Nat) (full : Bool) : Nat :=
  match st with
  | 1 => ms 10
  | 2 => if full then us 500 else us 150
  | 3 => ms 2
  | 4 => us 100
  | _ => us 50

/-- TRAINING_STATE_TIMEOUT (R241, R244). -/
def execTrainingStateTimeout (port : Nat) (s : State) : Outcome :=
  onChipMem (fun c =>
    let st := c.linkState port
    if 1 ≤ st ∧ st ≤ 5 then (c.advanceTo ((c.link port).since + trainLimit st (c.link port).full)).attemptFails port else c) s

/-- FULL_TRAIN (R243, R268, BINORn_CTL): ignored unless STATE is DOWN or LOST; a port that is not enabled does not train. -/
def execFullTrain (port : Nat) (s : State) : Outcome :=
  onChip (fun c =>
    let st := c.linkState port
    if (st = 0 || st = 7) && c.flag F.BINOR_CTL_EN port && c.portIn port then
      (c.modLink port fun l => { l with
        full := true
        attempts := 1
        txSeq := 0
        rxSeq := 0
        held := []
        unacked := 0
        discarding := false
        resync := false
        notice := none
        hist := [] }).trainState port 1
    else c) s

/-- HB_RECEIVED (R264, R267): the gap is kept, and a bridge in SAFE loses the member. -/
def execHbReceived (port status : Nat) (s : State) : Outcome :=
  onChipMem (fun c =>
    if !c.linkActive port then c
    else
      let gap := min 255 ((c.now - (c.link port).hbAt) / us 100)
      let c := c.setFld F.BINOR_ERR2_HB_GAP_MAX (max gap (c.fld F.BINOR_ERR2_HB_GAP_MAX port)) port
      let c := c.modLink port fun l => { l with hbAt := c.now }
      if bitOf status 10 then c.loseMember port 4 else c) s

/-- HB_TIMEOUT (R267, R269): 1,500 µs without a heartbeat, also during a fast retrain. -/
def execHbTimeout (port : Nat) (s : State) : Outcome :=
  onChipMem (fun c =>
    if (c.link port).timers then (c.advanceTo ((c.link port).hbAt + us 1500)).loseMember port 1 else c) s

end Sys2Proof.Machine
end

