-- ==== Sys2Proof/Machine/Admit.lean ====
section
/-! DEFINITION. Requests to the ledger and the sluice (R189, R190, R479) and the forming of pools (R353). -/

namespace Sys2Proof.Machine

/-- LEDGER_ADMIT_OPERATION (R189, R190, R192): a program or erase asks the ledger for its charge, in arrival order. -/
def execLedgerAdmitOperation (op : Nat) (s : State) : Outcome := onChip (fun c => Chip.commitAll (c.askLedger op)) s

/-- The commands that hold energy: Write, Zone Append, Write Zeroes and Deallocate (R99). -/
def CmdKind.commits (k : CmdKind) : Bool := k = .write || k = .append || k = .writeZeroes || k = .dealloc

/-- The length L of R189: nothing for a command that programs nothing, NLB for the zeros of a zoned Write Zeroes. -/
def Ctx.energyLen (x : Ctx) (ns : NsRec) : Nat :=
  if x.kind = .dealloc then 0
  else if x.kind = .writeZeroes then (if ns.zoned then sqeNlb x.sqe * 4096 else 0)
  else x.dlen

/-- The reservation of R189 in µJ. -/
def Chip.reserveUj (c : Chip) (len : Nat) : Nat := (len + 65535) / 65536 * 2 * c.fld F.LEDGER_CHG1_SLC_PRG_UJ

/-- LEDGER_ADMIT_COMMITMENT (R189, R190): a write asks for its energy, in arrival order; what is admitted may pass its commit point (R99). -/
def execLedgerAdmitCommitment (tag : Nat) (s : State) : Outcome :=
  onChip (fun c =>
    match c.ctx tag with
    | some x =>
      match c.ns x.nsid with
      | some ns =>
        if x.kind.commits && x.commit.isNone && !x.committed && !x.sent then
          let len := x.energyLen ns
          let r : LedgerReq := ⟨c.z.nextCommit, tag, c.reserveUj len, len⟩
          let waits := !(c.z.ledger.commitQ.isEmpty && c.commitFits r)
          let c := (c.modCtx tag fun y => { y with commit := some r.id }).modZ fun z => { z with nextCommit := r.id + 1 }
          let c := c.modL fun l => { l with commitQ := l.commitQ ++ [r] }
          Chip.commitAll (if waits then c.addFld F.LEDGER_WAIT_COMMIT_WAITS 1 else c).ledgerPump
        else c
      | none => c
    | none => c) s

/-- SLUICE_REQUEST (R192, R478, R479): an operation the ledger has admitted asks the sluice for its tokens. -/
def execSluiceRequest (op : Nat) (s : State) : Outcome :=
  onChip (fun c =>
    match c.op op with
    | some o =>
      if o.stage = .admitted then (c.modOp op fun o => { o with stage := .sluice }).askSluice ⟨2 * op, c.tokenCost o, o.cls⟩ else c
    | none => c) s

/-- SLUICE_BUDGET_WRITE (R479, R491): the budget changes, event 0xA007; waiting requests are granted what now fits. -/
def Chip.writeBudget (c : Chip) (v : Nat) : Chip :=
  let old := c.fld F.SLUICE_BUDGET_FLASH_MW
  ((c.setFld F.SLUICE_BUDGET_FLASH_MW v).post srcSluice 0xA007 [old, v % 2 ^ 32]).sluiceGo

def execSluiceBudgetWrite (value : Nat) (s : State) : Outcome := onChip (fun c => c.writeBudget value) s

/-! POOL_FORM -/

/-- The slots of a pool-table entry as firmware wrote it (R351). -/
def entrySlots (e : List Byte) : List Slot :=
  (List.range 18).map fun j =>
    let o := 0x58 + 20 * j
    ⟨numAt e o 1 * 128 + numAt e (o + 1) 1 % 128, numAt e (o + 2) 2, none, none, 0, 0, 0⟩

/-- A pattern of R350 is valid. -/
def Chip.patternOk (c : Chip) (idx : Nat) (p : List Nat) : Bool :=
  decide (idx < c.fld F.STRIPE_LAYOUT_NPAT) && decide (p.eraseDups.length = 18) && p.all fun m => bitOf c.fuses.fport m

/-- The RESULT of R353 for an entry and the members of its pattern. -/
def Chip.formResult (c : Chip) (p : Nat) (entry : List Byte) (members : List Nat) : Nat :=
  let slots := entrySlots entry
  let unformed := numAt entry 2 1 == 0 && ((c.pool p).map Pool.ptstate).getD 0 == 0
  let spare := fun (s : Slot) =>
    let b := c.bst s.die s.block
    b.owner == 6 && (b.st == .erased || b.st == .incomplete)
  if !unformed || p ≥ c.fld F.STRIPE_PTCNT_COUNT then 1
  else if !c.patternOk (numAt entry 0 2) members then 2
  else if slots.map (fun s => memberOf s.die) != members then 3
  else if slots.any fun s => decide (s.block ≥ c.blocks - 24) then 5
  else if !slots.all spare then 4
  else 0

/-- A pool is formed (R353): its blocks get OWNER 0, and it joins the erased reserve, or the erase queue where a block is not erased in QLC
mode; those blocks are erased (R354). -/
def Chip.formPool (c : Chip) (p : Nat) (entry : List Byte) : Chip :=
  let slots := entrySlots entry
  let clean := fun (s : Slot) => (c.bst s.die s.block).st == BState.erased && !(c.bst s.die s.block).pslc
  let ready := slots.all clean
  let dirty := (slots.zipIdx).filter fun x => !clean x.1
  let q : Pool := ⟨numAt entry 0 2, if ready then 1 else 3, numAt entry 4 4, [], slots, [], none, none⟩
  let c := c.modM fun m => { m with pools := pset m.pools p q }
  let c := slots.foldl (fun (c : Chip) s => c.modBst s.die s.block fun b => { b with owner := 0 }) c
  let c := c.modZ fun z => { z with
    reserve := if ready then z.reserve ++ [p] else z.reserve
    eraseQ := if ready then z.eraseQ else z.eraseQ ++ [p] }
  let c := dirty.foldl (fun (c : Chip) x => (c.newOp (mkOp .erase x.1.die x.1.block 0 false .b (.poolErase p x.2))).1) c
  (c.touch (segPools p)).spareRetry

/-- POOL_FORM (R353, STRIPE_PTCMD OP FORM): the entry and its pattern are read from DRAM and checked in order; event 0x400B on a failure. -/
def formIn (pool : Nat) (s : State) : Chip :=
  let c := s.chip
  let entry := readBytes s (c.fld F.STRIPE_PT_BASE * 4096 + 448 * pool) 448
  let pat := readBytes s (c.fld F.STRIPE_LAYOUT_BASE * 4096 + 32 * numAt entry 0 2) 18
  let res := c.formResult pool entry (pat.map BitVec.toNat)
  let c := ((c.setFld F.STRIPE_PTCMD_OP 1).setFld F.STRIPE_PTCMD_POOL pool).setFld F.STRIPE_PTCMD_RESULT res
  if res = 0 then c.formPool pool entry else c.post srcStripe 0x400B [pool, res]

def execPoolForm (pool : Nat) (s : State) : Outcome := onState (fun s => { s with chip := formIn (pool % 2 ^ 20) s }) s

end Sys2Proof.Machine
end

