-- ==== Sys2Proof/Machine/HostPort.lean ====
section
/-! DEFINITION. Host ports and functions: links, configuration, doorbells, assignment, attachment, mailbox, translation, IDE, ANA, DMA
errors (R40 to R68, R72 to R76, R80, R429). -/

namespace Sys2Proof.Machine

/-! Ports and links -/

/-- A port at reset: PERST# asserted, no link, no stream. -/
def portReset : Port := ⟨true, false, false, [], []⟩

/-- A port; change a port. -/
def Chip.port (c : Chip) (p : Nat) : Port := (pget c.ports p).getD portReset
def Chip.modPort (c : Chip) (p : Nat) (g : Port → Port) : Chip := { c with ports := pset c.ports p (g (c.port p)) }

/-- A port of a merged pair; the port that controls and reports the pair (R40, R41). -/
def Chip.merged (c : Chip) (p : Nat) : Bool := if p < 2 then c.fuses.mrg0 else c.fuses.mrg1
def Chip.lead (c : Chip) (p : Nat) : Nat := if c.merged p then p / 2 * 2 else p

/-- The ports of a link, and the functions behind it. -/
def Chip.linkPorts (c : Chip) (p : Nat) : List Nat := if c.merged p then [p / 2 * 2, p / 2 * 2 + 1] else [p]
def Chip.linkFns (c : Chip) (p : Nat) : List Nat := (c.linkPorts p).flatMap c.portFns

/-- A link may train: PERST# deasserted, not disabled, not fenced, its domains On (R41, R42). -/
def Chip.mayTrain (c : Chip) (p : Nat) : Bool :=
  let l := c.lead p
  !(c.port l).perst && !c.flag F.HP_CTL_LINK_DIS l && (c.linkPorts l).all fun q => c.domOn (domHp q) && !c.flag F.HP_FAULT_PORT_FENCED q

/-- Start to train a link. -/
def Chip.train (c : Chip) (p : Nat) : Chip :=
  if c.mayTrain p then c.modPort (c.lead p) fun x => { x with training := true } else c

/-- The link of a port is not up. -/
def Chip.dropLink (c : Chip) (p : Nat) : Chip :=
  let l := c.lead p
  let c := c.modPort l fun x => { x with training := false, up := false }
  [F.HP_LSTAT_LINK_UP, F.HP_LSTAT_SPEED, F.HP_LSTAT_WIDTH, F.HP_LSTAT_L0P_WIDTH, F.HP_LSTAT_FLIT, F.HP_LSTAT_DEGRADED].foldl
    (fun c f => c.setFld f 0 l) c

/-- Every function behind a link is reset as under R112; what was not sent is discarded (R72, R73). -/
def Chip.resetLink (c : Chip) (p : Nat) : Chip := (c.linkFns p).foldl (fun c f => c.startReset f) (c.dropLink p)

/-- Lanes of a link at full width. -/
def Chip.fullWidth (c : Chip) (p : Nat) : Nat := if c.merged p then 16 else 8

/-- PERST_DEASSERT (R42, R499). -/
def execPerstDeassert (port : Nat) (s : State) : Outcome :=
  onChip (fun c =>
    if port < 4 && (c.port port).perst then
      let c := c.modPort port fun x => { x with perst := false }
      let c := c.setFld F.PWR_PINS_PERST_L (maskOf (port :: bitsSet 4 (c.fld F.PWR_PINS_PERST_L)))
      (c.edge 5).train port
    else c) s

/-- PERST_ASSERT (R73). -/
def execPerstAssert (port : Nat) (s : State) : Outcome :=
  onChip (fun c =>
    if port < 4 && !(c.port port).perst then
      let c := c.modPort port fun x => { x with perst := true }
      let c := c.setFld F.PWR_PINS_PERST_L (maskOf ((bitsSet 4 (c.fld F.PWR_PINS_PERST_L)).filter (· != port)))
      c.resetLink port
    else c) s

/-- LINK_TRAINING_DONE (R42, R43): the link is up at a speed and width; below target it is degraded. FLIT mode is used at 64 GT/s. -/
def execLinkTrainingDone (port speed width : Nat) (flit : Bool) (s : State) : Outcome :=
  onChip (fun c =>
    let l := c.lead port
    if !(c.port l).training then c
    else
      let w := decide (width < c.fullWidth l)
      let v := decide (speed < c.fld F.HP_CTL_TGT_SPEED l)
      let c := c.modPort l fun x => { x with training := false, up := true }
      let c := ((((c.setFld F.HP_LSTAT_SPEED speed l).setFld F.HP_LSTAT_WIDTH width l).setFld F.HP_LSTAT_L0P_WIDTH width l).setFld
        F.HP_LSTAT_FLIT (b2n (flit || speed = 6)) l).setFld F.HP_LSTAT_LINK_UP 1 l
      let c := (c.setFld F.HP_LSTAT_DEGRADED (b2n (w || v)) l).post (srcHp l) 0x1001 [l, speed, width]
      let c := if w || v then c.setFld F.HP_FAULT_DEGRADED 1 l else c
      let c := if w then c.post (srcHp l) 0x1003 [l, width] else c
      if v then c.post (srcHp l) 0x1004 [l, speed] else c) s

/-- RETRAIN (R41, R43): HP1 and HP3 of a merged pair are ignored. -/
def execRetrain (port : Nat) (s : State) : Outcome := onChip (fun c => if c.lead port = port then c.train port else c) s

/-- LINK_DISABLE (R73). -/
def execLinkDisable (port : Nat) (s : State) : Outcome :=
  onChip (fun c =>
    let c := c.setFld F.HP_CTL_LINK_DIS 1 port
    if c.lead port = port then (c.emit (.lanesIdle port)).resetLink port else c) s

/-- HOT_RESET (R73). -/
def execHotReset (port : Nat) (s : State) : Outcome := onChip (fun c => (c.resetLink port).train port) s

/-- LINK_DOWN (R72). -/
def execLinkDown (port ltssm : Nat) (s : State) : Outcome :=
  onChip (fun c =>
    let l := c.lead port
    if (c.port l).up then
      (((c.post (srcHp l) 0x1002 [l, ltssm]).setFld F.HP_FAULT_LINK_DOWN 1 l).resetLink l).train l
    else c) s

/-- CONFIG_REQUEST (R44, R57, R61). Clearing VF Enable resets the VFs. -/
def execConfigRequest (fn : Nat) (act : CfgAction) (s : State) : Outcome :=
  onChip (fun c =>
    if !c.flag F.HP_CTL_CFG_RDY (c.lead (portOf fn)) then c.emit (.cfgReply fn true)
    else if !c.fnExists fn then c.emit (.unsupported fn)
    else
      let c := c.emit (.cfgReply fn false)
      match act with
      | .vfEnable on =>
        if !isPf fn then c
        else
          let c := if !on then ((c.portFns (portOf fn)).filter (!isPf ·)).foldl (fun c f => c.startReset f) c else c
          c.modFn fn fun r => { r with vfe := on }
      | .pasidEnable on => c.modFn fn fun r => { r with pasidCap := on }
      | .read => c
      | .write _ _ => c) s

/-- The narrowest width of L0p: ×2 or ×4, doubled on a merged pair; `none` where it is off or reserved. -/
def Chip.l0pMin (c : Chip) (p : Nat) : Option Nat :=
  let k := if c.merged p then 2 else 1
  match c.fld F.HP_CTL_L0P_MIN p with
  | 1 => some (2 * k)
  | 2 => some (4 * k)
  | _ => none

/-- L0P_NARROW (R45). -/
def execL0pNarrow (port width : Nat) (s : State) : Outcome :=
  onChip (fun c =>
    let l := c.lead port
    if c.flag F.HP_LSTAT_LINK_UP l && c.flag F.HP_LSTAT_FLIT l && (c.l0pMin l).any (· ≤ width) && decide (width < c.fld F.HP_LSTAT_L0P_WIDTH l)
      then c.setFld F.HP_LSTAT_L0P_WIDTH width l else c) s

/-- L0P_WIDEN (R45). -/
def execL0pWiden (port width : Nat) (s : State) : Outcome :=
  onChip (fun c =>
    let l := c.lead port
    if c.flag F.HP_LSTAT_LINK_UP l && decide (c.fld F.HP_LSTAT_L0P_WIDTH l < width ∧ width ≤ c.fld F.HP_LSTAT_WIDTH l)
      then c.setFld F.HP_LSTAT_L0P_WIDTH width l else c) s

/-! Functions -/

/-- D3HOT_ENTRY (R48). -/
def execD3hotEntry (fn : Nat) (s : State) : Outcome :=
  onChip (fun c => if c.fnExists fn then c.modFn fn fun r => { r with d3hot := true } else c) s

/-- Signal the pending, unmasked vectors of a function. -/
def Chip.signalPending (c : Chip) (f : Nat) : Chip :=
  let ready := (c.fn f).pba.filter fun v => !((pget (c.fn f).msix v).map MsixEntry.mask).getD false
  ready.reverse.foldl (fun c v => (c.modFn f fun r => { r with pba := r.pba.filter (· != v) }).msix f v) c

/-- D0_RETURN (R48): held completions are posted in completion order. -/
def execD0Return (fn : Nat) (s : State) : Outcome :=
  onChip (fun c =>
    let r := c.fn fn
    if !r.d3hot then c
    else
      let c := c.modFn fn fun r => { r with d3hot := false, d3Held := [] }
      (r.d3Held.foldl (fun c h => c.postHeld fn h) c).signalPending fn) s

/-- INVALID_DOORBELL_WRITE (R50). -/
def Chip.badDoorbell (c : Chip) (f : Nat) : Chip := c.asyncEvent f .invalidDoorbell

/-- SQ_TAIL_DOORBELL (R50, R75, R80, R423, R503): the tail held is replaced; a fenced function ignores it. -/
def execSqTailDoorbell (fn qid value : Nat) (s : State) : Outcome :=
  onChip (fun c =>
    let r := c.fn fn
    if !c.fnExists fn || r.fence.isSome then c
    else match pget r.sqs qid with
      | none => c.badDoorbell fn
      | some q =>
        if value ≥ q.size then c.badDoorbell fn
        else (c.modFn fn fun r => { r with sqs := pset r.sqs qid { q with tail := value } }).demand domMx) s

/-- CQ_HEAD_DOORBELL (R50, R80, R104, R423). -/
def execCqHeadDoorbell (fn qid value : Nat) (s : State) : Outcome :=
  onChip (fun c =>
    let r := c.fn fn
    if !c.fnExists fn || r.fence.isSome then c
    else match pget r.cqs qid with
      | none => c.badDoorbell fn
      | some q =>
        if value ≥ q.size then c.badDoorbell fn
        else
          let c := (c.modFn fn fun r => { r with cqs := pset r.cqs qid { q with head := value } }).demand domMx
          if r.d3hot || !(r.active || r.mstate = .freezing) then c else Chip.unstall (q.held.length + 1) fn qid c) s

/-! Assignment (R52 to R57, R415, R429) -/

/-- The entry a host wrote (BAR2_ASG_QT, BAR2_ASG_VN, BAR2_ASG_PASID). -/
def Chip.entry (c : Chip) (f : Nat) : Assign where
  iopq := c.fld F.BAR2_ASG_QT_IOQP f
  vec := c.fld F.BAR2_ASG_VN_VEC f
  tagMin := c.fld F.BAR2_ASG_QT_TAG_MIN f
  tagMax := c.fld F.BAR2_ASG_QT_TAG_MAX f
  nsMax := c.fld F.BAR2_ASG_VN_NS_MAX f
  pasidEn := c.flag F.BAR2_ASG_PASID_EN f
  pasid := c.fld F.BAR2_ASG_PASID_PASID f

/-- Sums over some entries in force: queue pairs with the admin pairs, vectors, guaranteed tags. -/
def sums (as : List Assign) : Nat × Nat × Nat := ((as.map fun a => a.iopq + 1).sum, (as.map (·.vec)).sum, (as.map (·.tagMin)).sum)

/-- Whether the sums stay within limits. -/
def within (s : Nat × Nat × Nat) (qp vec tag : Nat) : Bool := decide (s.1 ≤ qp ∧ s.2.1 ≤ vec ∧ s.2.2 ≤ tag)

/-- The code of a commit: the checks of R55 in order. -/
def Chip.asgCode (c : Chip) (p f : Nat) (a : Assign) : Nat :=
  let r := c.fn f
  let all := fun (l : List Nat) => sums (l.map fun g => if g = f then a else (c.fn g).asg)
  let cap := fun (x : Fld) (lim : Nat) => min lim (c.fld x p)
  if a.vec < 1 || a.vec > 1024 || a.nsMax > 256 || a.tagMax < a.tagMin then 4
  else if r.en || r.rdy || !r.active then 1
  else if !within (all ((List.range 256).map (p * 256 + ·))) (cap F.TENANT_PFCAP_QP_CAP 16384) (cap F.TENANT_PFCAP_VEC_CAP 16384)
      (cap F.TENANT_PFCAP_TAG_CAP 49152) then 2
  else if !within (all (List.range 1024)) 16384 16384 49152 || c.sharedFree < a.tagMin - r.asg.tagMin then 3
  else 0

/-- ASSIGNMENT_COMMIT (R55, R56): GO with an entry index; the entry is in force if every check passes, otherwise event 0x1009. -/
def execAssignmentCommit (pf index : Nat) (s : State) : Outcome :=
  onChip (fun c =>
    let f := pf * 256 + index % 256
    let a := c.entry f
    let code := c.asgCode pf f a
    let c := ((c.setFld F.BAR2_ASG_CMD_INDEX (index % 256) pf).setFld F.BAR2_ASG_STAT_INDEX (index % 256) pf).setFld F.BAR2_ASG_STAT_CODE code pf
    if code = 0 then c.modFn f fun r => { r with asg := a } else c.post (srcHp pf) 0x1009 [pf, index % 256, code]) s

/-! Namespace attachment (R58, R412, R429, R430) -/

/-- The first check of R58 that fails. -/
def Chip.attachCheck (c : Chip) (nsid : Nat) (attach : Bool) (list : List Nat) : Option Status :=
  match c.ns nsid with
  | none => some .invalidNamespaceOrFormat
  | some n =>
    if list.isEmpty || !(list.all c.fnExists) || list.eraseDups.length != list.length then some .controllerListInvalid
    else if attach && list.any fun f => !c.tenantOk f nsid || (c.flag F.TENANT_FNCFG_COMPAT f && n.zoned) then some .controllerListInvalid
    else if list.any fun f => !(c.fn f).active then some .functionFrozen
    else if attach && list.any fun f => (c.fn f).nsids.contains nsid then some .nsAlreadyAttached
    else if !attach && list.any fun f => !(c.fn f).nsids.contains nsid then some .nsNotAttached
    else if attach && list.any fun f => decide ((c.fn f).nsids.length + 1 > (c.fn f).asg.nsMax) then some .nsAttachLimit
    else none

/-- NAMESPACE_ATTACHMENT (R58): CDW10 bits 3:0 are 0 to attach, 1 to detach (log 6); all of the list or nothing. -/
def execNamespaceAttachment (tag : Nat) (list : List Nat) (s : State) : Outcome :=
  onChip (fun c => c.admin tag fun x c =>
    let attach := bitsOf (x.dw 10) 3 0 = 0
    match c.attachCheck x.nsid attach list with
    | some st => c.complete tag st
    | none =>
      let one := fun (c : Chip) (f : Nat) =>
        (c.modFn f fun r => { r with nsids := if attach then r.nsids ++ [x.nsid] else r.nsids.filter (· != x.nsid) }).asyncEvent f
          (.namespaceChanged x.nsid)
      (list.foldl one c).complete tag .success) s

/-! Mailbox, translation, IDE, ANA (R60 to R68) -/

/-- MAILBOX_TO_FW (R60). -/
def execMailboxToFw (pf : Nat) (s : State) : Outcome :=
  onChip (fun c => (c.setFld F.BAR2_MBX_DB_TO_FW 1 pf).emit (.fwIrq (srcHp pf))) s

/-- MAILBOX_TO_HOST (R60): vector 0 of the PF is raised when the bit rises. -/
def execMailboxToHost (pf : Nat) (s : State) : Outcome :=
  onChip (fun c => if c.flag F.BAR2_MBX_DB_TO_HOST pf then c else (c.setFld F.BAR2_MBX_DB_TO_HOST 1 pf).msix (pf * 256) 0) s

/-- ATS_INVALIDATION (R62). -/
def execAtsInvalidation (port fn pasid page count : Nat) (s : State) : Outcome :=
  onChip (fun c =>
    let keep := fun (e : Nat × Nat × Nat × Nat × Nat) =>
      !(e.1 == port && e.2.1 == fn && e.2.2.1 == pasid && decide (page ≤ e.2.2.2.1 ∧ e.2.2.2.1 < page + count))
    ({ c with intake := { c.intake with atc := c.intake.atc.filter keep } }).emit (.atsDone port)) s

/-- HPn_IDESTAT as the streams stand. -/
def Chip.ideStat (c : Chip) (p : Nat) : Chip :=
  (c.setFld F.HP_IDESTAT_SECURE (maskOf (c.port p).secure) p).setFld F.HP_IDESTAT_INSECURE (maskOf (c.port p).insecure) p

/-- IDE_KEY_INSTALL (R63 to R65): a stream is Secure, and bound to functions; 8 streams, 16 on a merged pair. -/
def execIdeKeyInstall (port stream : Nat) (fns : List Nat) (s : State) : Outcome :=
  onChip (fun c =>
    let l := c.lead port
    if stream ≥ (if c.merged l then 16 else 8) then c
    else
      let c := c.modPort l fun x => { x with
        secure := stream :: x.secure.filter (· != stream), insecure := x.insecure.filter (· != stream) }
      (fns.foldl (fun c f => c.modFn f fun r => { r with stream := some stream }) c).ideStat l) s

/-- UNBOUND_STREAM_TLP (R64). -/
def execUnboundStreamTlp (fn : Nat) (stream : Option Nat) (s : State) : Outcome :=
  onChip (fun c => if (c.fn fn).stream.isSome && (c.fn fn).stream != stream then c.emit (.unsupported fn) else c) s

/-- IDE_INTEGRITY_FAILURE (R65): the stream is Insecure, and functions bound to it are fenced with cause 0x1. -/
def execIdeIntegrityFailure (port stream : Nat) (s : State) : Outcome :=
  onChip (fun c =>
    let l := c.lead port
    if !(c.port l).secure.contains stream then c
    else
      let c := (c.modPort l fun x => { x with
        secure := x.secure.filter (· != stream), insecure := stream :: x.insecure }).ideStat l
      let c := (c.setFld F.HP_FAULT_IDE_FAIL 1 l).post (srcHp l) 0x1005 [l, stream]
      ((c.linkFns l).filter fun f => (c.fn f).stream == some stream).foldl (fun c f => c.fence f 1) c) s

/-- ANA_STATE_WRITE (R66 to R68): states of 16 groups on a port; each change is recorded, and the port's functions are told. -/
def execAnaStateWrite (port k value : Nat) (s : State) : Outcome :=
  onChip (fun c =>
    let i := port * 64 + k
    let old := c.reg .hpAnast i
    let nib := fun (w j : Nat) => bitsOf w (4 * j + 3) (4 * j)
    let js := (List.range 16).filter fun j => nib old j != nib value j
    let c := c.setReg .hpAnast i value
    let c := js.foldl (fun c j => c.post (srcHp port) 0x100A [16 * k + j + 1, port, nib value j]) c
    if js.isEmpty then c else (c.portFns port).foldl (fun c f => if (c.fn f).rdy then c.asyncEvent f .anaChange else c) c) s

/-! Errors of DMA (R74) -/

/-- A DMA read of host memory fails: a command ends with Data Transfer Error; an SQ fetch posts no completion, and reports through
AER. -/
def Chip.dmaFailed (c : Chip) (rd : DmaRead) (poison : Bool) : Chip :=
  let ev := if poison then 0x1008 else 0x1007
  let fld := if poison then F.HP_FAULT_POISON_RX else F.HP_FAULT_CPL_TIMEOUT
  match rd with
  | .command t =>
    match c.ctx t with
    | some x =>
      let c := (c.setFld fld 1 (portOf x.fn)).post (srcHp (portOf x.fn)) ev [x.fn, t]
      if x.committed || x.sent then c else c.failCmd t .dataTransferError
    | none => c
  | .sqFetch f qid =>
    match (c.tagsOf f fun x => x.sqid = qid && x.sqe.isEmpty).head? with
    | some t => (((c.setFld fld 1 (portOf f)).post (srcHp (portOf f)) ev [f, t]).emit (.aer f false poison)).squash t
    | none => c

/-- DMA_READ_TIMEOUT (R74). -/
def execDmaReadTimeout (rd : DmaRead) (s : State) : Outcome := onChip (fun c => c.dmaFailed rd false) s

/-- POISONED_COMPLETION (R74). -/
def execPoisonedCompletion (rd : DmaRead) (s : State) : Outcome := onChip (fun c => c.dmaFailed rd true) s

/-- POISONED_WRITE_TLP (R74): discarded. -/
def execPoisonedWriteTlp (fn off : Nat) (s : State) : Outcome :=
  onChip (fun c => (c.setFld F.HP_FAULT_POISON_RX 1 (portOf fn)).post (srcHp (portOf fn)) 0x1008 [fn, off]) s

/-- PORT_FENCE (R76): lanes idle, every function of the port fenced with cause 0x4. -/
def Chip.portFence (c : Chip) (p : Nat) : Chip :=
  let c := (c.emit (.lanesIdle p)).setFld F.HP_FAULT_PORT_FENCED 1 p
  (c.portFns p).foldl (fun c f => c.fence f 4) (c.dropLink p)

end Sys2Proof.Machine
end

