-- ==== Sys2Proof/Machine/Warm.lean ====
section
/-! DEFINITION. The WARM reset and the POR (R9, R501, R535, R536): what each keeps, and the release of the WARM reset by RESV. -/

namespace Sys2Proof.Machine

/-- Change the supply side, the boot side. -/
def Chip.modSup (c : Chip) (g : Supply → Supply) : Chip := { c with supply := g c.supply }
def Chip.modSys (c : Chip) (g : Sys → Sys) : Chip := { c with sys := g c.sys }

/-- Whether the register a value is listed under is of domain POR (R9). -/
def porKey (k : Nat) : Bool := (allRegs[k / 65536]?).any fun r => (regPlace r).dom == .por

/-- A segment on the medium: a copy of the snapshot under way counts when it was written whole (R158). -/
def Segment.onMedium (s : Segment) (k : Nat) : Segment :=
  match s.data with
  | some d =>
    let whole := !s.cists.isEmpty && (List.range (segCopies k)).any fun i => mget 0 s.left i == 0
    if whole then { s with changed := false, data := none, left := [], cists := [], best := some (s.pass, s.snapJsn, d), bestCists := s.cists }
    else { s with changed := false, data := none, left := [], cists := [] }
  | none => { s with changed := false, left := [], cists := [] }

/-- The journal on the medium: durable records, frames being programmed, and the cisterns that hold them (R371). -/
def Journal.onMedium (j : Journal) : Journal :=
  { journalReset with
    nextJsn := j.nextJsn
    nextFrame := ((j.flying.find? fun f => !f.started).map Frame.no).getD j.nextFrame
    flying := j.flying.filter (·.started)
    durable := j.durable
    durableTo := j.durableTo
    trio := j.trio
    retained := if j.trioCist.isEmpty then j.retained else j.retained ++ [(j.nextJsn, j.trioCist)] }

/-- The part of ZMAP's state that lies on the medium: namespaces, reservations, segments, journal, basin cisterns (log 21). -/
def Zmap.onMedium (z : Zmap) : Zmap :=
  { zmapReset with
    nss := z.nss
    nsOrder := z.nsOrder
    fdp := z.fdp
    resvs := z.resvs
    nextPart := z.nextPart
    nextRowId := z.nextRowId
    nextCommit := z.nextCommit
    stamp := z.stamp
    pairs := z.pairs.map fun e => (e.1, { e.2 with gatherAt := none })
    nextPair := z.nextPair
    freePairs := z.freePairs
    tailPairs := z.tailPairs
    landRes := z.landRes
    loose := z.loose
    totalPairs := z.totalPairs
    segs := z.segs.map fun e => (e.1, e.2.onMedium e.1)
    pass := z.pass
    journal := z.journal.onMedium }

/-- The part of the media side's state that lies on the medium, and numbers that must not be used again. -/
def Media.onMedium (m : Media) : Media := { mediaReset with nextOp := m.nextOp, nextRd := m.nextRd, progAt := m.progAt, lapCkpt := m.lapCkpt }

/-- The recorder over a WARM reset: AON SRAM keeps its contents (R518, R519); a clear under way is abandoned. -/
def Recorder.overWarm (e : Recorder) (time : Nat) : Recorder :=
  { e with
    queues := []
    time := time
    counting := false
    waitPage := false
    clear := none
    ckptNew := none
    windows := []
    resetRsn := e.nextRsn }

/-- The recorder over a POR: only what lies on the medium is left (R518, R519, R524). -/
def Recorder.overPor (e : Recorder) (nonce : Word) : Recorder :=
  { recorderReset nonce with
    log := e.log
    logPages := e.logPages
    logFull := e.logFull
    images := e.images
    imageSerial := e.imageSerial
    ckptSerial := e.ckptSerial
    clears := e.clears
    turn := e.turn
    ckpt := e.ckpt }

/-- The balls of the ports keep their levels; links and IDE keys are lost. -/
def portsOver (ps : PMap Port) : PMap Port := ps.map fun e => (e.1, { portReset with perst := e.2.perst })

/-- Namespace attachments lie on the medium beside the namespaces (log 21). -/
def fnsOver (fs : PMap FnRec) : PMap FnRec :=
  (fs.filter fun e => !e.2.nsids.isEmpty).map fun e => (e.1, { fnReset e.1 with nsids := e.2.nsids })

/-- POR (R9, R562): every register and memory of the die; what lies on the medium, in fuses and in the boot flash stays. -/
def Chip.powerOnReset (c : Chip) : Chip :=
  let n := chipPor c.fuses c.fresh c.now
  let n := { n with
    ports := portsOver c.ports
    fns := fnsOver c.fns
    ev := c.ev.overPor n.ev.nonce
    z := c.z.onMedium
    m := c.m.onMedium
    sys := sysReset c.now c.sys.flash c.sys.bootRecs
    out := c.out }
  n.setFld F.PWR_PINS_PERST_L (c.fld F.PWR_PINS_PERST_L)

/-- POWER_ON_RESET (R9, R535, R562): POR_L is asserted, or the standby supply leaves its limits. -/
def execPowerOnReset (s : State) : Outcome := onState (fun s => { s with mem := [], chip := s.chip.powerOnReset }) s

/-- Clear the fields of POR-domain registers that a WARM reset clears (R9, R542): HANDOFF and every ARM. -/
def Chip.clearAtWarm (c : Chip) : Chip :=
  (List.range 33).foldl (fun c d => c.setFld F.PWR_DOM_ARM 0 d) (c.setFld F.SYS_BOOT_HANDOFF 0)

/-- WARM_RESET (R9): every register of domain WARM or FUNC and the state of every block outside AON; POR-domain registers, RESV and the
recorder's SRAM keep their values; a fresh epoch and nonce are drawn (R426, EVREC_NONCE). Events still queued are recorded first. -/
def Chip.warmReset (c : Chip) : Chip :=
  let c := c.recordAll
  let n := chipPor c.fuses c.fresh c.now
  let n := { n with
    regs := c.regs.filter fun e => porKey e.1
    ports := portsOver c.ports
    fns := fnsOver c.fns
    ev := { c.ev.overWarm c.opTime with nonce := n.ev.nonce }
    z := c.z.onMedium
    m := c.m.onMedium
    supply := c.supply
    sys := sysReset c.now c.sys.flash c.sys.bootRecs
    wr := c.wr
    out := c.out }
  ((List.range 4).foldl (fun c p => c.emit (.lanesIdle p)) n).clearAtWarm

/-- An FG domain whose ports are all fused stays Off (R3, R501). -/
def Chip.domFused (c : Chip) (d : Nat) : Bool :=
  decide (5 ≤ d ∧ d ≤ 10) && (List.range 6).all fun i => !bitOf c.fuses.fport (6 * (d - 5) + i)

/-- RESV releases the WARM reset (R471, R501, R518, R535, R549): the cause is recorded, the power cycle counted after a POR or step 10,
operating time and the device watchdog run, every domain but fused ones is On, links may train, a reservoir test is owed (R476), and the
ledger waits for avail (R193). The black-box image of R523 follows a WARM reset. -/
def Chip.release (c : Chip) (code : Nat) : Chip :=
  let cycle := c.supply.cycle
  let c := (c.setFld F.SYS_RSTCAUSE_PREV (c.fld F.SYS_RSTCAUSE_CAUSE)).setFld F.SYS_RSTCAUSE_CAUSE code
  let c : Chip := { c with ev := { c.ev with
    cycles := if cycle && c.ev.restored then c.ev.cycles + 1 else c.ev.cycles
    counting := true
    since := c.now } }
  let c := c.modSup fun u => { u with held := false, cycle := false, owed := some c.opTime, overdue := false, fanAt := c.now }
  let c := c.modSys fun y => { y with released := c.now, wdogAt := c.now }
  let c := (List.range 33).foldl (fun c d => c.setFld F.PWR_DOM_STATE (if c.domFused d then 2 else 0) d) c
  let c := c.modL fun l => { l with starting := true, below := true }
  let c := (List.range 4).foldl (fun c p => if c.lead p = p then c.train p else c) c
  if c.ev.restored then c.blackBox c.ev.resetRsn 1 .d1 else c

/-- A WARM reset taken with the supply present (R535, R536): it is released at once; while the supply is below the warning level, or a
main rail is not good, the hold of R471 runs first. -/
def Chip.takeWarm (c : Chip) (code : Nat) : Chip :=
  let c := c.warmReset
  if c.supply.held || c.flag F.RESV_PFSTAT_WARN || !c.supply.mainPg then
    (c.modSup fun u => { u with held := true, code := code, holdFrom := c.now, windowAt := none }).setFld F.RESV_PFSTAT_WINDOW 0
  else c.release code

/-- DEVICE_FAULT_RESET (R536): event 0x9015 with the fault class, then a WARM reset with code 0x4. The fault classes are numbered by their
line in the table of R551 (log 6). -/
def Chip.deviceFault (c : Chip) (cls : Nat) : Chip := (c.post srcSys 0x9015 [cls]).takeWarm 4

end Sys2Proof.Machine
end

