-- ==== Sys2Proof/Machine/Supply.lean ====
section
/-! DEFINITION. The input supply and the power-fail commit (R195 to R200, R469 to R472, R561, R562), and the reservoir with its test
(R473 to R477). -/

namespace Sys2Proof.Machine

/-! The supply -/

/-- WARN_MV and RESET_MV as taken (RESV_PFLVL). -/
def Chip.warnMv (c : Chip) : Nat :=
  let v := c.fld F.RESV_PFLVL_WARN_MV
  if 9000 ≤ v ∧ v ≤ 11500 then v else 10800
def Chip.resetMv (c : Chip) : Nat := min (c.fld F.RESV_PFLVL_RESET_MV) (c.warnMv - 500)

/-- The hold of R471. -/
def Chip.holdNs (c : Chip) : Nat := ms (c.clampFld F.RESV_PFLVL_HOLD_MS 50 2000)

/-- A warning is in force. -/
def Chip.warned (c : Chip) : Bool := c.flag F.RESV_PFSTAT_WARN

/-- The lowest input of the warning. -/
def Chip.lowerMin (c : Chip) (mv : Nat) : Chip := c.setFld F.RESV_PFSTAT_MIN_MV (min mv (c.fld F.RESV_PFSTAT_MIN_MV))

/-- Events 0xA001 and 0xA002, once per warning, with the lowest input (R469, R562). -/
def Chip.warningEvents (c : Chip) : Chip :=
  if c.supply.posted then c
  else
    let mv := c.fld F.RESV_PFSTAT_MIN_MV
    let c := if c.warned then c.post srcResv 0xA001 [mv] else c
    let c := if c.supply.crossed then c.post srcResv 0xA002 [mv] else c
    c.modSup fun u => { u with posted := true }

/-- A reservoir test stops without a result; RES_EN stays high only for a warning (R477, R489). -/
def Chip.stopTest (c : Chip) : Chip :=
  if c.supply.test.isNone then c
  else
    let c := (c.modSup fun u => { u with test := none, resChg := true }).setFld F.RESV_RSTAT_TESTING 0
    if c.warned then c else c.setFld F.RESV_RSTAT_SWITCHED_IN 0

/-- SUPPLY_WARNING (R195, R469 to R472, R489, R501): the ledger freezes, the reservoir is switched in, a test stops, and domains in Retention
wake. A further dip inside a warning only lowers MIN_MV; while the WARM reset is held a dip restarts the hold. -/
def execSupplyWarning (mv : Nat) (s : State) : Outcome :=
  onChip (fun c =>
    if c.supply.porLow then c
    else if c.warned then c.lowerMin mv
    else
      let c := ((c.addFld F.RESV_PFSTAT_WARNINGS 1).setFld F.RESV_PFSTAT_WARN 1).setFld F.RESV_PFSTAT_MIN_MV mv
      let c := c.modSup fun u => { u with crossed := false, posted := false }
      if c.supply.held then c
      else
        let c := (c.setFld F.RESV_RSTAT_SWITCHED_IN 1).stopTest
        if c.z.ledger.pfCommit then c
        else
          let c := (c.setFld F.RESV_PFSTAT_WINDOW 1).modSup fun u => { u with windowAt := some c.now }
          (c.modL fun l => { l with frozen := true }).wakeAll) s

/-- Step 3 of R197: the host links are idle and the host port domains off. -/
def Chip.hostOff (c : Chip) : Chip := (List.range 4).foldl (fun c p => (c.dropLink p).setFld F.PWR_DOM_STATE 2 (domHp p)) c

/-- PF_COMMIT from the supply, the balls or the sensors (R197, R469, R485): the warning's events, then the sequence. -/
def Chip.commitPower (c : Chip) : Chip :=
  if c.z.ledger.pfCommit then c
  else
    let c := (c.warningEvents.setFld F.RESV_PFSTAT_WINDOW 0).stopTest
    (c.modSup fun u => { u with windowAt := none, commits := u.commits + 1 }).pfCommit.hostOff

/-- BROWNOUT_RIDDEN (R196, R470, R472): the supply is back before the window closes: the ledger thaws, RES_EN is released and RES_CHG raised,
and waiting requests are admitted. -/
def execBrownoutRidden (s : State) : Outcome :=
  onChip (fun c =>
    match c.supply.windowAt with
    | some t =>
      let c := c.warningEvents
      let c := (((c.setFld F.RESV_PFSTAT_WARN 0).setFld F.RESV_PFSTAT_WINDOW 0).addFld F.RESV_PFSTAT_RIDDEN 1).setFld F.RESV_RSTAT_SWITCHED_IN 0
      let c := (c.modSup fun u => { u with windowAt := none, resChg := true, ridden := u.ridden + 1 }).post srcLedger 0xA102 [(c.now - t) / 1000]
      Chip.commitAll (c.modL fun l => { l with frozen := false }).ledgerPump
    | none => c) s

/-- CONFIRMATION_WINDOW_EXPIRY (R197, R470): 500 µs after the warning the supply is still low. -/
def execConfirmationWindowExpiry (s : State) : Outcome :=
  onChip (fun c =>
    match c.supply.windowAt with
    | some t => (c.advanceTo (t + us 500)).commitPower
    | none => c) s

/-- SUPPLY_RESET_LEVEL (R197): the supply crosses the reset level during the window. After the commit nothing changes (R489). -/
def execSupplyResetLevel (mv : Nat) (s : State) : Outcome :=
  onChip (fun c =>
    if !c.warned then c
    else
      let c := c.lowerMin mv
      if c.supply.windowAt.isSome then (c.modSup fun u => { u with crossed := true }).commitPower else c) s

/-- SUPPLY_RETURN (R470, R471): the supply is above the warning level outside a window: WARN clears and the hold starts. -/
def execSupplyReturn (s : State) : Outcome :=
  onChip (fun c =>
    if c.supply.windowAt.isSome then c
    else
      let c := if c.warned then c.warningEvents.setFld F.RESV_PFSTAT_WARN 0 else c
      if c.supply.held || c.z.ledger.pfCommit then c.modSup fun u => { u with holdFrom := c.now } else c) s

/-- PF_POWER_OFF (R197 step 10, R472, R501): every domain but AON is switched off, RES_EN is released, and the WARM reset is held until the
hold of R471 has run. -/
def execPfPowerOff (s : State) : Outcome :=
  onChip (fun c =>
    if c.z.ledger.step = .off then
      let c := c.warmReset.setFld F.RESV_RSTAT_SWITCHED_IN 0
      let c := (List.range 32).foldl (fun c d => c.setFld F.PWR_DOM_STATE 2 (d + 1)) c
      c.modSup fun u => { u with held := true, cycle := true }
    else c) s

/-- Every die sensor has read below 95 °C (R485). -/
def Chip.diesCool (c : Chip) : Bool := c.supply.samples.all fun e => decide (e.2 < 380)

/-- SUPPLY_HOLD_EXPIRY (R200, R471, R485, R561): the supply has held: RESV releases the WARM reset. -/
def execSupplyHoldExpiry (s : State) : Outcome :=
  onChip (fun c =>
    let u := c.supply
    if u.held && !u.porLow && u.mainPg && !c.warned && (u.code != 3 || c.diesCool) then
      let c := (c.advanceTo (u.holdFrom + c.holdNs)).release u.code
      c.modSup fun u => { u with code := 2 }
    else c) s

/-- MAIN_PG_FALL (R562): without a committed sequence it commits as a crossing of the reset level does; while the WARM reset is held the hold
restarts. -/
def execMainPgFall (s : State) : Outcome :=
  onChip (fun c =>
    if !c.supply.mainPg then c
    else
      let c := c.modSup fun u => { u with mainPg := false }
      if c.supply.held then c.modSup fun u => { u with holdFrom := c.now }
      else if c.z.ledger.pfCommit then c
      else
        let c := c.modSup fun u => { u with crossed := true, posted := u.posted && c.warned }
        c.commitPower) s

/-- MAIN_PG_RISE (R561). -/
def execMainPgRise (s : State) : Outcome :=
  onChip (fun c =>
    if c.supply.mainPg then c
    else c.modSup fun u => { u with mainPg := true, holdFrom := if u.held then c.now else u.holdFrom }) s

/-- POR_L_RELEASE (R561): AON starts on ACLK. -/
def execPorLRelease (s : State) : Outcome :=
  onChip (fun c => if c.supply.porLow then c.modSup fun u => { u with porLow := false, holdFrom := c.now } else c) s

/-! The reservoir (R473 to R477). Voltages in 10 mV or mV at the bank, currents in mA, charge in µC. -/

/-- TEST_DROP_MV as taken. -/
def Chip.testDrop (c : Chip) : Nat := max 1000 (c.fld F.RESV_RCFG2_TEST_DROP_MV)

/-- e_use of R475 in µJ at a bank voltage in 10 µV: 0.5 × C × (V² − v_eff²), v_eff = V_MIN + I_MAX × ESR. -/
def Chip.usableUj (c : Chip) (v : Nat) : Nat :=
  let vEff := c.fld F.RESV_RCFG_VMIN_10MV * 1000 + c.fld F.RESV_RCFG_IMAX_100MA * c.fld F.RESV_TRES_ESR
  if !c.flag F.RESV_TRES_VALID || v ≤ vEff then 0 else c.fld F.RESV_TRES_C_UF * (v * v - vEff * vEff) / 20000000000

/-- The voltage that R475 computes with, in 10 µV: during a test, and until the bank is charged again, the lower of the measured one and
V_CHG − drop. -/
def Chip.bankV (c : Chip) : Nat :=
  let v := c.fld F.RESV_RSTAT_VRES_10MV * 1000
  match c.supply.lowered with
  | some d => min v (c.fld F.RESV_RCFG_VCHG_10MV * 1000 - d * 100)
  | none => v

/-- NEED_MJ and AVAIL_MJ as shown. -/
def Chip.needMj (c : Chip) : Nat := (c.needUj + 999) / 1000
def Chip.availMj (c : Chip) : Nat := c.availUj / 1000

/-- The usable energy is computed anew (R193, R475): E_NOW_MJ and E_FULL_MJ; avail falling below need is recorded, but not at start-up; what
now fits is admitted. -/
def Chip.energy (c : Chip) : Chip :=
  let e := c.usableUj c.bankV
  let c := (c.setFld F.RESV_RSTAT_E_NOW_MJ (min (e / 1000) 65535)).setFld F.RESV_RSTAT_E_FULL_MJ
    (min (c.usableUj (c.fld F.RESV_RCFG_VCHG_10MV * 1000) / 1000) 65535)
  let c := c.modL fun l => { l with eUse := e }
  let low := decide (c.availUj < c.needUj)
  let c := if low && !c.z.ledger.below && !c.z.ledger.starting then c.post srcLedger 0xA105 [c.needMj, c.availMj] else c
  let c := c.modL fun l => { l with below := low, starting := l.starting && low }
  Chip.commitAll c.ledgerPump

/-- Set or clear a bit of the SMART critical warning; hosts are told when it is set. -/
def Chip.setSmart (c : Chip) (i : Nat) (on : Bool) : Chip :=
  let old := bitOf c.supply.smart i
  let c := c.modSup fun u => { u with smart := putBits u.smart i i (b2n on) }
  if on && !old then ((List.range 4).map (· * 256)).foldl (fun c f => c.asyncEvent f (.criticalWarning (2 ^ i))) c else c

/-- The next periodic test, in operating time (R476). -/
def Chip.testPeriod (c : Chip) : Nat :=
  let h := c.fld F.RESV_CTL_TEST_PERIOD_H
  (if 1 ≤ h ∧ h ≤ 24 then h else 24) * 1024

/-- A test is no longer due: the next one follows after the period. -/
def Chip.testTaken (c : Chip) : Chip := c.modSup fun u => { u with owed := none, overdue := false, nextTest := c.opTime + c.testPeriod }

/-- Step 2 of R476: RES_CHG is cleared. -/
def Chip.testStep2 (c : Chip) : Chip :=
  c.testTaken.modSup fun u => { u with resChg := false, test := u.test.map fun (t : ResTest) => { t with step := 2, at_ := c.now } }

/-- Step 1 ends once need is within avail; it does not wait while no valid result exists (R476). -/
def Chip.testGo (c : Chip) : Chip :=
  match c.supply.test with
  | some t => if t.step = 1 && (!c.flag F.RESV_TRES_VALID || decide (c.needUj ≤ c.availUj)) then c.testStep2 else c
  | none => c

/-- Bit 4 of the critical warning and PASS follow a test (R477). -/
def Chip.testFailed (c : Chip) (cause : Nat) : Chip := ((c.setFld F.RESV_TRES_PASS 0).post srcResv 0xA004 [cause]).setSmart 4 true

/-- The largest drop, cut in steps of 500 mV down to 1,000 mV, that leaves FIXED_MJ + OPS_FLOOR_MJ at the lowered V (R476). -/
def Chip.fitDrop : Nat → Nat → Chip → Option Nat
  | 0, _, _ => none
  | n + 1, d, c =>
    let v := min (c.fld F.RESV_RSTAT_VRES_10MV * 1000) (c.fld F.RESV_RCFG_VCHG_10MV * 1000 - d * 100)
    if c.usableUj v ≥ c.fixedUj + max 500 (c.fld F.LEDGER_CTL_OPS_FLOOR_MJ) * 1000 then some d
    else if d ≤ 1000 then none
    else fitDrop n (max 1000 (d - 500)) c

/-- A test starts (R476): with the lowered V; the full drop while no valid result exists. One in progress goes on; none starts during a
warning or a committed sequence. -/
def Chip.startTest (c : Chip) : Chip :=
  if c.supply.test.isSome || c.warned || c.supply.held || c.z.ledger.pfCommit then c
  else
    let drop := if c.flag F.RESV_TRES_VALID then Chip.fitDrop 140 c.testDrop c else some c.testDrop
    match drop with
    | none => c.testTaken.testFailed 0
    | some d =>
      let c := (c.setFld F.RESV_RSTAT_TESTING 1).modSup fun u => { u with test := some ⟨1, d, c.now, 0, 0, 0⟩, lowered := some d }
      c.energy.testGo

/-- RESERVOIR_ENERGY_UPDATE (R475): every 100 µs, with the bank's voltage averaged over the interval, in 10 mV. -/
def execReservoirEnergyUpdate (v : Nat) (s : State) : Outcome :=
  onChip (fun c =>
    let c := (c.advanceTo (c.supply.energyAt + us 100)).setFld F.RESV_RSTAT_VRES_10MV v
    let c := c.modSup fun u => { u with energyAt := c.now }
    let c := if v * 100 < c.fld F.RESV_RCFG_VCHG_10MV * 99 then c.setFld F.RESV_RSTAT_CHARGED 0 else c
    c.energy.testGo) s

/-- RESERVOIR_TEST_START (R476): the test owed since the start, once the bank is charged, or the periodic test. -/
def execReservoirTestStart (s : State) : Outcome :=
  onChip (fun c =>
    if c.supply.owed.isSome then if c.flag F.RESV_RSTAT_CHARGED then c.startTest else c
    else (c.advanceTo (c.now + (c.supply.nextTest - c.opTime) * 3515625000)).startTest) s

/-- TEST_NOW (R476). -/
def execTestNow (s : State) : Outcome := onChip (fun c => c.startTest) s

/-- TEST_V0_SAMPLE (R476 steps 2 and 3): V0 in mV, 1 ms after charging stopped; RES_EN is raised. -/
def execTestV0Sample (v0 : Nat) (s : State) : Outcome :=
  onChip (fun c =>
    match c.supply.test with
    | some t =>
      if t.step = 2 then
        let c := (c.advanceTo (t.at_ + ms 1)).setFld F.RESV_RSTAT_SWITCHED_IN 1
        c.modSup fun u => { u with test := some { t with step := 3, at_ := c.now, v0 := v0 } }
      else c
    | none => c) s

/-- TEST_ESR_SAMPLE (R476 step 4): V1 in mV and I1 in mA, 20 µs later; ESR = (V0 − V1) / I1, in 0.1 mΩ; without current it is a free value. -/
def execTestEsrSample (v1 i1 : Nat) (s : State) : Outcome :=
  onChip (fun c =>
    match c.supply.test with
    | some t =>
      if t.step = 3 then
        let c := c.advanceTo (t.at_ + us 20)
        let (free, c) := c.take
        let esr := if i1 = 0 then free % 65536 else min 65535 ((t.v0 - v1) * 10000 / i1)
        c.modSup fun u => { u with test := some { t with step := 4, at_ := c.now, v1 := v1, esr := esr } }
      else c
    | none => c) s

/-- TEST_INTEGRATION_END (R476 steps 5 and 6, R477): the charge drawn and V_end; C = charge / (V1 − V_end), a free value where the voltage has
not fallen. The result passes or fails. -/
def execTestIntegrationEnd (charge vEnd : Nat) (s : State) : Outcome :=
  onChip (fun c =>
    match c.supply.test with
    | some t =>
      if t.step = 4 then
        let (free, c) := c.take
        let cap := if t.v1 ≤ vEnd then free % 2 ^ 32 else min (2 ^ 32 - 1) (charge * 1000 / (t.v1 - vEnd))
        let c := if c.warned then c else c.setFld F.RESV_RSTAT_SWITCHED_IN 0
        let c := (c.modSup fun u => { u with test := none, resChg := true }).setFld F.RESV_RSTAT_TESTING 0
        let c := ((c.setFld F.RESV_TRES_VALID 1).setFld F.RESV_TRES_C_UF cap).setFld F.RESV_TRES_ESR t.esr
        let c := ((c.setFld F.RESV_TTIME_TIME c.opTime).setFld F.RESV_TTIME_CYCLES c.ev.cycles).energy
        let full := c.fld F.RESV_RSTAT_E_FULL_MJ
        let c := c.post srcResv 0xA003 [cap, t.esr, full, t.v1 - vEnd]
        if full < max 6000 (c.fld F.RESV_RCFG2_EMIN_MJ) then c.testFailed 0
        else if t.esr > c.fld F.RESV_RCFG2_ESR_MAX_MOHM * 10 then c.testFailed 1
        else (c.setFld F.RESV_TRES_PASS 1).setSmart 4 false
      else c
    | none => c) s

/-- RESERVOIR_TEST_OVERDUE (R491): the test has not started 4 h of operating time after it was due. -/
def execReservoirTestOverdue (s : State) : Outcome :=
  onChip (fun c =>
    let due := match c.supply.owed with
      | some t => if c.flag F.RESV_RSTAT_CHARGED || c.supply.test.isSome then some t else none
      | none => some c.supply.nextTest
    match due with
    | some t =>
      if c.supply.overdue || c.supply.held || c.supply.test.any fun (x : ResTest) => decide (x.step > 1) then c
      else
        let c := c.advanceTo (c.now + (t + 4 * 1024 - c.opTime) * 3515625000)
        (c.modSup fun u => { u with overdue := true }).post srcResv 0xA006 [c.needMj, c.availMj]
    | none => c) s

/-- The heater, charger: RES_CHG follows CHG_EN (R474); the charge timeout runs from the moment it is set. -/
def Chip.chargeEnable (c : Chip) (on : Bool) : Chip :=
  let was := c.flag F.RESV_CTL_CHG_EN
  let c := c.setFld F.RESV_CTL_CHG_EN (b2n on)
  c.modSup fun u => { u with
    resChg := on && !(u.test.any fun (t : ResTest) => decide (t.step ≥ 2))
    chgFrom := if !on then none else if was then u.chgFrom else some c.now }

/-- BANK_CHARGED (R474, R476 step 7): the measured V is used again; a test owed falls due. -/
def execBankCharged (s : State) : Outcome :=
  onChip (fun c =>
    let c := (c.setFld F.RESV_RSTAT_CHARGED 1).setFld F.RESV_RSTAT_CHG_FAULT 0
    (c.modSup fun u => { u with
      chgFrom := none
      lowered := if u.test.isSome then u.lowered else none
      owed := u.owed.map fun _ => c.opTime }).energy) s

/-- CHARGE_TIMEOUT (R474): the bank is not charged CHG_TMO_S after CHG_EN. -/
def execChargeTimeout (s : State) : Outcome :=
  onChip (fun c =>
    match c.supply.chgFrom with
    | some t =>
      let c := c.advanceTo (t + seconds (max 1 (c.fld F.RESV_RCFG2_CHG_TMO_S)))
      ((c.modSup fun u => { u with chgFrom := none }).setFld F.RESV_RSTAT_CHG_FAULT 1).post srcResv 0xA005 [0]
    | none => c) s

/-- BANK_SAG (R474): below 95 % of V_CHG while neither switched in nor under test. -/
def execBankSag (s : State) : Outcome :=
  onChip (fun c =>
    if c.flag F.RESV_RSTAT_SWITCHED_IN || c.supply.test.isSome then c
    else ((c.setFld F.RESV_RSTAT_CHG_FAULT 1).setFld F.RESV_RSTAT_CHARGED 0).post srcResv 0xA005 [1]) s

end Sys2Proof.Machine
end

