-- ==== Sys2Proof/Machine/Thermal.lean ====
section
/-! DEFINITION. Temperature and the differences between regions: die and flash sensors, trip, fan, heater, sluice factor, islands (R266, R480 to
R488, R302). Temperatures in units of 0.25 °C. -/

namespace Sys2Proof.Machine

/-- Valid flash sensors: sensors 1 to 8 of each bridge (R266). -/
def Chip.flashTemps (c : Chip) : List Int :=
  (List.range 36).flatMap fun p => (List.range 8).filterMap fun s =>
    let i := p * 9 + 1 + s
    if c.flag F.BINOR_TEMP_VALID i then some (signed16 (c.fld F.BINOR_TEMP_VALUE i)) else none

/-- Readings of die sensors, and of those that are valid, by sensor. -/
def Chip.dieTemps (c : Chip) : List (Nat × Int) := (List.range 8).map fun i => (i, signed16 (c.fld F.RESV_DTS_VALUE i))
def Chip.validDies (c : Chip) : List (Nat × Int) := c.dieTemps.filter fun e => c.flag F.RESV_DTS_VALID e.1

/-- THROTTLE_Q, FAN_FORCE_Q and TRIP_Q as taken (RESV_TLIM). -/
def Chip.throttleQ (c : Chip) : Int := signed16 (c.fld F.RESV_TLIM_THROTTLE_Q)
def Chip.fanForceQ (c : Chip) : Int := signed16 (c.fld F.RESV_TLIM_FAN_FORCE_Q)
def Chip.tripQ (c : Chip) : Int := min 0x1B8 (signed16 (c.fld F.RESV_TLIM_TRIP_Q))

/-- The thermal factor of R480, in percent. -/
def Chip.thermFactor (c : Chip) : Nat :=
  match c.flashTemps.max? with
  | some t => if t > c.throttleQ then max 20 (100 - 10 * ((t - c.throttleQ) / 4).toNat) else 100
  | none => 100

/-- Why the fan is forced now, apart from the watchdog (R484): 1 a die sensor, 2 a flash sensor. -/
def Chip.fanCause (c : Chip) : Option Nat :=
  if c.dieTemps.any fun e => !c.flag F.RESV_DTS_VALID e.1 || decide (e.2 ≥ c.fanForceQ) then some 1
  else if c.flashTemps.any fun t => decide (t ≥ c.throttleQ + 20) then some 2
  else none

/-- FAN_FORCE (R484): FORCED is set and event 0xA009 recorded. -/
def Chip.forceFan (c : Chip) (cause : Nat) : Chip :=
  if c.flag F.RESV_FAN_FORCED then c else (c.setFld F.RESV_FAN_FORCED 1).post srcResv 0xA009 [cause]

/-- HEATER_SWITCH (R483): the automatic loop and the cut; ACTIVE follows the duty. -/
def Chip.heater (c : Chip) : Chip :=
  let cold := match c.flashTemps.min? with
    | some t => some t
    | none => (c.validDies.map (·.2)).min?
  let auto := c.flag F.RESV_HEAT_AUTO
  let now := c.supply.autoDuty
  let want := match cold with
    | some t => if t < c.progMin + 8 then c.fld F.RESV_HEAT_AUTO_DUTY else if t > c.progMin + 20 then 0 else now
    | none => now
  let c := if auto && want != now then
      let c := c.modSup fun u => { u with autoDuty := want }
      if (want = 0) = (now = 0) then c else c.post srcResv 0xA008 [b2n (want > 0), ((cold.getD 0) % 65536).toNat]
    else c
  let cut := c.flashTemps.any (fun t => decide (t ≥ signed16 (c.fld F.RESV_HEAT_CUT_Q))) || c.validDies.any fun e => decide (e.2 ≥ 380)
  let duty := if auto then c.supply.autoDuty else c.fld F.RESV_HEAT_DUTY
  (c.setFld F.RESV_HEAT_CUT (b2n cut)).setFld F.RESV_HEAT_ACTIVE (b2n (duty > 0 && !cut))

/-- The THERM wake source of every domain (R498). -/
def Chip.thermWake (c : Chip) : Chip :=
  let on := c.validDies.any (fun e => decide (e.2 ≥ c.fanForceQ)) || c.flashTemps.any fun t => decide (t ≥ c.throttleQ)
  let was := c.pwr.levels.contains (0, 3)
  if on = was then c
  else
    let rest := c.pwr.levels.filter fun l => l.2 != 3
    let c := c.modPwr fun p => { p with levels := if on then (List.range 33).map (fun d => (d, 3)) ++ rest else rest }
    if on then c.wakeAll else c

/-- Composite Temperature in kelvin, rounded down (R486), of the hottest valid flash sensor. -/
def Chip.compositeK (c : Chip) : Option Nat := c.flashTemps.max?.map fun t => ((10 * t + 10926) / 40).toNat

/-- The loops that follow a change of temperature: sluice factor, fan, heater, wake source, and critical warning bit 1 with the default
thresholds of R486. -/
def Chip.thermal (c : Chip) : Chip :=
  let f := c.thermFactor
  let c := if f = c.fld F.SLUICE_STAT_FACTOR_PCT then c else (c.setFld F.SLUICE_STAT_FACTOR_PCT f).sluiceGo
  let c := match c.fanCause with
    | some k => c.forceFan k
    | none => c
  let c := c.heater.thermWake
  match c.compositeK with
  | some k => c.setSmart 1 (k ≥ 348 || k ≤ 268)
  | none => c

/-- COLD_PROGRAM_REPOST (R302): programs refused for temperature are posted again once their sensor reads the limit plus 1 °C. -/
def Chip.coldRepost (c : Chip) (p : Nat) : Chip :=
  let warm := fun (die : Nat) => (c.progTemp die).any fun t => decide (t ≥ c.progMin + 4)
  let ready := c.m.ops.filter fun (e : Nat × Op) => e.2.stage == OpStage.cold && memberOf e.2.die == p && warm e.2.die
  let subs := (List.range 8).filter fun s => warm (p * 128 + s * 16)
  let c := c.modM fun m => { m with cold := m.cold.filter fun k => !(k / 8 == p && subs.contains (k % 8)) }
  ready.foldl (fun (c : Chip) e => c.modOp e.1 fun o => { o with stage := .created }) c

/-- TEMP_RECEIVED (R266): the valid mask and the values of sensors 0 to 8; a report with the alarm flag records the first sensor that has newly
reached BR_TALARM. -/
def execTempReceived (port mask : Nat) (values : List Nat) (alarm : Bool) (s : State) : Outcome :=
  onChip (fun c =>
    let th := signed16 (c.link port).talarm
    let high := fun (i : Nat) => bitOf mask i && decide (signed16 (values.getD i 0) ≥ th)
    let crossed := ((List.range 9).find? fun i => high i && !c.flag F.BINOR_TEMP_ALARM (port * 9 + i)).getD
      (((List.range 9).find? high).getD 0)
    let set := fun (c : Chip) (i : Nat) =>
      let k := port * 9 + i
      if bitOf mask i then
        (((c.setFld F.BINOR_TEMP_VALUE (values.getD i 0) k).setFld F.BINOR_TEMP_VALID 1 k).setFld F.BINOR_TEMP_ALARM (b2n (high i)) k)
      else (c.setFld F.BINOR_TEMP_VALID 0 k).setFld F.BINOR_TEMP_ALARM 0 k
    let c := (List.range 9).foldl set (c.modLink port fun l => { l with tempAt := c.now })
    let c := if alarm then c.post (srcBinor port) 0xB008 [port, crossed, values.getD crossed 0 % 65536] else c
    (c.coldRepost port).thermal) s

/-- TEMP_STALE (R266): no TEMP frame for 300 ms while the check runs. -/
def execTempStale (port : Nat) (s : State) : Outcome :=
  onChip (fun c =>
    let l := c.link port
    if l.timers then
      let c := c.advanceTo (l.tempAt + ms 300)
      let c := (List.range 9).foldl (fun c i => c.setFld F.BINOR_TEMP_VALID 0 (port * 9 + i)) c
      (c.post (srcBinor port) 0xB009 [port]).thermal
    else c) s

/-! Die sensors (R481, R485, R488) -/

/-- Adjacent die sensors (R481). -/
def adjacentDies : List (Nat × Nat) := [(0, 3), (1, 2), (1, 3), (2, 3), (3, 4), (3, 5), (3, 6), (3, 7), (4, 7), (5, 6)]

/-- One reading: VALUE and VALID; an implausible one is event 0xA00E (R481). -/
def Chip.sampleDie (c : Chip) (i : Nat) (v : Int) : Chip :=
  let near := match pget c.supply.samples i with
    | some p => decide (v - p ≤ 40 ∧ p - v ≤ 40)
    | none => true
  let ok := decide (-160 ≤ v ∧ v ≤ 600) && near
  let c := ((c.setFld F.RESV_DTS_VALUE (v % 65536).toNat i).setFld F.RESV_DTS_VALID (b2n ok) i).modSup fun u =>
    { u with samples := pset u.samples i v }
  if ok then c else c.post srcResv 0xA00E [i, (v % 65536).toNat]

/-- TEMPERATURE_DIFFERENCE (R488) of one adjacent pair: an episode above 25 °C, a hold above 30 °C. -/
def Chip.diffDies (c : Chip) (p : Nat × Nat) : Chip :=
  if !c.flag F.RESV_DTS_VALID p.1 || !c.flag F.RESV_DTS_VALID p.2 then c
  else
    let a := signed16 (c.fld F.RESV_DTS_VALUE p.1)
    let b := signed16 (c.fld F.RESV_DTS_VALUE p.2)
    let d := (if a ≥ b then a - b else b - a).toNat
    let c := c.setFld F.RESV_DIFF_DT_MAX_Q (max d (c.fld F.RESV_DIFF_DT_MAX_Q))
    let c := if d > 100 then
        if c.supply.diff25.contains p then c
        else (c.modSup fun u => { u with diff25 := p :: u.diff25 }).post srcResv 0xA00C [p.1, p.2, d]
      else if d < 80 then c.modSup fun u => { u with diff25 := u.diff25.filter (· != p) } else c
    if d > 120 then
      if c.supply.diff30.contains p then c
      else ((c.modSup fun u => { u with diff30 := p :: u.diff30 }).setFld F.RESV_DIFF_DT_HOLD 1).post srcResv 0xA00D [p.1, p.2, d]
    else if d < 100 then
      let c := c.modSup fun u => { u with diff30 := u.diff30.filter (· != p) }
      c.setFld F.RESV_DIFF_DT_HOLD (b2n (!c.supply.diff30.isEmpty))
    else c

/-- THERMAL_TRIP (R485): a sensor has been at or above TRIP_Q for 1 ms: event 0xA00A and the power-fail sequence; the restart that follows
carries code 0x3. -/
def Chip.tripCheck (c : Chip) : Chip :=
  let hot := c.validDies.filter fun e => decide (e.2 ≥ c.tripQ)
  let since := fun (i : Nat) => (pget c.supply.tripping i).getD c.now
  let trip := hot.find? fun e => decide (since e.1 + ms 1 ≤ c.now)
  let c := c.modSup fun u => { u with tripping := hot.map fun e => (e.1, since e.1) }
  match trip with
  | some (i, v) =>
    if c.z.ledger.pfCommit || c.supply.held then c
    else ((c.post srcResv 0xA00A [i, (v % 65536).toNat]).modSup fun u => { u with code := 3 }).commitPower
  | none => c

/-- DIE_SENSOR_SAMPLE (R481): every 1 ms, the readings of TS0 to TS7. -/
def execDieSensorSample (values : List Int) (s : State) : Outcome :=
  onChip (fun c =>
    let c := c.advanceTo (c.supply.sampleAt + ms 1)
    let c := (values.take 8).zipIdx.foldl (fun c x => c.sampleDie x.2 x.1) (c.modSup fun u => { u with sampleAt := c.now })
    (adjacentDies.foldl (fun c p => c.diffDies p) c).thermal.tripCheck) s

/-! The fan -/

/-- FAN_WATCHDOG_EXPIRY (R484): DUTY was not written within WDOG_MS. -/
def execFanWatchdogExpiry (s : State) : Outcome :=
  onChip (fun c => (c.advanceTo (c.supply.fanAt + ms (max 1 (c.fld F.RESV_FAN_WDOG_MS)))).forceFan 0) s

/-- FAN_DUTY_WRITE (R484). -/
def Chip.writeDuty (c : Chip) (duty : Nat) : Chip :=
  let c := (c.setFld F.RESV_FAN_DUTY duty).modSup fun u => { u with fanAt := c.now }
  if c.fanCause.isNone then c.setFld F.RESV_FAN_FORCED 0 else c

def execFanDutyWrite (duty : Nat) (s : State) : Outcome := onChip (fun c => c.writeDuty duty) s

/-! Voltage islands (R487): 0 VI_MX, 1 VI_HP, 2 VI_FG, 3 to 6 VI_CC0 to VI_CC3 -/

/-- Adjacent islands. -/
def adjacentIslands : List (Nat × Nat) := [(0, 1), (0, 2), (0, 3), (0, 4), (0, 5), (0, 6), (3, 4), (5, 6)]

/-- The difference of two islands as last measured, in mV. -/
def Supply.islandDiff (u : Supply) (p : Nat × Nat) : Nat :=
  let a := (pget u.islands p.1).getD 0
  let b := (pget u.islands p.2).getD 0
  max a b - min a b

/-- ISLAND_VOLTAGE_SAMPLE (R487): every 10 µs. Two adjacent islands more than 120 mV apart for 10 µs are clamped: the loop raises the lower one;
the clamp ends once they are within 100 mV. -/
def execIslandVoltageSample (mv : List Nat) (s : State) : Outcome :=
  onChip (fun c =>
    let c := c.advanceTo (c.supply.islandAt + us 10)
    let c := c.modSup fun u => { u with islandAt := c.now, islands := (mv.take 7).zipIdx.map fun x => (x.2, x.1) }
    let far := adjacentIslands.filter fun p => decide (c.supply.islandDiff p > 120)
    let big := (adjacentIslands.map c.supply.islandDiff).max?.getD 0
    let c := c.setFld F.RESV_DIFF_DV_MAX_MV (max big (c.fld F.RESV_DIFF_DV_MAX_MV))
    let c := match c.supply.clamp with
      | some (a, b, _) =>
        if c.supply.islandDiff (a, b) ≤ 100 then (c.modSup fun u => { u with clamp := none }).setFld F.RESV_DIFF_DV_CLAMP 0 else c
      | none =>
        match far.find? fun p => c.supply.apart.contains p with
        | some p => ((c.modSup fun u => { u with clamp := some (p.1, p.2, c.now) }).setFld F.RESV_DIFF_DV_CLAMP 1).post srcResv 0xA00B
            [p.1, p.2, c.supply.islandDiff p]
        | none => c
    c.modSup fun u => { u with apart := far }) s

/-- ISLAND_CLAMP_TIMEOUT (R487, R551): still more than 120 mV apart 1 ms later: a device fault reset. -/
def execIslandClampTimeout (s : State) : Outcome :=
  onChip (fun c =>
    match c.supply.clamp with
    | some (a, b, t) => if c.supply.islandDiff (a, b) > 120 then (c.advanceTo (t + ms 1)).deviceFault 23 else c
    | none => c) s

end Sys2Proof.Machine
end

