-- ==== Sys2Proof/Machine/Replay.lean ====
section
/-! DEFINITION. Recovery after a start: checkpoint segments, journal records and block states (R122, R158, R180 to R182, R300, R307, R308, R338,
R371, R386, R518), the full scan (R343 to R347), and what waits for CONF_SEQ to be locked. -/

namespace Sys2Proof.Machine

/-! Segments -/

/-- A segment takes the contents of its newest complete copy; without any it is as it was before its first change (R158). -/
def Chip.loadSeg (c : Chip) (k : Nat) : Chip :=
  match (pget c.z.segs k).bind Segment.best with
  | none => c
  | some (_, _, d) =>
    match d with
    | .map es => c.modZ fun z => { z with map := es.foldl (fun m e => pset m e.1 e.2) (z.map.filter fun e => segMap e.1 != k) }
    | .zones zs => c.modZ fun z => { z with zones := zs }
    | .table bs ds => c.modM fun m => { m with
        bst := bs.foldl (fun b e => pset b e.1 e.2) (m.bst.filter fun e => memberOf (e.1 / 4096) != k - 0x20000000)
        defects := (m.defects.filter fun d => memberOf d.die != k - 0x20000000) ++ ds }
    | .pools ps => c.modM fun m => { m with pools := ps.foldl (fun q e => pset q e.1 e.2) (m.pools.filter fun e => segPools e.1 != k) }

/-- A record lies above the cut of a segment's copy (R157, R158). -/
def Chip.above (c : Chip) (k jsn : Nat) : Bool :=
  match (pget c.z.segs k).bind Segment.best with
  | some b => decide (jsn > b.2.1)
  | none => true

/-- Segments to restore, and what the medium was found to hold. -/
structure Restore where
  segs : Nat → Bool
  recs : List JRec
  data : ReplayData
  live : Bool

/-- Whether a record changes a segment in this restore. -/
def Restore.to (w : Restore) (c : Chip) (k : Nat) (r : JRec) : Bool := w.segs k && !c.z.scanning.contains k && c.above k r.jsn

/-! Presence (R180) -/

/-- A row's data is present: a ROW_DONE record follows, its pool shows it done, or all 18 strips read back. -/
def Restore.rowHere (w : Restore) (c : Chip) (jsn p row : Nat) : Bool :=
  ((c.pool p).map Pool.done).any (·.contains row) ||
  w.data.strips.any (fun (x : Nat × Nat × List Nat) => x.1 == p && x.2.1 == row && decide (x.2.2.length ≥ 18)) ||
  w.recs.any fun (r : JRec) => decide (r.jsn > jsn) && match r.body with
    | .rowDone p' row' _ => p' == p && row' == row
    | _ => false

/-- A LAND record's data is present: every page of it succeeded on a cistern or reads back, or a later MOVE took its units away (R342). -/
def Restore.landHere (w : Restore) (c : Chip) (r : JRec) : Bool :=
  match r.body with
  | .land i off _ n _ _ _ =>
    let page := fun (k : Nat) => (c.pair i).any fun q => q.okCopies.contains (2 * k) || q.okCopies.contains (2 * k + 1)
    w.data.lands.contains r.jsn ||
    ((c.pair i).any fun q => !q.units.isEmpty) && ((List.range ((off + n + 15) / 16 - off / 16)).map (off / 16 + ·)).all page ||
    w.recs.any fun (m : JRec) => decide (m.jsn > r.jsn) && match m.body with
      | .move is => is.any fun x => decide (mapBasin i off ≤ x.2.1 ∧ x.2.1 < mapBasin i (off + n))
      | _ => false
  | _ => false

/-- A LAND record of a unit, in the basin, for a position of a namespace or zone. -/
def Restore.landFor (w : Restore) (c : Chip) (nsid seq : Nat) (zoned : Bool) (zone u : Nat) : Bool :=
  w.recs.any fun (l : JRec) => l.nsid == nsid && l.seq == seq && match l.body with
    | .land _ _ z n zi f _ => z == zoned && (!zoned || zi == zone) && decide (f ≤ u ∧ u < f + n) && w.landHere c l
    | _ => false

/-- Records of a namespace deleted and created again since are not its own (R344). -/
def Chip.ownRec (c : Chip) (r : JRec) : Bool := (c.ns r.nsid).any fun n => decide (r.seq ≥ n.seq0)

/-- Event 0x2107 for a unit record not applied at replay (R180). -/
def Restore.skipped (w : Restore) (c : Chip) (r : JRec) (ty : Nat) : Chip :=
  if w.live then c else c.post srcZmap 0x2107 [ty, r.seq, r.nsid]

/-! Block states and pools (R307, R372) -/

/-- A record locates data in a block at a wordline: it is OPEN with its pointer above it (R307). -/
def Restore.located (w : Restore) (r : JRec) (c : Chip) (die block wl : Nat) : Chip :=
  if w.to c (segTable (memberOf die)) r then c.modBst die block fun b => { b with
    st := if wl + 1 ≥ 384 then .full else .opened
    ptr := max b.ptr (wl + 1) }
  else c

/-- What a record says of pools and blocks. -/
def Restore.tables (w : Restore) (c : Chip) (r : JRec) : Chip :=
  match r.body with
  | .rowOpen p row _ _ gen _ _ =>
    let c := if w.to c (segPools p) r then c.modPool p fun q => { q with
        ptstate := 2, bindGen := gen, done := if q.bindGen = gen then q.done else [], lost := if q.bindGen = gen then q.lost else [] }
      else c
    (((c.pool p).map Pool.slots).getD []).foldl (fun c s => let x := s.writePlace row; w.located r c x.1 x.2.1 x.2.2) c
  | .rowSubst p row k d b =>
    let j := slotOf row k
    match (c.pool p).bind fun q => q.slots[j]? with
    | none => c
    | some s =>
      let x := s.writePlace row
      let c := if (x.1, x.2.1) != (d, b) && w.to c (segTable (memberOf x.1)) r && !(c.bst x.1 x.2.1).bad then c.growBad x.1 x.2.1 1 else c
      let c := if (x.1, x.2.1) != (d, b) && w.to c (segPools p) r then c.modSlot p j fun s => { s with f := some (d, b, row) } else c
      let c := if w.to c (segTable (memberOf d)) r then c.modBst d b fun y => { y with owner := 0 } else c
      w.located r c d b 0
  | .rowDone p row gen =>
    if w.to c (segPools p) r then c.modPool p fun q => { q with
      done := if q.bindGen = gen && !q.done.contains row then q.done ++ [row] else q.done }
    else c
  | .zreset _ p gen => if w.to c (segPools p) r then c.modPool p fun q => if q.bindGen = gen then { q with ptstate := 3 } else q else c
  | .land i off _ n _ _ _ =>
    let wl := (off + n - 1) / 16
    (((c.pair i).map fun q => [q.a, q.b]).getD []).foldl (fun c x => w.located r c (x / 4096) (x % 4096) wl) c
  | .eraseStart is => is.foldl (fun (c : Chip) x =>
    let c := if w.to c (segTable (memberOf x.die)) r then
      c.modBst x.die x.block fun y => { y with count := x.count, st := .erasing, ptr := 0, pslc := x.pslc } else c
    match pfind c.m.pools fun _ q => (q.ptstate == 2 || q.ptstate == 4) && q.slots.any fun s => (s.die, s.block) == (x.die, x.block) with
    | some (p, _) => if w.to c (segPools p) r then c.modPool p fun q => { q with ptstate := 3, done := [] } else c
    | none => c) c
  | _ => c

/-- Blocks whose erase was left unfinished are ERASE_INCOMPLETE: event 0x3002 (R307). -/
def Restore.unfinished (w : Restore) (c : Chip) : Chip :=
  let bs := c.m.bst.filter fun e => e.2.st == .erasing && w.segs (segTable (memberOf (e.1 / 4096)))
  bs.foldl (fun (c : Chip) e =>
    let c := (c.modBst (e.1 / 4096) (e.1 % 4096) fun b => { b with st := .incomplete }).touch (segTable (memberOf (e.1 / 4096)))
    c.post (srcSeq (memberOf (e.1 / 4096))) 0x3002 [e.1 / 4096, e.1 % 4096, e.2.count]) c

/-- Page pointers as the ROM finds them by the ERASED flag; a block that ends in an abandoned program is closed (R307, R308): event 0x3008. -/
def Restore.pointers (w : Restore) (c : Chip) : Chip :=
  w.data.ptrs.foldl (fun (c : Chip) e =>
    let d := e.1 / 4096
    let b := e.1 % 4096
    let x := c.bst d b
    if x.st == .opened || (decide (2 ≤ x.owner ∧ x.owner ≤ 4) && !x.bad && x.st != .incomplete) then
      let shut := !e.2.2 || decide (e.2.1 ≥ 384)
      let c := (c.modBst d b fun y => { y with ptr := min 384 e.2.1, st := if e.2.1 = 0 && e.2.2 then .erased else if shut then .full else .opened }).touch (segTable (memberOf d))
      if e.2.2 then c else c.post (srcSeq (memberOf d)) 0x3008 [d, b, e.2.1 - 1]
    else c) c

/-! The map (R180, R338) -/

/-- A MAP record applies: each of its units is in its row or in a LAND record of the same write that applies (R180, R183). -/
def Restore.mapOk (w : Restore) (c : Chip) (r : JRec) (first : Nat) (es : List Nat) : Bool :=
  es.zipIdx.all fun e => match mapDecode e.1 with
    | .pool p u => w.rowHere c r.jsn p (u / 1024) || w.landFor c r.nsid r.seq false 0 (first + e.2)
    | _ => true

/-- The MAP record of a write that holds a position. -/
def Restore.mapOf (w : Restore) (nsid seq u : Nat) : Option (JRec × Nat × List Nat) :=
  w.recs.findSome? fun (r : JRec) => match r.body with
    | .map f es => if r.nsid = nsid ∧ r.seq = seq ∧ f ≤ u ∧ u < f + es.length then some (r, f, es) else none
    | _ => none

/-- Set a map entry if its segment is being restored. -/
def Restore.put (w : Restore) (r : JRec) (c : Chip) (i e : Nat) : Chip := if w.to c (segMap i) r then c.setMap i e else c

/-- What a record says of the map. Records are taken in JSN order, so the last LAND record of a part stands (R199). -/
def Restore.map (w : Restore) (c : Chip) (r : JRec) : Chip :=
  match r.body with
  | .map first es =>
    if !c.ownRec r then c
    else if w.mapOk c r first es then
      es.zipIdx.foldl (fun (c : Chip) e => match mapDecode e.1 with
        | .pool p u => if w.rowHere c r.jsn p (u / 1024) then w.put r c (first + e.2) e.1 else c
        | _ => w.put r c (first + e.2) e.1) c
    else w.skipped c r 0x10
  | .land i off false n _ first _ =>
    if !c.ownRec r then c
    else
      let whole := match w.mapOf r.nsid r.seq first with
        | some (m, f, es) => w.mapOk c m f es
        | none => true
      if whole && w.landHere c r then
        (List.range n).foldl (fun (c : Chip) k =>
          let inRow := (w.mapOf r.nsid r.seq (first + k)).any fun m => match mapDecode (m.2.2.getD (first + k - m.2.1) mapDealloc) with
            | .pool p u => w.rowHere c m.1.jsn p (u / 1024)
            | _ => false
          if inRow then c else w.put r c (first + k) (mapBasin i (off + k))) c
      else w.skipped c r 0x12
  | .dealloc rs =>
    if !c.ownRec r then c
    else rs.foldl (fun (c : Chip) x => (List.range x.2).foldl (fun c k => w.put r c (x.1 + k) mapDealloc) c) c
  | .move is => if r.nsid = 0 then is.foldl (fun (c : Chip) x => if c.mapAt x.1 = x.2.1 then w.put r c x.1 x.2.2 else c) c else c
  | _ => c

/-! Zones (R140, R180, R181, R339) -/

/-- The pool of a zone when a record was written: the bound one, or that of the next ROW_OPEN of the zone. -/
def Restore.poolOf (w : Restore) (c : Chip) (g jsn : Nat) : Option Nat :=
  match (c.zone g).pool with
  | some p => some p
  | none => w.recs.findSome? fun (r : JRec) => match r.body with
    | .rowOpen p _ (.zone h) _ _ _ _ => if r.jsn > jsn ∧ h = g then some p else none
    | _ => none

/-- What a record says of the zones. -/
def Restore.zones (w : Restore) (c : Chip) (r : JRec) : Chip :=
  let z0 := fun (n : NsRec) (zi : Nat) => n.zbase + zi
  if !w.to c segZones r then c
  else match r.body with
  | .rowOpen p _ (.zone g) _ _ _ _ => c.modZone g fun z => { z with pool := some p, st := if z.st = .zse then .zsc else z.st }
  | .zwp zi first n =>
    match c.ns r.nsid with
    | none => c
    | some ns =>
      if !c.ownRec r || !ns.zoned then c
      else
        let g := z0 ns zi
        let here := (List.range n).all fun k =>
          (w.poolOf c g r.jsn).any (fun p => w.rowHere c r.jsn p ((first + k) / 1024)) || w.landFor c r.nsid r.seq true zi (first + k)
        if here then
          let gap := decide ((c.zone g).wpOff < first)
          let c := c.modZone g fun z => { z with
            filled := if gap then z.filled ++ [(z.wpOff, first - z.wpOff)] else z.filled.filter fun f => !(decide (first ≤ f.1 ∧ f.1 + f.2 ≤ first + n))
            wpOff := max z.wpOff (first + n)
            lastSeq := max z.lastSeq r.seq
            st := if z.st = .zsro ∨ z.st = .zso then z.st else if z.wpOff ≥ 0x60000 ∨ first + n ≥ 0x60000 then .zsf else if z.st = .zse then .zsc else z.st }
          if gap && !w.live then c.post srcZmap 0x200C [r.nsid, zi, zi * 0x80000 + first, n] else c
        else w.skipped c r 0x11
  | .land i off true n zi first _ =>
    match c.ns r.nsid with
    | none => c
    | some ns =>
      if !c.ownRec r then c
      else if w.landHere c r then c.modZone (z0 ns zi) fun z => { z with lands := (first, n, i, off) :: z.lands.filter fun l => l.1 != first }
      else w.skipped c r 0x12
  | .zreset zi _ _ =>
    match c.ns r.nsid with
    | none => c
    | some ns => if c.ownRec r then c.modZone (z0 ns zi) fun z => { zoneReset z.nsid z.zidx with st := if z.st = .zsro then .zso else .zse, stamp := z.stamp } else c
  | .move is =>
    match c.ns r.nsid with
    | none => c
    | some ns => is.foldl (fun (c : Chip) x =>
        let g := z0 ns (x.1 / 0x80000)
        if (c.zone g).pool = some (x.2.1 / 2 ^ 19) then c.modZone g fun z => { z with pool := some (x.2.2 / 2 ^ 19) } else c) c
  | _ => c

/-- Restore segments from their newest copies and the journal (R158, R180). -/
def Restore.run (w : Restore) (c : Chip) : Chip :=
  let ks := ((c.z.segs.map (·.1)).filter w.segs).filter fun k => !c.z.scanning.contains k
  let c := ks.foldl (fun c k => c.loadSeg k) c
  let c := w.recs.foldl (fun c r => w.tables c r) c
  let c := w.pointers (w.unfinished c)
  let c := w.recs.foldl (fun c r => w.map c r) c
  w.recs.foldl (fun c r => w.zones c r) c

/-- No data of the medium beyond what the state holds. -/
def noData : ReplayData := ⟨[], [], none, [], [], [], []⟩

/-- A segment of the map or the zone table restored while the part runs, from its newest copy and the journal (R458). -/
def Chip.restoreSeg (c : Chip) (k : Nat) : Chip :=
  let j := c.z.journal
  Restore.run { segs := (· == k), recs := j.durable ++ j.flying.flatMap Frame.recs ++ j.opened, data := noData, live := true } c

/-! REPLAY (R180 to R182, R307, R371, R518, R542) -/

/-- The frames in flight whose every predecessor has a valid copy, and the first that is missing before one that is found. -/
def goodFrames (found : List Nat) : List Frame → List Frame × Option Nat
  | [] => ([], none)
  | f :: t =>
    if found.contains f.no then ((f :: (goodFrames found t).1), (goodFrames found t).2)
    else ([], if t.any fun x => found.contains x.no then some f.no else none)

/-- The journal as the ROM finds it (R371): records to apply, the numbers that follow, the trio after the newest cistern's; event 0x4010. -/
def Chip.findJournal (c : Chip) (d : ReplayData) : Chip × List JRec :=
  let j := c.z.journal
  let found := j.flying.filter fun f => d.frames.contains f.no
  let (good, miss) := goodFrames d.frames j.flying
  let all := j.durable ++ found.flatMap Frame.recs
  let recs := j.durable ++ good.flatMap Frame.recs
  let recs := match d.gap with
    | some (_, n) => recs.filter fun r => r.jsn < n
    | none => recs
  let high := (all.map JRec.jsn).foldl max ((c.z.segs.filterMap fun e => e.2.best.map fun b => b.2.1).foldl max 0)
  let c := match d.gap, miss with
    | some (n, _), _ => c.post srcStripe 0x4010 [n]
    | none, some n => c.post srcStripe 0x4010 [n]
    | none, none => c
  let next := match found.getLast? with
    | some f => f.no + 1
    | none => (j.flying.head?.map Frame.no).getD j.nextFrame
  let c := c.modJ fun j => { j with
    durable := recs, flying := [], nextJsn := high + 1, durableTo := high + 1, nextFrame := next }
  let ms := c.nextTrio ((j.trio.getLast?).getD 35)
  let c := c.modJ fun j => { j with trioCist := [] }
  (((c.setFld F.STRIPE_JMIR_MIR0 (ms.getD 0 0)).setFld F.STRIPE_JMIR_MIR1 (ms.getD 1 0)).setFld F.STRIPE_JMIR_MIR2 (ms.getD 2 0), recs)

/-- Two counter entries of one event, an earlier one and a later one. -/
def mergeCounter (a b : Counter) : Counter :=
  if a.count = 0 then b else if b.count = 0 then a
  else { b with
    sat := a.sat ||| b.sat, count := min (a.count + b.count) 0xFFFFFFFF, first := a.first
    max := max a.max b.max, maxTs := if a.max ≥ b.max then a.maxTs else b.maxTs
    hist := a.hist.zipWith (fun x y => min (x + y) 65535) b.hist }

/-- The recorder takes its time, cycle count and next RSN from the medium after a POR; records made since receive theirs (R518, R524). -/
def Chip.restoreRecorder (c : Chip) : Chip :=
  if c.ev.restored then c
  else
    let e := c.ev
    let items := (e.ckpt.map fun k => (k.2.2.2.2 - 1, k.2.2.1, k.2.2.2.1)).toList ++
      (e.log.getLast?.map fun r => (r.rsn, r.time, r.cycles)).toList ++
      ((e.images.head?.bind fun i => i.recs.getLast?).map fun r => (r.rsn, r.time, r.cycles)).toList
    let best := items.foldl (fun (a : Option (Nat × Nat × Nat)) x => if a.any fun y => decide (y.1 ≥ x.1) then a else some x) none
    let (base, t0, cy) := match best with
      | some (r, t, y) => (r + 1, t, y)
      | none => (0, 0, 0)
    let fix := fun (r : Rec) => { r with rsn := base + r.rsn, time := t0 + r.time, cycles := cy + 1 }
    let counters := (e.ckpt.map fun k => k.2.1).getD []
    let merged := e.counters.foldl (fun (m : PMap Counter) x => pset m x.1 (match pget m x.1 with
      | some y => mergeCounter y x.2
      | none => x.2)) counters
    let c := c.modEv fun v => { v with
      restored := true
      nextRsn := base + v.nextRsn, time := v.time + t0, cycles := cy + 1
      ring := v.ring.map fix, staging := v.staging.map fix, counters := merged, resetRsn := base }
    c.setFld F.EVREC_STAT_LOG_FULL (b2n e.logFull)

/-- Rows with a ROW_OPEN record of their pool's binding and no ROW_DONE (R182): pool, row, owner, pads, last SEQ, JSN. -/
def Chip.openRows (c : Chip) (recs : List JRec) : List (Nat × Nat × RowOwner × Nat × Nat × Nat) :=
  recs.filterMap fun r => match r.body with
    | .rowOpen p row o _ gen _ pad =>
      if (c.pool p).any fun q => q.bindGen == gen && q.ptstate == 2 && !q.done.contains row then some (p, row, o, pad, r.seq, r.jsn) else none
    | _ => none

/-- Positions of the pads of a ROW_OPEN record. -/
def padUnits (mask : Nat) : List Nat := (bitsSet 16 mask).flatMap fun k => (List.range 64).map (64 * k + ·)

/-- Map positions that applicable MAP records give the units of a row, and the entries those positions hold. -/
def Chip.rowSrc (c : Chip) (recs : List JRec) (p row : Nat) : PMap (Nat × Nat) :=
  recs.foldl (fun m r => match r.body with
    | .map first es => es.zipIdx.foldl (fun m e => match mapDecode e.1 with
        | .pool q u => if q = p ∧ u / 1024 = row then
            match mapDecode (c.mapAt (first + e.2)) with
            | .basin .. => pset m (u % 1024) (first + e.2, c.mapAt (first + e.2))
            | _ => m
          else m
        | _ => m) m
    | _ => m) []

/-- A row that recovery finishes (R182): its strips that read back are kept; the rest waits for CONF_SEQ to be locked. -/
def Chip.keepRow (c : Chip) (recs : List JRec) (d : ReplayData) (x : Nat × Nat × RowOwner × Nat × Nat × Nat) : Chip :=
  let (p, row, o, pad, seq, jsn) := x
  let strips := ((d.strips.find? fun y => y.1 == p && y.2.1 == row).map fun y => y.2.2).getD []
  let src := c.rowSrc recs p row
  let named := recs.any fun r => match r.body with
    | .map _ es => es.any fun e => decide (e / (2 ^ 19) = p ∧ e % 2 ^ 19 / 1024 = row)
    | _ => false
  let wanted := match o with
    | .zone g => (c.zone g).pool == some p && decide ((c.zone g).wpOff > row * 1024)
    | .handle _ => !src.isEmpty || (named && decide (strips.length ≥ 18))
    | _ => false
  if !wanted then c
  else
    let owner := match o with
      | .handle h => .fold h
      | o => o
    let (c, i) := c.newRow p row owner
    let c := match o with
      | .zone g => if pad != 0 then (c.makeFull g false).modZone g fun z => { z with rowsPad := z.rowsPad + 1 } else c
      | _ => c
    c.modRow i fun r => { r with
      pads := padUnits pad, lastSeq := seq, firstSeq := seq, openJsn := some jsn, okStrips := strips.take 18
      recovered := some (18 - strips.length), src := src }

/-- Rows of a zone that were never opened, whose parts lie in basin copies: they are assembled again (R171). -/
def Chip.tailRows (c : Chip) (g : Nat) : Chip :=
  let z := c.zone g
  match z.pool with
  | none => c
  | some p =>
    let done := ((c.pool p).map Pool.done).getD []
    let rows := (List.range ((z.wpOff + 1023) / 1024)).filter fun r => !done.contains r && (c.findRow p r).isNone && !z.lostRows.contains r
    rows.foldl (fun (c : Chip) r =>
      let (c, i) := c.newRow p r (.zone g)
      let filled := (List.range 1024).filter fun u => z.filled.any fun f => decide (f.1 ≤ r * 1024 + u ∧ r * 1024 + u < f.1 + f.2)
      c.modRow i fun x => { x with pads := filled, lastSeq := z.lastSeq }) c

/-- A zone with data and no bound pool on record is bound again (R136, R166). -/
def Chip.rebind (c : Chip) (g : Nat) : Chip :=
  if (c.zone g).wpOff > 0 && (c.zone g).pool.isNone && ((c.zone g).st.isActive || (c.zone g).st = .zsf) then
    match c.bindPool with
    | (c, some p) => c.modZone g fun z => { z with pool := some p }
    | (c, none) => c
  else c

/-- What the restored tables say of reserve, erase queue, lost members, retired dies and write protection (R137, R351, R372, R374). -/
def Chip.afterTables (c : Chip) : Chip :=
  let inState := fun (n : Nat) => (c.m.pools.filter fun e => e.2.ptstate == n).map (·.1)
  let bound := c.z.zones.filterMap fun z => z.2.pool
  let lost := ((c.m.pools.flatMap fun e => e.2.slots.filter fun s => s.pstate != 0 && s.pstate != 3 && s.cause == 1).map fun s => memberOf s.die).eraseDups
  let retired := ((c.m.pools.flatMap fun e => e.2.slots.filter fun s => s.pstate != 0 && s.pstate != 3 && s.cause == 2).map Slot.die).eraseDups
  let c := c.modZ fun z => { z with reserve := inState 1, eraseQ := inState 3 }
  let c := c.modM fun m => { m with pools := m.pools.map fun e => (e.1, { e.2 with
    ptstate := if e.2.ptstate = 4 then 2 else e.2.ptstate
    fullAt := if (e.2.ptstate = 2 ∨ e.2.ptstate = 4) ∧ e.2.fullAt.isNone ∧ !bound.contains e.1 then some c.now else e.2.fullAt }) }
  let c := lost.foldl (fun c m => c.setFld F.STRIPE_MEMSTAT_LOST (putBits (c.fld F.STRIPE_MEMSTAT_LOST) m m 1)) c
  let c := retired.foldl (fun c d => c.modDie d fun x => { x with retired := true }) c
  let c := c.modM fun y => { y with degUnits := lost.map (·, false) ++ retired.map (·, true) }
  let c := if c.fuses.grade = 2 && !lost.isEmpty then c.modZ fun z => { z with nss := z.nss.map fun e => (e.1, { e.2 with wp := true }) } else c
  c.modZ fun z => { z with
    pairs := z.pairs.map fun e => (e.1, { e.2 with closed := e.2.closed || e.2.landing || e.2.zone.isNone && !e.2.units.isEmpty })
    zPairs := z.pairs.foldl (fun m e => match e.2.zone with
      | some g => if e.2.closed then m else pset m g e.1
      | none => m) [] }

/-- The highest sequence number the medium shows. -/
def Chip.highSeq (c : Chip) (recs : List JRec) : Nat :=
  (recs.map JRec.seq ++ (c.z.zones.map fun z => z.2.lastSeq) ++ (c.z.nss.map fun n => n.2.seq0)).foldl max 0

/-- Open zones come back closed, as after any loss of power (log 6). -/
def ZoneRec.closed (z : ZoneRec) : ZoneRec := if z.st.isOpen then { z with st := .zsc } else z

/-- PATROL_SCAN shows the segment the full scan works on (R343). -/
def Chip.showScan (c : Chip) : Chip :=
  match c.z.scanning with
  | [] => c.setFld F.PATROL_SCAN_ACTIVE 0
  | k :: _ =>
    let kind := if k < segZones then 1 else 2
    (((c.setFld F.PATROL_SCAN_ACTIVE 1).setFld F.PATROL_SCAN_KIND kind).setFld F.PATROL_SCAN_SEGMENT (k % 0x10000000)).setFld F.PATROL_SCAN_PROGRESS 0

/-- REPLAY (R542): restore segments, block states and journal; then what follows from them. A lost map segment or zone
table waits for a full scan; a lost table segment needs none (R343): event 0x2008. A
power-fail sequence that was not finished gives 0xA107 (R200). The highest sequence number is returned. -/
def Chip.runReplay (c : Chip) (d : ReplayData) : Chip :=
  let c := d.lostSegs.foldl (fun c k => c.post srcZmap 0x2008 [k]) c
  let scan := d.lostSegs.filter (· < 0x20000000)
  let bare := d.lostSegs.filter (· ≥ 0x20000000)
  let c := (c.modZ fun z => { z with
    scanning := scan
    segs := bare.foldl (fun m k => pset m k { (pget m k).getD segReset with best := none, changed := true }) z.segs }).showScan
  let c := d.counts.foldl (fun (c : Chip) x => if bare.contains (segTable (memberOf (x.1 / 4096))) then
    c.modBst (x.1 / 4096) (x.1 % 4096) fun b => { b with count := x.2 } else c) c
  let (c, recs) := c.findJournal d
  let w : Restore := { segs := fun _ => true, recs := recs, data := d, live := false }
  let full0 := fun (c : Chip) (g : Nat) => (c.zone g).st == .zsf
  let zs0 := (c.loadSeg segZones).z.zones
  let c := w.run c
  let begun := recs.foldl (fun (a : Bool) r => match r.body with
    | .pfBegin .. => true
    | .pfEnd .. => false
    | _ => a) false
  let c := if begun then c.post srcLedger 0xA107 [(recs.getLast?.map JRec.jsn).getD 0] else c
  let c := c.afterTables
  let c := c.modZ fun z => { z with zones := z.zones.map fun e => (e.1, e.2.closed) }
  let gs := c.z.zones.map (·.1)
  let c := gs.foldl (fun c g => c.rebind g) c
  let c := (c.openRows recs).foldl (fun c x => c.keepRow recs d x) c
  let c := gs.foldl (fun c g => c.tailRows g) c
  let wasFull := fun (g : Nat) => (pget zs0 g).any fun z => z.st == .zsf
  let todo := gs.filter fun g =>
    let z := c.zone g
    (z.st == .zsc && decide (z.wpOff > 0)) || (full0 c g && (decide (z.sealState ≤ 1) || !wasFull g))
  let c := c.modZ fun z => { z with rebuilds := todo, rebuildCount := todo.length, rebuildAt := c.now }
  let c := c.restoreRecorder.setFld F.PATROL_LAP_LAP c.m.lapCkpt
  c.modSys fun y => { y with replayed := some (c.highSeq recs) }

/-- REPLAY (R542): the ROM service, called by firmware before CONF_SEQ is locked; `data` is what the ROM finds on the medium beyond what was
recorded as written whole. It runs once for each start. -/
def execReplay (data : ReplayData) (s : State) : Outcome :=
  onChip (fun c =>
    if c.sys.romMapped && c.sys.booted && c.sys.running.isSome && c.sys.replayed.isNone then
      let c := c.runReplay data
      (c.emit (.coreData 0 ((c.sys.replayed).getD 0)))
    else c) s

/-! After CONF_SEQ is locked (R122, R182, R300) -/

/-- Read what a row needs (R171, R182): kept strips from the row, the other positions from basin copies; a position no copy holds is filler. -/
def Chip.feedRow (c : Chip) (i : Nat) : Chip :=
  match c.row i with
  | none => c
  | some r =>
    let us := (List.range 1024).filter fun u => !r.pads.contains u && (pget r.units u).isNone
    let none_ := us.filter fun u =>
      let kept := r.okStrips.contains (u / 64)
      let basin := match r.owner with
        | .zone g => (c.tailAt g (r.row * 1024 + u)).isSome
        | _ => (pget r.src u).isSome
      !kept && !basin
    let fill := match r.owner with
      | .zone g => if r.openJsn.isSome || (c.zone g).st = .zsf then none_ else []
      | _ => none_
    let c := c.modRow i fun r => { r with pads := r.pads ++ fill }
    let c := us.foldl (fun (c : Chip) u =>
      let f : RdFor := .recover i (u / 64) (u % 64)
      if r.okStrips.contains (u / 64) then (c.newRd (c.poolRd f r.pool (r.row * 1024 + u) (0, 0))).1
      else
        let at_ := match r.owner with
          | .zone g => c.tailAt g (r.row * 1024 + u)
          | _ => (pget r.src u).bind fun x => match mapDecode x.2 with
            | .basin p o => some (p, o)
            | _ => none
        match at_ with
        | some (p, o) => (c.newRd (c.basinRd f p o (0, 0))).1
        | none => c) c
    (c.rowGo i).recoverGo i

/-- The recovery of a row starts: one whose strips all read back only needs its ROW_DONE. -/
def Chip.recoverRow (c : Chip) (i : Nat) : Chip :=
  if (c.row i).any fun r => r.recovered.isSome && decide (r.okStrips.length ≥ 18) then c.rowSuccess i else c.feedRow i

/-- A die takes part in recovery: its member is there, its link ACTIVE, and it is not retired. -/
def Chip.dieUp (c : Chip) (d : Nat) : Bool :=
  c.memberPresent (memberOf d) && !c.memberLost (memberOf d) && c.fld F.BINOR_STAT_STATE (memberOf d) == 6 && !(c.die d).retired

/-- Erase a block again, or for a new use (R300, R308). -/
def Chip.eraseAgain (c : Chip) (x : Nat) (pslc : Bool) (reason : Nat) : Chip :=
  (c.newOp (mkOp .erase (x / 4096) (x % 4096) 0 pslc .b (.blockErase reason))).1

/-- The cisterns of the basin of a die that no owner has yet are given to it (R166, R167, R576). -/
def Chip.basinCisterns (c : Chip) (d : Nat) : Chip :=
  ((c.setAside d).take c.cistPerDie).foldl (fun (c : Chip) b =>
    if (c.bst d b).owner = 6 then (c.modBst d b fun x => { x with owner := 1 }).eraseAgain (bkey d b) true 3 else c) c

/-- Erases that were waiting (R300, R364): pools of the erase queue, pairs in which nothing is valid, cisterns and rebuild blocks no table names. -/
def Chip.eraseAgainAll (c : Chip) : Chip :=
  let c := c.z.eraseQ.foldl (fun (c : Chip) p => match c.pool p with
    | some q => if c.mustDissolve q then c.dissolve p else
        (q.slots.zipIdx).foldl (fun (c : Chip) x => (c.newOp (mkOp .erase x.1.die x.1.block 0 false .b (.poolErase p x.2))).1) c
    | none => c) c
  let c := (c.z.pairs.filter fun e => e.2.closed && e.2.units.isEmpty).foldl (fun (c : Chip) e =>
    [e.2.a, e.2.b].foldl (fun (c : Chip) x => if (c.bst (x / 4096) (x % 4096)).st = .erased then c else c.eraseAgain x true 3) c) c
  let held := c.z.journal.retained.flatMap (·.2) ++ c.z.segs.flatMap (fun e => e.2.bestCists ++ e.2.cists)
  let named := c.m.pools.flatMap fun e => e.2.slots.flatMap fun s =>
    bkey s.die s.block :: ((s.r.map fun x => bkey x.1 x.2).toList ++ (s.f.map fun x => bkey x.1 x.2.1).toList)
  let free := c.m.bst.filter fun e => !e.2.bad && ((e.2.owner == 2 || e.2.owner == 3) && !held.contains e.1 || e.2.owner == 0 && !named.contains e.1)
  free.foldl (fun (c : Chip) e =>
    if e.2.owner = 0 then (c.modBst (e.1 / 4096) (e.1 % 4096) fun b => { b with owner := 6 }).eraseAgain e.1 false 4
    else c.freeCistern e.1) c

/-- Cisterns of the shared set of a die are erased for use (R576). -/
def Chip.sharedErase (c : Chip) (d : Nat) : Chip :=
  ((c.setAside d).drop c.cistPerDie).foldl (fun (c : Chip) b =>
    if (c.bst d b).owner = 6 && ((c.bst d b).st != .erased || !(c.bst d b).pslc) then c.eraseAgain (bkey d b) true 3 else c) c

/-- SEQ_LOCK is set (R122): sequence numbers are issued, and what recovery holds back starts (R171, R182, R300). -/
def Chip.seqLock (c : Chip) : Chip :=
  if c.flag F.CONF_CTL_SEQ_LOCK then c
  else
    let c := c.setFld F.CONF_CTL_SEQ_LOCK 1
    let c := (c.intake.tags.map (·.1)).foldl (fun c t => (c.seqAssign t).ready t) c
    if c.sys.replayed.isNone then c
    else
      let dies := (List.range 4608).filter c.dieUp
      let c := dies.foldl (fun c d => (c.sharedErase d).basinCisterns d) c.eraseAgainAll
      (c.z.rows.map (·.1)).foldl (fun c i => c.recoverRow i) c

/-- CONF_SEQ_LOCK (R122): CONF_SEQ is locked; `next` is written first where given, while it is not locked yet. -/
def execConfSeqLock (next : Option Nat) (s : State) : Outcome :=
  onChip (fun c =>
    let c := match next with
      | some n => if c.flag F.CONF_CTL_SEQ_LOCK then c else c.setFld F.CONF_SEQ_NEXT n
      | none => c
    c.seqLock) s

/-! Full scan (R343 to R347) -/

/-- A chunk found for an LBA of a lost map segment: its 4 KiB unit in the namespace, its map entry, SEQ, ROW_JSN. Only chunks of complete rows
and of basin copies that decode are given (R344). -/
def Chip.scanMap (c : Chip) (found : List ScanChunk) : Chip :=
  let better := fun (a b : ScanChunk) => decide (a.seq > b.seq ∨ a.seq = b.seq ∧ a.rowJsn ≥ b.rowJsn)
  found.foldl (fun (c : Chip) x =>
    match c.ns x.nsid with
    | none => c
    | some n =>
      let rival := found.any fun y => y.nsid == x.nsid && y.unit == x.unit && y.entry != x.entry && decide (y.seq ≥ n.seq0) && better y x
      if decide (x.seq ≥ n.seq0) && !rival then c.setMap (n.base + x.unit) x.entry else c) c

/-- A zone found by the scan: ZSE, ZSC or ZSF from its write pointer; label 0, seal computed afresh, SEAL_STATE 0x2 once full (R346). -/
def Chip.scanZone (c : Chip) (x : ScanZone) : Chip :=
  match c.ns x.nsid with
  | none => c
  | some n =>
    let st : ZState := if x.wp = 0 then .zse else if x.wp ≥ 0x60000 then .zsf else .zsc
    let full := decide (st = .zsf)
    let g := n.zbase + x.zidx
    let c := c.modZone g fun _ => { zoneReset x.nsid x.zidx with st := st, wpOff := x.wp, pool := if x.wp = 0 then none else some x.pool, label := 0, lastSeq := x.seq }
    c.modZ fun z => { z with rebuilds := if full || x.wp > 0 then z.rebuilds ++ [g] else z.rebuilds, rebuildCount := z.rebuildCount + b2n (x.wp > 0) }

/-- FULL_SCAN (R343 to R347): the scan of a lost segment ends; `s` is what it read. Journal records above CKPTLOW follow, then event 0x3508 with
the segment, its first LBA unit and the duration. -/
def execFullScan (seg : Nat) (scan : ScanData) (s : State) : Outcome :=
  onChip (fun c =>
    if !c.z.scanning.contains seg then c
    else
      let c := if seg < segZones then c.scanMap scan.chunks
        else scan.zones.foldl (fun c x => c.scanZone x) c
      let c := c.modZ fun z => { z with scanning := z.scanning.filter (· != seg), segs := pset z.segs seg segReset }
      let w : Restore := { segs := (· == seg), recs := c.z.journal.durable ++ c.z.journal.flying.flatMap Frame.recs ++ c.z.journal.opened,
                           data := noData, live := true }
      let c := w.recs.foldl (fun c r => w.zones (w.map (w.tables c r) r) r) c
      let c := c.touch seg
      let c := c.post srcPatrol 0x3508 [seg, seg % 0x10000000 * 2 ^ 20, scan.seconds]
      (c.setFld F.PATROL_SCAN_PROGRESS 1000).showScan) s

end Sys2Proof.Machine
end

