-- ==== Sys2Proof/Machine/MemView.lean ====
section
/-! DEFINITION. What a core reads at the addresses of the tables the hardware keeps in DRAM and in the context region (R87, R142, R144, R149,
R150, R287, R351). -/

namespace Sys2Proof.Machine

/-- STATE and FLAGS of a command context (R87). -/
def TagState.code : TagState → Nat
  | .check => 1
  | .claim => 2
  | .data => 3
  | .admission => 4
  | .media => 5
  | .post => 6
  | .squash => 7
  | .firmware => 8
def Ctx.flags (x : Ctx) : Nat :=
  b2n x.committed + 2 * b2n x.abortReq + 4 * b2n x.bufferHit + 8 * b2n (x.part == .adminReserve) + 16 * b2n (x.part == .shared)

/-- The 512 bytes of a command context (R87). T_FETCH is in µs (log 9). -/
def Ctx.bytes (x : Ctx) : List Byte :=
  padTo 64 (x.sqe.flatMap (leBytes 4)) ++ leBytes 2 x.fn ++ leBytes 2 x.sqid ++ leBytes 2 x.cqid ++ leBytes 1 x.st.code ++ leBytes 1 x.flags
    ++ leBytes 8 (x.seq.getD 0) ++ leBytes 8 (x.tFetch / 1000) ++ leBytes 4 x.dlen ++ leBytes 4 x.mlen ++ leBytes 4 (maskOf x.slices)
    ++ leBytes 4 (maskOf x.granted) ++ leBytes 4 (statusCode x.status) ++ leBytes 20 0
    ++ padTo 384 ((x.xlat.take 24).flatMap fun e => leBytes 8 e.1 ++ leBytes 4 e.2 ++ leBytes 4 0)

/-- A byte of the context region (R87); a free tag reads 0. -/
def Chip.contextByte (c : Chip) (off : Nat) : Byte :=
  ((c.ctx (off / 512)).map fun x => x.bytes.getD (off % 512) 0).getD 0

/-- The 32 bytes of a zone record (R144). -/
def ZoneRec.bytes (z : ZoneRec) : List Byte :=
  leBytes 1 z.st.code ++ leBytes 1 z.attr ++ leBytes 2 z.nsid ++ leBytes 4 z.zidx ++ leBytes 4 z.wpOff ++ leBytes 3 (z.pool.getD 0xFFFFFF)
    ++ leBytes 1 z.rowsPad ++ leBytes 4 z.openTime.1 ++ leBytes 4 z.openTime.2 ++ leBytes 8 z.lastSeq

/-- A slot of a pool-table entry (R351). -/
def dieBytes (d : Nat) : List Byte := leBytes 1 (d / 128) ++ leBytes 1 (d % 128)
def Slot.bytes (s : Slot) : List Byte :=
  dieBytes s.die ++ leBytes 2 s.block
    ++ (match s.r with | some x => dieBytes x.1 ++ leBytes 2 x.2 | none => leBytes 2 0 ++ leBytes 2 0xFFFF)
    ++ (match s.f with | some x => dieBytes x.1 ++ leBytes 2 x.2.1 ++ leBytes 2 x.2.2 | none => leBytes 2 0 ++ leBytes 4 0xFFFFFFFF)
    ++ leBytes 2 s.rDone ++ leBytes 1 s.pstate ++ leBytes 1 s.cause ++ leBytes 2 0

/-- The 448 bytes of a pool-table entry (R351). -/
def Pool.bytes (p : Pool) : List Byte :=
  padTo 448 (leBytes 2 p.pattern ++ leBytes 1 p.ptstate ++ leBytes 1 p.deg ++ leBytes 4 p.bindGen ++ leBytes 2 p.lost.length ++ leBytes 14 0
    ++ leBytes 48 (maskOf p.lost) ++ leBytes 16 0 ++ p.slots.flatMap Slot.bytes)

/-- A byte of the block state table of a port (R287). -/
def Chip.bstByte (c : Chip) (p off : Nat) : Byte :=
  let e := off / 8
  let b := c.bst (p * 128 + e / c.blocks) (e % c.blocks)
  (leBytes 8 b.word).getD (off % 8) 0

/-- A byte of DRAM that the hardware keeps a table in: map, zone records and extensions, pool table, block state tables. `none`: plain memory. -/
def Chip.tableByte (c : Chip) (a : Nat) : Option Byte :=
  let mb := c.fld F.ZMAP_CONV_MAP_BASE * 4096
  let zb := c.fld F.ZMAP_ZTBASE_BASE * 4096
  let pb := c.fld F.STRIPE_PT_BASE * 4096
  if c.flag F.ZMAP_CONV_LOCK && decide (mb ≤ a ∧ a < mb + 5 * c.mapEnd) then some ((leBytes 5 (c.mapAt ((a - mb) / 5))).getD ((a - mb) % 5) 0)
  else if c.flag F.ZMAP_CONV_LOCK && decide (zb ≤ a ∧ a < zb + 32 * 655360) then
    some ((c.zone ((a - zb) / 32)).bytes.getD ((a - zb) % 32) 0)
  else if c.flag F.ZMAP_CONV_LOCK && decide (zb + 0x1400000 ≤ a ∧ a < zb + 0x1400000 + 64 * 655360) then
    some ((c.zone ((a - zb - 0x1400000) / 64)).ext.getD ((a - zb - 0x1400000) % 64) 0)
  else
    match (if pb ≤ a ∧ a < pb + 448 * c.fld F.STRIPE_PTCNT_COUNT then c.pool ((a - pb) / 448) else none) with
    | some q => some (q.bytes.getD ((a - pb) % 448) 0)
    | none =>
      let port := (List.range 36).find? fun p =>
        let b := c.fld F.SEQ_BST_BASE p * 4096
        b != 0 && decide (b ≤ a ∧ a < b + 8 * 128 * c.blocks)
      port.map fun p => c.bstByte p (a - c.fld F.SEQ_BST_BASE p * 4096)

/-- A byte of DRAM as a core reads it. -/
def dramByte (s : State) (a : Nat) : Byte := (s.chip.tableByte a).getD (readByte s a)

end Sys2Proof.Machine
end

