-- ==== Sys2Proof/Machine/Dram.lean ====
section
/-! DEFINITION. The DRAM controllers: address map, queues and pick order, refresh, training, operating points, CA parity, error correction,
scrubbing and retirement (R33, R438 to R466, R503). -/

namespace Sys2Proof.Machine

/-- A controller. -/
def Chip.drc (c : Chip) (n : Nat) : Drc := (pget c.drcs n).getD drcReset
def Chip.modDrc (c : Chip) (n : Nat) (g : Drc → Drc) : Chip := { c with drcs := pset c.drcs n (g (c.drc n)) }

/-! Address map (R438, R439) -/

/-- Channel and channel-local address of a DRAM address. -/
def chanOf (a : Nat) : Nat := bitsOf a 15 13 ^^^ bitsOf a 18 16 ^^^ bitsOf a 21 19
def localOf (a : Nat) : Nat := a / 65536 * 8192 + a % 8192

/-- The DRAM address of a channel-local address. -/
def addrOf (ch l : Nat) : Nat :=
  let hi := l / 8192 * 65536
  hi + (ch ^^^ bitsOf hi 18 16 ^^^ bitsOf hi 21 19) * 8192 + l % 8192

/-- Logical rank, subchannel, bank group, bank and row of a local address. -/
structure DramPlace where
  rank : Nat
  sub  : Nat
  bg   : Nat
  ba   : Nat
  row  : Nat
  deriving DecidableEq, Repr

def Chip.placeOfLocal (c : Chip) (ch l : Nat) : DramPlace :=
  let x4 := decide (c.fld F.DRC_GEOM_WIDTH ch = 1)
  let rows := max 1 (c.fld F.DRC_GEOM_ROWS ch)
  let k := if x4 then l / 2 ^ 19 else l / 2 ^ 18
  let s := if x4 then 1 else 0
  ⟨k / rows, bitsOf l 6 6, bitsOf l (15 + s) (13 + s) ^^^ k % 8, bitsOf l (17 + s) (16 + s) ^^^ k / 8 % 4, k % rows⟩

/-- The key of a bank and of a refresh set (R444). -/
def DramPlace.bank (p : DramPlace) : Nat := ((p.rank * 2 + p.sub) * 8 + p.bg) * 4 + p.ba
def DramPlace.set (p : DramPlace) : Nat := (p.rank * 2 + p.sub) * 4 + p.ba
def Chip.reqPlace (c : Chip) (ch : Nat) (q : DramReq) : DramPlace := c.placeOfLocal ch (localOf q.addr)

/-! Masters (R33, R440, R458) -/

/-- The classes of R440: 0 RT, 1 LAT, 2 BW, 3 BG. -/
def DramMaster.cls : DramMaster → Nat
  | .flush _ => 0
  | .mapEntry _ | .zoneRecord _ | .core _ | .fdqEntry _ | .fcqEntry _ | .blockTable _ | .poolTable _ | .keyTable => 1
  | .intakeWrite _ | .partRead _ | .parity _ | .checkpoint _ | .digest _ | .sealLane .. => 2

/-- The page-policy hint: open for RT and BW masters. -/
def DramMaster.open_ (m : DramMaster) : Bool := m.cls != 1

/-- The source index of R517 that names a master in events (log 6). -/
def DramMaster.src : DramMaster → Nat
  | .flush _ => srcLedger
  | .mapEntry _ | .zoneRecord _ | .checkpoint _ => srcZmap
  | .core n => srcCore n
  | .fdqEntry p | .fcqEntry p => srcSeq p
  | .blockTable d => srcSeq (memberOf d)
  | .poolTable _ | .partRead _ | .parity _ => srcStripe
  | .keyTable => srcKeys
  | .intakeWrite _ => srcIntake
  | .digest _ | .sealLane .. => srcDigest

/-- A segment as it would be restored, or none when it was never copied whole (R458). -/
def Chip.hasCopy (c : Chip) (k : Nat) : Bool := ((pget c.z.segs k).bind Segment.best).isSome

/-- An invalid map entry (R149). -/
def mapInvalid : Nat := 0x1FFFFF * 2 ^ 19 + 2

/-- A part whose retry copy cannot be read before its program: its write completes with Write Fault; zoned positions are filled (R133, R458). A
part on the medium in the basin is read there. -/
def Chip.partUnreadable (c : Chip) (pid : Nat) : Chip :=
  match c.part pid with
  | none => c
  | some p =>
    if p.onMedium then c
    else
      let c := match p.row with
        | some i => (c.modRow i fun r => { r with
            parts := r.parts.filter (· != pid)
            units := r.units.filter fun u => !(decide (p.rowOff ≤ u.1 ∧ u.1 < p.rowOff + p.len))
            pads := r.pads ++ (List.range p.len).map (p.rowOff + ·) })
        | none => c
      let c := match p.zone with
        | some g => (c.modZone g fun z => { z with filled := z.filled ++ [(p.first, p.len)] }).post srcZmap 0x200C
            [p.nsid, (c.zone g).zidx, (c.zone g).zidx * 0x80000 + p.first, p.len]
        | none => c
      let c := (c.modZ fun z => { z with parts := pdel z.parts pid }).complete p.tag .writeFault
      let c := (p.row.map c.rowGo).getD c
      c.commitReleased p.commit

/-- What an uncorrectable error, or a request outside memory, means to the master (R33, R458). -/
def Chip.masterFails (c : Chip) (m : DramMaster) : Chip :=
  match m with
  | .core n => c.emit (.coreFault n)
  | .mapEntry i => if c.hasCopy (segMap i) then c.restoreSeg (segMap i) else c.setMap i mapInvalid
  | .zoneRecord _ => c.restoreSeg segZones
  | .blockTable d => c.restoreSeg (segTable (memberOf d))
  | .poolTable p => c.restoreSeg (segPools p)
  | .partRead p => c.partUnreadable p
  | .flush p =>
    let j := ((c.part p).bind fun x => x.jsns.getLast?).getD 0
    let c := c.modJ fun y => { y with opened := y.opened.filter fun r => r.jsn != j }
    let c := (c.m.ops.filter fun e => match e.2.purpose with
      | .landPage x .. => x == p
      | _ => false).foldl (fun (c : Chip) e => c.dropOp e.1) c
    c.modPart p fun x => { x with landTry := 2 }
  | .checkpoint k =>
    let c := (c.m.ops.filter fun e => match e.2.purpose with
      | .segment x _ => x == k
      | _ => false).foldl (fun (c : Chip) e => c.dropOp e.1) c
    let c := c.modZ fun z => { z with segs := pmod z.segs k fun s => { s with data := none, left := [], cists := [] } }
    (c.restoreSeg k).snapshot k
  | .fdqEntry p =>
    let head := c.fld F.SEQ_FDQ_PTR_HEAD p
    (c.setFld F.SEQ_FDQ_PTR_HEAD ((head + 1) % c.fdqSize p) p).fcqEntry p 0 0 0x10 0 0 0 0 0 0 false
  | .digest x => { c with digest := pmod c.digest x fun d => { d with running := false } }
  | .fcqEntry _ | .keyTable | .intakeWrite _ | .parity _ | .sealLane .. => c

/-! Retirement (R460 to R464) -/

/-- Entries of a controller's remap table that name a page. -/
def Chip.remapOf (c : Chip) (ch page : Nat) : Option Nat :=
  (List.range 64).find? fun i => c.fld F.DRC_REMAP_STATE (ch * 64 + i) != 0 && c.fld F.DRC_REMAP_PAGE (ch * 64 + i) == page

/-- The size of a bank in bytes (R439). -/
def Chip.bankBytes (c : Chip) (ch : Nat) : Nat := c.fld F.DRC_GEOM_ROWS ch * (if c.fld F.DRC_GEOM_WIDTH ch = 1 then 8192 else 4096)

/-- The spare range is locked and large enough (R460). -/
def Chip.spareOk (c : Chip) (ch : Nat) : Bool :=
  c.flag F.DRC_SPARE_LOCK &&
    decide (c.fld F.DRC_SPARE_SIZE_MIB * 2 ^ 20 ≥ 8 * ((if c.flag F.DRC_RET_BANK_SPARE_EN ch then c.bankBytes ch else 0) + 524288))

/-- The bank of the page of an address on the subchannel of the address, and whether a page lies in a bank. -/
def Chip.bankOfAddr (c : Chip) (ch a : Nat) : Nat := (c.placeOfLocal ch (localOf a)).bank
def Chip.pageInBank (c : Chip) (ch page bank : Nat) : Bool :=
  let p := c.placeOfLocal ch (localOf (page * 8192))
  p.rank == bank / 64 && p.bg == bank / 4 % 8 && p.ba == bank % 4

/-- Remap entries in use (DRCn_RET.PAGES_USED). -/
def Chip.countRemaps (c : Chip) (ch : Nat) : Chip :=
  c.setFld F.DRC_RET_PAGES_USED ((List.range 64).filter fun i => c.fld F.DRC_REMAP_STATE (ch * 64 + i) != 0).length ch

/-- A bank is retired into the bank spare, if there is one (R462, R463). The result is that of DRCn_RETCMD. -/
def Chip.retireBank (c : Chip) (ch bank : Nat) : Chip × Nat :=
  if ((c.drc ch).bank.map (·.1)) = some bank then (c, 3)
  else if !c.spareOk ch || !c.flag F.DRC_RET_BANK_SPARE_EN ch || c.fld F.DRC_RET_BANK_STATE ch != 0 then (c.post (srcDrc ch) 0x500B [ch, bank], 1)
  else
    let c := (c.modDrc ch fun d => { d with bank := some (bank, 0) }).setFld F.DRC_RET_BANK_STATE 1 ch
    (c.post (srcDrc ch) 0x500A [ch, bank / 64, bank / 32 % 2, bank % 32, 0], 0)

/-- Words of a page in a list of words, stored poisoned by a copy (R461). -/
def Chip.poisonPage (c : Chip) (ch page : Nat) (ue : List Nat) : Chip :=
  let ws := ue.filter fun w => w / 1024 == page && !c.poison.contains w
  ({ c with poison := c.poison ++ ws }).addFld F.DRC_ECC_POISON_W ws.length ch

/-- A page is copied into a spare page and remapped (R461): event 0x5009; cause 0 uncorrectable, 1 correctable count, 2 command. Enough pages of
one bank retire the bank (R462). Without a spare it stays in service, event 0x500B (R463). -/
def Chip.retirePage (c : Chip) (ch a cause : Nat) (ue : List Nat) : Chip × Nat :=
  let page := a / 8192
  if (c.remapOf ch page).isSome || (c.drc ch).bank.any fun b => c.pageInBank ch page b.1 then (c, 3)
  else
    let entry := (List.range 64).find? fun i => c.fld F.DRC_REMAP_STATE (ch * 64 + i) = 0
    let spare := (List.range 64).find? fun k => !(c.drc ch).badSpares.contains k && !(c.drc ch).spares.any fun e => e.2 == k
    match (if c.spareOk ch then entry else none), spare with
    | some i, some k =>
      let c := (c.poisonPage ch page ue).modDrc ch fun d => { d with spares := pset d.spares i k }
      let c := ((c.setFld F.DRC_REMAP_STATE 1 (ch * 64 + i)).setFld F.DRC_REMAP_PAGE page (ch * 64 + i)).countRemaps ch
      let c := c.post (srcDrc ch) 0x5009 [ch, page, cause]
      let bank := c.bankOfAddr ch a
      let n := ((List.range 64).filter fun j => c.fld F.DRC_REMAP_STATE (ch * 64 + j) = 1 && c.pageInBank ch (c.fld F.DRC_REMAP_PAGE (ch * 64 + j)) bank).length
      if n ≥ max 1 (c.fld F.DRC_RET_BANK_PAGES ch) then ((c.retireBank ch bank).1, 0) else (c, 0)
    | _, _ => (c.post (srcDrc ch) 0x500B [ch, page], 1)

/-! Errors (R455 to R458) -/

/-- A correctable word (R457): counted, event 0x5007; a page that reaches its threshold within 24 operating hours is retired (R461). -/
def Chip.correctable (c : Chip) (ch w bits : Nat) : Chip :=
  let page := w / 1024
  let c := (c.addFld F.DRC_ECC_CE 1 ch).post (srcDrc ch) 0x5007 [ch, bits]
  let seen := ((mget [] (c.drc ch).ces page).filter fun t => c.opTime ≤ t + 24576) ++ [c.opTime]
  let full := decide (seen.length ≥ max 1 (c.fld F.DRC_RET_CE_PAGE_THR ch))
  let c := c.modDrc ch fun d => { d with ces := mset [] d.ces page (if full then [] else seen) }
  if full then (c.retirePage ch (w * 8) 1 []).1 else c

/-- Uncorrectable words of one request (R458): counted, event 0x5008 for each burst, captured if the register is free; their pages are retired.
`src`: 1 demand read, 2 read-modify-write, 3 scrub, 4 retirement copy. -/
def Chip.uncorrectable (c : Chip) (ch src master : Nat) (ws : List Nat) : Chip :=
  let c := c.addFld F.DRC_ECC_UE ws.length ch
  let bursts := (ws.map (· / 8)).eraseDups
  let c := bursts.foldl (fun (c : Chip) b =>
    let c := c.post (srcDrc ch) 0x5008 [b * 64, master]
    if c.flag F.DRC_UEADDR_VALID ch then c
    else ((c.setFld F.DRC_UEADDR_VALID 1 ch).setFld F.DRC_UEADDR_SRC src ch).setFld F.DRC_UEADDR_ADDR (b * 64) ch) c
  if c.flag F.DRC_PAR_FAILED ch then c
  else ((ws.map (· / 1024)).eraseDups).foldl (fun (c : Chip) p => (c.retirePage ch (((ws.find? fun w => w / 1024 == p).getD 0) * 8) 0 ws).1) c

/-! Executing a request (R441, R442, R443, R453, R456) -/

/-- Words from one address to another. -/
def wordsOf (a n : Nat) : List Nat := (List.range ((a + n + 7) / 8 - a / 8)).map (a / 8 + ·)

/-- A write puts its bytes down; a burst written in part is read first, and an uncorrectable word it does not cover whole is stored poisoned
(R456). -/
def Chip.writeDram (c : Chip) (ch : Nat) (q : DramReq) (bs : List Byte) : Chip :=
  let whole := (wordsOf q.addr q.len).filter fun w => decide (q.addr ≤ 8 * w ∧ 8 * w + 8 ≤ q.addr + q.len)
  let bursts := ((wordsOf q.addr q.len).map (· / 8)).eraseDups
  let part := bursts.filter fun b => !(decide (q.addr ≤ 64 * b ∧ 64 * b + 64 ≤ q.addr + q.len))
  let held := part.flatMap fun b => (List.range 8).map (8 * b + ·)
  let bad := held.filter fun w => q.ue.contains w || c.poison.contains w
  let c := (q.ce.filter fun e => held.contains e.1).foldl (fun (c : Chip) e => c.correctable ch e.1 e.2) c
  let c := if bad.isEmpty then c else c.uncorrectable ch 2 q.master.src bad
  let keep := bad.filter fun w => !whole.contains w
  let c := (({ c with poison := (c.poison.filter fun w => !whole.contains w && !keep.contains w) ++ keep })).addFld F.DRC_ECC_POISON_W keep.length ch
  c.put q.addr (padTo q.len bs)

/-- The row of a bank a request uses: a hit, or an activate after which the pointer and the hit count start anew; a hint-close row is
precharged unless a queued request of the same or a higher class hits it (R442, R443). -/
def Chip.touchRow (c : Chip) (ch : Nat) (q : DramReq) : Chip :=
  let p := c.reqPlace ch q
  let d := c.drc ch
  let cap := max 1 (c.fld F.DRC_QOS_HIT_CAP ch)
  let hit := ((pget d.rows p.bank).map (·.1)) == some p.row && decide (mget 0 d.hits p.bank < cap)
  let wanted := d.queue.any fun e => decide (e.2.master.cls ≤ q.master.cls) && c.reqPlace ch e.2 == p
  let stay := q.master.open_ || wanted
  c.modDrc ch fun d => { d with
    rows := if stay then pset d.rows p.bank (p.row, c.now) else pdel d.rows p.bank
    hits := mset 0 d.hits p.bank (if hit then mget 0 d.hits p.bank + 1 else 0)
    ptr := if hit then d.ptr else pset d.ptr p.sub p.bank
    issued := (c.now :: d.issued).take 128 }

/-- A request is executed. Reads of a failed channel are uncorrectable, writes to it are discarded (R453). -/
def Chip.execReq (c : Chip) (ch : Nat) (q : DramReq) (val : Nat) : Chip :=
  if c.flag F.DRC_PAR_FAILED ch then
    match q.data with
    | some _ => c
    | none => (c.uncorrectable ch 1 q.master.src (wordsOf q.addr q.len)).masterFails q.master
  else
    let c := c.touchRow ch q
    match q.data with
    | some bs => c.writeDram ch q bs
    | none =>
      let ws := wordsOf q.addr q.len
      let bad := ws.filter fun w => q.ue.contains w || c.poison.contains w
      let c := (q.ce.filter fun e => ws.contains e.1).foldl (fun (c : Chip) e => c.correctable ch e.1 e.2) c
      if bad.isEmpty then
        match q.master with
        | .core n => c.emit (.coreData n val)
        | _ => c
      else (c.uncorrectable ch 1 q.master.src bad).masterFails q.master

/-! Queues (R441, R442, R445, R452, R454, R503) -/

/-- The channel issues no command: domain not On, or ALERT_n low (R452, R454). -/
def Chip.drcStopped (c : Chip) (ch : Nat) : Bool := !c.domOn (domDc ch) || (c.drc ch).alert

/-- The rank under sampling (R448): windows are taken rank by rank, subchannel by subchannel. -/
def Chip.sampled (c : Chip) (ch : Nat) : Option Nat :=
  (c.drc ch).window.map fun _ => c.fld F.DRC_TRAIN_WINDOWS ch / 2

/-- A request must wait. -/
def Chip.reqHeld (c : Chip) (ch : Nat) (q : DramReq) : Bool :=
  c.drcStopped ch || c.sampled ch == some (c.reqPlace ch q).rank

/-- The class a queued request counts as: BW that has waited for BW_AGE_NS counts as LAT (R442). -/
def Chip.reqCls (c : Chip) (ch : Nat) (e : Nat × DramReq) : Nat :=
  if e.2.master.cls = 2 && decide (c.now > e.1 + max 1 (c.fld F.DRC_QOS_BW_AGE_NS ch)) then 1 else e.2.master.cls

/-- Two requests overlap. -/
def DramReq.meets (a b : DramReq) : Bool := decide (a.addr < b.addr + b.len ∧ b.addr < a.addr + a.len)

/-- Positions in a controller's queue that are ready: not held, and no earlier one overlaps (R441). -/
def Chip.readyReqs (c : Chip) (ch : Nat) : List Nat :=
  let q := (c.drc ch).queue
  (List.range q.length).filter fun i =>
    match q[i]? with
    | some e => !c.reqHeld ch e.2 && !((q.take i).any fun x => x.2.meets e.2)
    | none => false

/-- DRCn's pick (R442): the highest class; in it a row hit below HIT_CAP, otherwise the first bank after the pointer. -/
def Chip.pickReq (c : Chip) (ch : Nat) : Option Nat :=
  let d := c.drc ch
  let at_ := fun (i : Nat) => d.queue[i]?
  let cls := fun (i : Nat) => ((at_ i).map (c.reqCls ch)).getD 9
  let place := fun (i : Nat) => ((at_ i).map fun e => c.reqPlace ch e.2).getD ⟨0, 0, 0, 0, 0⟩
  let ready := c.readyReqs ch
  match (ready.map cls).min? with
  | none => none
  | some k =>
    let mine := ready.filter fun i => cls i == k
    let cap := max 1 (c.fld F.DRC_QOS_HIT_CAP ch)
    let hit := mine.find? fun i => ((pget d.rows (place i).bank).map (·.1)) == some (place i).row && decide (mget 0 d.hits (place i).bank < cap)
    match hit with
    | some i => some i
    | none => bestBy (fun i => 65536 - ((place i).bank + 1024 - (mget 0 d.ptr (place i).sub + 1)) % 1024) mine

/-- Execute what the queue allows (R441, R442); `val` gives the value a core's read returns. -/
def Chip.drain (val : Chip → DramReq → Nat) (ch : Nat) : Nat → Chip → Chip
  | 0, c => c
  | n + 1, c =>
    match c.pickReq ch with
    | none => c
    | some i =>
      match (c.drc ch).queue[i]? with
      | none => c
      | some e => drain val ch n ((c.modDrc ch fun d => { d with queue := d.queue.eraseIdx i }).execReq ch e.2 (val c e.2))

/-- A refresh set is in use: a queued request targets one of its banks (R444). -/
def Chip.setInUse (c : Chip) (ch k : Nat) : Bool := (c.drc ch).queue.any fun e => (c.reqPlace ch e.2).set == k

/-- Owed refreshes of sets no longer in use are repaid (R445). -/
def Chip.repay (c : Chip) (ch : Nat) : Chip :=
  if c.drcStopped ch then c
  else
    let free := (c.drc ch).owed.filter fun e => !c.setInUse ch e.1
    (c.addFld F.DRC_REF_POSTPONED (free.map (·.2)).sum ch).modDrc ch fun d => { d with owed := d.owed.filter fun e => !(free.any fun f => f.1 == e.1) }

/-- The queue goes on after something that held it. -/
def Chip.drcGo (c : Chip) (val : Chip → DramReq → Nat) (ch : Nat) : Chip := (Chip.drain val ch (c.drc ch).queue.length c).repay ch

/-- The little-endian value a core's read returns. -/
def readVal (s : State) (q : DramReq) : Nat := leNum ((List.range (min q.len 8)).map fun i => dramByte s (q.addr + i))

/-- The value a core's read returns, after the writes executed before it (R441). -/
def readAfter (s : State) (c : Chip) (q : DramReq) : Nat := readVal (flushWrites { s with chip := c }) q

/-- Run a step of a controller and let its queue go on. -/
def onDrc (ch : Nat) (f : Chip → Chip) (s : State) : State :=
  flushWrites { s with chip := (f s.chip).drcGo (readAfter s) ch }

/-- The populated DRAM in bytes (SYS_CAP, R33). -/
def Chip.dramBytes (c : Chip) : Nat := c.fuses.dramGib * 2 ^ 30

/-- The SB range of R32. -/
def sbRange (a n : Nat) : Bool := decide (0x10000000000 ≤ a ∧ a + n ≤ 0x10010000000)

/-- A request cut at the 8 KiB grains, each of one channel (R438). -/
def DramReq.pieces (q : DramReq) : List DramReq :=
  (List.range ((q.addr + q.len + 8191) / 8192 - q.addr / 8192)).map fun i =>
    let lo := max q.addr ((q.addr / 8192 + i) * 8192)
    let hi := min (q.addr + q.len) ((q.addr / 8192 + i + 1) * 8192)
    { q with addr := lo, len := hi - lo, data := q.data.map fun b => (padTo q.len b).drop (lo - q.addr) |>.take (hi - lo) }

/-- A request arrives at its channel: a domain not On is woken by it (R503). -/
def arrive (q : DramReq) (s : State) : State :=
  let ch := chanOf q.addr
  onDrc ch (fun c => (c.modDrc ch fun d => { d with queue := d.queue ++ [(c.now, q)] }).demand (domDc ch)) s

/-- An access fault to a core (R33, R39): event 0x9010; SYS_ACCERR holds the first until it is cleared. Causes: 1 unmapped, 2 beyond the
populated DRAM, 3 domain not On, 4 width or alignment. -/
def Chip.accessFault (c : Chip) (core cause addr : Nat) : Chip :=
  let c := if c.flag F.SYS_ACCERR_VALID then c
    else c.setReg .sysAccerr 0 (withBits [(F.SYS_ACCERR_VALID, 1), (F.SYS_ACCERR_CAUSE, cause), (F.SYS_ACCERR_CORE, core),
      (F.SYS_ACCERR_ADDR, addr % 2 ^ 48)])
  (c.post srcSys 0x9010 [core, cause, addr]).emit (.coreFault core)

/-- DRAM_REQUEST (R33, R440 to R443, R455 to R458): a request of a master. Outside populated DRAM and SB it is not performed: an access fault to
a core, otherwise event 0x9017 and the effect of an uncorrectable error. -/
def dramReq (q : DramReq) (s : State) : State :=
  if sbRange q.addr q.len then
    match q.data, q.master with
    | some b, _ => writeBytes s q.addr (padTo q.len b)
    | none, .core n => { s with chip := s.chip.emit (.coreData n (readVal s q)) }
    | none, _ => s
  else if q.addr + q.len > s.chip.dramBytes || q.len = 0 then
    match q.master with
    | .core n => { s with chip := s.chip.accessFault n 2 q.addr }
    | m => flushWrites { s with chip := (s.chip.post srcSys 0x9017 [m.src, q.addr]).masterFails m }
  else q.pieces.foldl (fun s p => arrive p s) s

def execDramRequest (req : DramReq) (s : State) : Outcome := onState (dramReq req) s

/-! Refresh (R444, R445) -/

/-- REFRESH_DUE (R444, R445): a set not in use is refreshed at once, with what it owes; one in use owes one more, up to 4, and then its refresh is
forced into the transfer: event 0x500D with the highest class waiting on the set. -/
def execRefreshDue (ch rank sub set : Nat) (s : State) : Outcome :=
  onState (onDrc ch fun c =>
    let k := (rank * 2 + sub % 2) * 4 + set % 4
    if ch ≥ 8 || !c.domOn (domDc ch) then c
    else
      let n := mget 0 (c.drc ch).owed k
      let close := fun (c : Chip) => c.modDrc ch fun d => { d with rows := d.rows.filter fun e => !(e.1 / 32 == rank * 2 + sub % 2 && e.1 % 4 == set % 4) }
      if !c.setInUse ch k && !c.drcStopped ch then
        ((close c).addFld F.DRC_REF_POSTPONED n ch).modDrc ch fun d => { d with owed := mset 0 d.owed k 0 }
      else if n ≥ 4 then
        let cls := (((c.drc ch).queue.filter fun e => (c.reqPlace ch e.2).set == k).map fun e => e.2.master.cls).foldl min 3
        ((close c).addFld F.DRC_REF_FORCED 1 ch).post (srcDrc ch) 0x500D [ch, k, cls]
      else (c.modDrc ch fun d => { d with owed := mset 0 d.owed k (n + 1) }).setFld F.DRC_REF_OWED_MAX (max (n + 1) (c.fld F.DRC_REF_OWED_MAX ch)) ch) s

/-! Training (R448, R451) -/

/-- A round starts. -/
def Chip.roundStart (c : Chip) (ch : Nat) : Chip :=
  (c.modDrc ch fun d => { d with round := true, window := none, roundAt := c.now, mr4Round := d.mr4 }).setFld F.DRC_TRAIN_WINDOWS 0 ch

/-- The samples of a round are discarded: event 0x5003 with cause 0 operating-point change, 1 self-refresh (R450, R454). -/
def Chip.roundDiscard (c : Chip) (ch cause : Nat) : Chip :=
  (((c.modDrc ch fun d => { d with round := false, window := none }).setFld F.DRC_TRAIN_WINDOWS 0 ch).addFld F.DRC_TRAIN_DISCARDED 1 ch).post
    (srcDrc ch) 0x5003 [ch, cause]

/-- A round may start: the channel runs, and no power-fail sequence is committed. -/
def Chip.mayTrainDram (c : Chip) (ch : Nat) : Bool :=
  decide (ch < 8) && c.domOn (domDc ch) && !c.z.ledger.pfCommit && !(c.drc ch).round

/-- MR4_READ (R444, R448): a rank's temperature in °C. Above 85 °C tREFI is halved; above 95 °C event 0x500F once; a change by TEMP_DELTA since the
last round starts a round. -/
def execMr4Read (ch rank temp : Nat) (s : State) : Outcome :=
  onChip (fun c =>
    if ch ≥ 8 then c
    else
      let hot := (c.drc ch).hotRanks.contains rank
      let c := c.modDrc ch fun d => { d with
        mr4 := pset d.mr4 rank temp
        hotRanks := if temp > 95 then (if hot then d.hotRanks else rank :: d.hotRanks) else d.hotRanks.filter (· != rank) }
      let c := c.setFld F.DRC_REF_X2 (b2n ((c.drc ch).mr4.any fun e => decide (e.2 > 85))) ch
      let c := if temp > 95 && !hot then c.post (srcDrc ch) 0x500F [ch, rank] else c
      let old := (pget (c.drc ch).mr4Round rank).getD temp
      let moved := decide ((temp - old) + (old - temp) ≥ max 1 (c.fld F.DRC_TRAIN_TEMP_DELTA ch))
      if moved && c.mayTrainDram ch then c.roundStart ch else c) s

/-- TRAINING_ROUND_START (R448): the period has passed since the last round started. -/
def execTrainingRoundStart (ch : Nat) (s : State) : Outcome :=
  onChip (fun c =>
    if c.mayTrainDram ch then (c.advanceTo ((c.drc ch).roundAt + ms (max 10 (c.fld F.DRC_TRAIN_PERIOD_MS ch)))).roundStart ch else c) s

/-! Operating points (R449 to R451) -/

/-- The change itself (R450): transfers end, owed refreshes are repaid, banks are precharged; a fresh round starts. Its latency, which the manual
bounds at 2,800 ns, or 4,000 ns where a window was open, is a free value; event 0x5004. -/
def Chip.opChange (c : Chip) (ch waited bound : Nat) : Chip :=
  let target := c.fld F.DRC_OP_TARGET ch
  let (v, c) := c.take
  let c := c.modDrc ch fun d => { d with opSince := none }
  let c := (c.repay ch).modDrc ch fun d => { d with rows := [], hits := [] }
  let ns := min bound (waited + v % (bound - waited + 1))
  let c := c.advanceTo (c.now + (ns - waited))
  let c := (((c.setFld F.DRC_OP_BUSY 0 ch).setFld F.DRC_OP_CUR target ch).setFld F.DRC_OP_LAST_NS ns ch).setFld F.DRC_OP_MAX_NS
    (max ns (c.fld F.DRC_OP_MAX_NS ch)) ch
  (c.post (srcDrc ch) 0x5004 [ch, target, ns]).roundStart ch

/-- OPERATING_POINT_CHANGE (R450, R451): a write of DRCn_OP with TARGET and REQ. Ignored while BUSY or during the power-fail sequence; with a
sample window open it waits for its end. -/
def Chip.opRequest (c : Chip) (ch target : Nat) : Chip :=
  if ch ≥ 8 then c
  else
    let c := c.setFld F.DRC_OP_TARGET target ch
    if c.flag F.DRC_OP_BUSY ch || c.z.ledger.pfCommit || !c.domOn (domDc ch) then c
    else
      let c := c.setFld F.DRC_OP_BUSY 1 ch
      if (c.drc ch).window.isSome then c.modDrc ch fun d => { d with opSince := some c.now } else c.opChange ch 0 2800
def execOperatingPointChange (ch target : Nat) (s : State) : Outcome := onState (onDrc ch fun c => c.opRequest ch target) s

/-- SAMPLE_WINDOW (R448, R450, R451): the next window of the round opens, unless an RT request waits for its rank or a power-fail sequence is
committed; the next occurrence closes it. The last one ends the round; an operating-point change that waited discards the round first. -/
def execSampleWindow (ch : Nat) (s : State) : Outcome :=
  onState (onDrc ch fun c =>
    let d := c.drc ch
    if ch ≥ 8 || !d.round then c
    else match d.window with
      | none =>
        let rank := c.fld F.DRC_TRAIN_WINDOWS ch / 2
        let rt := d.queue.any fun e => e.2.master.cls == 0 && (c.reqPlace ch e.2).rank == rank
        if rt || c.z.ledger.pfCommit || c.drcStopped ch then c
        else c.modDrc ch fun d => { d with window := some (c.now + 1200), rows := d.rows.filter fun e => e.1 / 64 != rank }
      | some _ =>
        let n := c.fld F.DRC_TRAIN_WINDOWS ch + 1
        let c := (c.modDrc ch fun d => { d with window := none }).setFld F.DRC_TRAIN_WINDOWS n ch
        match d.opSince with
        | some t => (c.roundDiscard ch 0).opChange ch (min 1200 (c.now - t)) 4000
        | none =>
          if n ≥ 2 * max 1 (c.fld F.DRC_GEOM_LRANKS ch) then (c.modDrc ch fun d => { d with round := false }).addFld F.DRC_TRAIN_ROUNDS 1 ch else c) s

/-! CA parity (R452, R453) -/

/-- CA_PARITY_ALERT (R452, R453): ALERT_n stops the channel. The third alert in a row that meets a replay fails it: event 0x5006, and a device
fault (R536). -/
def execCaParityAlert (ch : Nat) (s : State) : Outcome :=
  onChip (fun c =>
    let d := c.drc ch
    if ch ≥ 8 || d.alert || !c.domOn (domDc ch) || c.flag F.DRC_PAR_FAILED ch then c
    else
      let broken := if c.now < d.replayTo then d.broken + 1 else 0
      let c := (c.addFld F.DRC_PAR_ALERTS 1 ch).modDrc ch fun d => { d with alert := true, broken := broken, replayTo := c.now + 400 }
      if broken ≥ 3 then
        let c := ((c.modDrc ch fun d => { d with alert := false }).setFld F.DRC_PAR_FAILED 1 ch).post (srcDrc ch) 0x5006 [ch, 0]
        c.deviceFault 3
      else c) s

/-- ALERT_N_RELEASE (R452): every bank is precharged and the commands issued within 128 DCLK cycles before the alert are issued again: event
0x5005 with their number. -/
def execAlertNRelease (ch : Nat) (s : State) : Outcome :=
  onState (onDrc ch fun c =>
    let d := c.drc ch
    if ch ≥ 8 || !d.alert then c
    else
      let at_ := d.replayTo - 400
      let span := if c.flag F.DRC_OP_CUR ch then 320 else 160
      let n := (d.issued.filter fun t => at_ ≤ t + span).length
      let c := c.modDrc ch fun d => { d with alert := false, rows := [], hits := [], replayTo := max d.replayTo (c.now + 1) }
      ((c.addFld F.DRC_PAR_REPLAYS 1 ch).post (srcDrc ch) 0x5005 [ch, n])) s

/-- OPEN_ROW_TIMEOUT (R443): a row opened with hint open is precharged once OPEN_NS pass without a hit. -/
def execOpenRowTimeout (ch bank : Nat) (s : State) : Outcome :=
  onChip (fun c =>
    match pget (c.drc ch).rows bank with
    | some (_, t) => (c.advanceTo (t + c.fld F.DRC_QOS_OPEN_NS ch)).modDrc ch fun d => { d with rows := pdel d.rows bank }
    | none => c) s

/-! Scrubbing (R459) -/

/-- SCRUB_READ (R459): the next burst in ascending local address is read, with what its words' decoders report: words 0 to 7 with the bits
corrected, and words that are uncorrectable. Poisoned words stay. Event 0x500C ends a lap. It stops while a power-fail sequence is committed. -/
def execScrubRead (ch : Nat) (ce : List (Nat × Nat)) (ue : List Nat) (s : State) : Outcome :=
  onState (onDrc ch fun c =>
    let d := c.drc ch
    let total := c.fld F.DRC_GEOM_CAP_GIB ch * 2 ^ 24
    if ch ≥ 8 || total = 0 || c.z.ledger.pfCommit || c.drcStopped ch then c
    else
      let w0 := addrOf ch (d.scrub * 64) / 8
      let c := if d.scrub = 0 then c.modDrc ch fun d => { d with lapAt := c.now } else c
      let bad := (List.range 8).filter fun i => ue.contains i || c.poison.contains (w0 + i)
      let c := ce.foldl (fun (c : Chip) e => if bad.contains e.1 then c else c.correctable ch (w0 + e.1 % 8) e.2) c
      let c := if bad.isEmpty then c else c.uncorrectable ch 3 (srcDrc ch) (bad.map (w0 + ·))
      let next := d.scrub + 1
      if next ≥ total then
        let lap := min 0xFFFF ((c.now - (c.drc ch).lapAt) / 1000000000)
        (((c.modDrc ch fun d => { d with scrub := 0 }).setFld F.DRC_SCRUB_PROGRESS 0 ch).setFld F.DRC_SCRUB_LAST_LAP_S lap ch).post (srcDrc ch) 0x500C [ch, lap]
      else (c.modDrc ch fun d => { d with scrub := next }).setFld F.DRC_SCRUB_PROGRESS (next * 1000 / total) ch) s

/-! Retirement commands (R460 to R464) -/

/-- A GO write of DRCn_RETCMD: ignored while BUSY; a bad OP or an address of another channel gives RESULT 2. -/
def Chip.retCmd (c : Chip) (ch op a : Nat) : Chip :=
  if ch ≥ 8 || c.flag F.DRC_RETCMD_BUSY ch then c
  else
    let c := (c.setFld F.DRC_RETCMD_OP op ch).setFld F.DRC_RETCMD_ADDR a ch
    let ok := decide (a < c.dramBytes) && chanOf a == ch
    let (c, r) := if !ok then (c, 2) else if op = 1 then c.retirePage ch a 2 [] else if op = 2 then c.retireBank ch (c.bankOfAddr ch a) else (c, 2)
    (c.setFld F.DRC_RETCMD_RESULT r ch).setFld F.DRC_RETCMD_BUSY (b2n (op = 2 && r = 0)) ch

/-- RETIRE_PAGE, RETIRE_BANK (R461 to R463): DRCn_RETCMD with OP 0b01, 0b10. -/
def execRetirePage (ch addr : Nat) (s : State) : Outcome := onChip (fun c => c.retCmd ch 1 addr) s
def execRetireBank (ch addr : Nat) (s : State) : Outcome := onChip (fun c => c.retCmd ch 2 addr) s

/-- BANK_COPY_COMPLETE (R462): the bank spare takes over, the remap entries of the bank's pages are free, event 0x500A. The copy pauses during the
power-fail sequence. -/
def execBankCopyComplete (ch : Nat) (s : State) : Outcome :=
  onChip (fun c =>
    match (c.drc ch).bank with
    | some (bank, _) =>
      if c.fld F.DRC_RET_BANK_STATE ch != 1 || c.z.ledger.pfCommit || c.drcStopped ch then c
      else
        let mine := (List.range 64).filter fun i => c.fld F.DRC_REMAP_STATE (ch * 64 + i) != 0 && c.pageInBank ch (c.fld F.DRC_REMAP_PAGE (ch * 64 + i)) bank
        let c := mine.foldl (fun (c : Chip) i => (c.setReg .drcRemap (ch * 64 + i) 0).modDrc ch fun d => { d with spares := pdel d.spares i }) c
        let c := ((c.countRemaps ch).setFld F.DRC_RET_BANK_STATE 2 ch).setFld F.DRC_RETCMD_BUSY 0 ch
        c.post (srcDrc ch) 0x500A [ch, bank / 64, bank / 32 % 2, bank % 32, 1]
    | none => c) s

/-- Pending entries of a channel become active, in order, and a pending bank is copied (R465). -/
def Chip.activatePending (c : Chip) (ch : Nat) : Chip :=
  let pend := (List.range 64).filter fun i => c.fld F.DRC_REMAP_STATE (ch * 64 + i) = 2
  let c := if c.spareOk ch then
      pend.foldl (fun (c : Chip) i =>
        match (List.range 64).find? fun k => !(c.drc ch).badSpares.contains k && !(c.drc ch).spares.any fun e => e.2 == k with
        | some k => ((c.setFld F.DRC_REMAP_STATE 1 (ch * 64 + i)).modDrc ch fun d => { d with spares := pset d.spares i k }).post (srcDrc ch) 0x5009
            [ch, c.fld F.DRC_REMAP_PAGE (ch * 64 + i), 0]
        | none => c.post (srcDrc ch) 0x500B [ch, c.fld F.DRC_REMAP_PAGE (ch * 64 + i)]) c
    else pend.foldl (fun (c : Chip) i => c.post (srcDrc ch) 0x500B [ch, c.fld F.DRC_REMAP_PAGE (ch * 64 + i)]) c
  match (c.drc ch).pendBank with
  | some b => ((c.setFld F.DRC_RET_BANK_STATE 0 ch).modDrc ch fun d => { d with pendBank := none }).retireBank ch b |>.1
  | none => c

/-- SPARE_LOCK (R460, R464, R465): BASE and SIZE_MIB are locked until the next WARM reset; pending retirements take effect. -/
def Chip.spareLock (c : Chip) (base size : Nat) : Chip :=
  if c.flag F.DRC_SPARE_LOCK then c
  else
    let c := ((c.setFld F.DRC_SPARE_BASE base).setFld F.DRC_SPARE_SIZE_MIB size).setFld F.DRC_SPARE_LOCK 1
    (List.range 8).foldl (fun c ch => c.activatePending ch) c
def execSpareLock (base size : Nat) (s : State) : Outcome := onChip (fun c => c.spareLock base size) s

/-! Self-refresh (R454) -/

/-- The channel enters self-refresh: the round is discarded (0x5003), owed refreshes are repaid, rows are closed. -/
def Chip.drcSleep (c : Chip) (ch : Nat) : Chip :=
  let c := if (c.drc ch).round then c.roundDiscard ch 1 else c
  let owed := ((c.drc ch).owed.map (·.2)).sum
  (c.addFld F.DRC_REF_POSTPONED owed ch).modDrc ch fun d => { d with owed := [], rows := [], hits := [] }

/-- The channel is back: a fresh round starts. -/
def Chip.drcWake (c : Chip) (ch : Nat) : Chip := c.roundStart ch

end Sys2Proof.Machine
end

