-- ==== Sys2Proof/Machine/Reserve.lean ====
section
/-! DEFINITION. Reservations (R69 to R71, R176). The layout of the commands and what the six types allow are the NVMe standard's (log 6). -/

namespace Sys2Proof.Machine

/-- The reservation state of a namespace; nothing registered. -/
def resvReset : Resv := ⟨0, 0, [], 0, false⟩
def Chip.resvOf (c : Chip) (n : Nat) : Resv := (pget c.z.resvs n).getD resvReset

/-- The state as the numbers of its journal record. -/
def Resv.nums (r : Resv) : List Nat :=
  [r.rtype, r.holder, r.gen, b2n r.ptpl, r.regs.length] ++ r.regs.flatMap fun g => [g.host, g.key]

/-- Every slice takes the new state, and the command completes once the record is durable (R69, R70). -/
def Chip.setResv (c : Chip) (t nsid : Nat) (r : Resv) : Chip :=
  let c := c.modZ fun z => { z with resvs := pset z.resvs nsid r }
  (c.jAppend nsid 0 (.resv nsid r.nums) [.resv t]).1

/-- A reservation command runs at the slice of its namespace's granule 0, one at a time: while an earlier one of the namespace waits for
its record, the next is held in the CLAIM state (R70). -/
def Chip.resvCmd (c : Chip) (t : Nat) (g : Ctx → Chip → Chip) : Chip :=
  c.command t fun x n c =>
    if c.scanned n then c.complete t .namespaceNotReady
    else if c.intake.tags.any fun e => e.2.kind == .reservation && e.2.st == .media && e.2.nsid == x.nsid then c
    else g x (c.modCtx t fun y => { y with st := .media, kind := .reservation })

/-- The key a host registered. -/
def Resv.keyOf (r : Resv) (h : Nat) : Option Nat := (r.regs.find? (·.host == h)).map (·.key)

/-- Whether a host holds the reservation; all registrants do for types 5 and 6. -/
def Resv.holds (r : Resv) (h : Nat) : Bool := r.rtype != 0 && (r.holder == h || (decide (r.rtype ≥ 5) && (r.keyOf h).isSome))

/-- Remove registrants; a reservation whose holder goes is released, for types 5 and 6 with the last registrant. -/
def Resv.remove (r : Resv) (p : Registrant → Bool) : Resv :=
  let regs := r.regs.filter fun g => !p g
  let lost := if r.rtype ≥ 5 then regs.isEmpty else r.regs.any fun g => p g && g.host == r.holder
  { r with regs := regs, gen := r.gen + 1, rtype := if lost then 0 else r.rtype, holder := if lost then 0 else r.holder }

/-- RESERVATION_REGISTER (R69, R70): `keys` are CRKEY and NRKEY; CDW10 bits 2:0 register, unregister, replace, bit 3 IEKEY, bits 31:30
the change of persistence. -/
def execReservationRegister (tag : Nat) (keys : List Nat) (s : State) : Outcome :=
  onChip (fun c => c.resvCmd tag fun x c =>
    let r := c.resvOf x.nsid
    let h := (c.fn x.fn).hostId
    let act := bitsOf (x.dw 10) 2 0
    let old := r.keyOf h
    let match_ := bitOf (x.dw 10) 3 || old == keys.head?
    let nk := keys.getD 1 0
    let cp := bitsOf (x.dw 10) 31 30
    let r1 := if cp = 2 then { r with ptpl := false } else if cp = 3 then { r with ptpl := true } else r
    match act, old with
    | 0, none =>
      if r.regs.length ≥ 256 then c.complete tag .reservationConflict
      else c.setResv tag x.nsid { r1 with regs := r1.regs ++ [⟨h, nk⟩], gen := r1.gen + 1 }
    | 0, some k => if k = nk then c.setResv tag x.nsid r1 else c.complete tag .reservationConflict
    | 1, some _ => if match_ then c.setResv tag x.nsid (r1.remove fun g => g.host == h) else c.complete tag .reservationConflict
    | 2, some _ =>
      if match_ then
        let put := fun (g : Registrant) => if g.host = h then { g with key := nk } else g
        c.setResv tag x.nsid { r1 with regs := r1.regs.map put, gen := r1.gen + 1 }
      else c.complete tag .reservationConflict
    | 1, none => c.complete tag .reservationConflict
    | 2, none =>
      if bitOf (x.dw 10) 3 then c.setResv tag x.nsid { r1 with regs := r1.regs ++ [⟨h, nk⟩], gen := r1.gen + 1 }
      else c.complete tag .reservationConflict
    | _, _ => c.complete tag .invalidField) s

/-- The commands of preempted hosts that name a namespace are sent abort events (R71). -/
def Chip.preempt (c : Chip) (nsid : Nat) (hosts : List Nat) : Chip :=
  let ts := c.intake.tags.filter fun e => e.2.nsid == nsid && e.2.sqid != 0 && hosts.contains (c.fn e.2.fn).hostId && !e.2.committed
  ts.foldl (fun c e => c.sendAbort (some e.1) none e.2.cid e.2.fn) c

/-- RESERVATION_ACQUIRE (R70, R71): `keys` are CRKEY and PRKEY; CDW10 bits 2:0 acquire, preempt, preempt and abort, bits 15:8 the type. -/
def execReservationAcquire (tag : Nat) (keys : List Nat) (s : State) : Outcome :=
  onChip (fun c => c.resvCmd tag fun x c =>
    let r := c.resvOf x.nsid
    let h := (c.fn x.fn).hostId
    let act := bitsOf (x.dw 10) 2 0
    let ty := bitsOf (x.dw 10) 15 8
    let pk := keys.getD 1 0
    if r.keyOf h != keys.head? || r.keyOf h = none then c.complete tag .reservationConflict
    else if ty = 0 || ty > 6 || act > 2 then c.complete tag .invalidField
    else if act = 0 then
      if r.rtype = 0 then c.setResv tag x.nsid { r with rtype := ty, holder := h }
      else if r.holds h && r.rtype = ty then c.setResv tag x.nsid r
      else c.complete tag .reservationConflict
    else
      let gone := (r.regs.filter fun g => g.key == pk && g.host != h).map (·.host)
      let holderKey := r.keyOf r.holder
      let takes := r.rtype != 0 && (holderKey == some pk || (r.rtype ≥ 5 && pk = 0))
      let all := (r.regs.filter (·.host != h)).map (·.host)
      let gone := if r.rtype ≥ 5 && pk = 0 then all else gone
      let r1 : Resv := { r with regs := r.regs.filter fun g => !gone.contains g.host, gen := r.gen + 1 }
      let r2 : Resv := if takes then { r1 with rtype := ty, holder := h } else r1
      let c := (c.fns.filter fun e => gone.contains e.2.hostId && e.2.nsids.contains x.nsid).foldl
        (fun c e => c.asyncEvent e.1 (.reservationLog x.nsid)) c
      let c := if act = 2 then c.preempt x.nsid gone else c
      c.setResv tag x.nsid r2) s

/-- RESERVATION_RELEASE (R70): `keys` is CRKEY; CDW10 bits 2:0 release or clear, bits 15:8 the type. -/
def execReservationRelease (tag : Nat) (keys : List Nat) (s : State) : Outcome :=
  onChip (fun c => c.resvCmd tag fun x c =>
    let r := c.resvOf x.nsid
    let h := (c.fn x.fn).hostId
    let act := bitsOf (x.dw 10) 2 0
    if r.keyOf h != keys.head? || r.keyOf h = none then c.complete tag .reservationConflict
    else if act = 0 then
      if r.rtype = 0 || !r.holds h then c.setResv tag x.nsid r
      else if r.rtype != bitsOf (x.dw 10) 15 8 then c.complete tag .invalidField
      else c.setResv tag x.nsid { r with rtype := 0, holder := 0 }
    else if act = 1 then c.setResv tag x.nsid { r with rtype := 0, holder := 0, regs := [], gen := r.gen + 1 }
    else c.complete tag .invalidField) s

/-- RESERVATION_REPORT (R69): generation, type, persistence, and host and key of each registrant. -/
def execReservationReport (tag : Nat) (s : State) : Outcome :=
  onChip (fun c => c.command tag fun x _ c =>
    let r := c.resvOf x.nsid
    (c.emit (.hostValues tag ([r.gen, r.rtype, r.regs.length, b2n r.ptpl] ++ r.regs.flatMap fun g =>
      [g.host, g.key, b2n (r.holds g.host)]))).complete tag .success) s

end Sys2Proof.Machine
end

