-- ==== Sys2Proof/Machine/Tenant.lean ====
section
/-! DEFINITION. Tenants, fences raised by firmware, and the migration of functions (R411 to R433). -/

namespace Sys2Proof.Machine

/-! Tenant identifiers and fences -/

/-- TENANT_FNCFG_WRITE (R411, R412, R430): TENANT while the function is disabled and has no namespace; ANY on a PF; COMPAT on such a VF in
ACTIVE. A refused tenant write records event 0x8001. -/
def execTenantFncfgWrite (fn value : Nat) (s : State) : Outcome :=
  onChip (fun c =>
    let r := c.fn fn
    let free := !r.en && r.nsids.isEmpty
    let old := c.fld F.TENANT_FNCFG_TENANT fn
    let c := if free then c.setFld F.TENANT_FNCFG_TENANT (value % 4096) fn else c.post srcTenant 0x8001 [fn, old, value % 4096]
    let c := if isPf fn then c.setFld F.TENANT_FNCFG_ANY (b2n (bitOf value 63)) fn else c
    if !isPf fn && free && r.active then c.setFld F.TENANT_FNCFG_COMPAT (b2n (bitOf value 62)) fn else c) s

/-- TENANT_NSCFG_WRITE (R411): while no controller has the namespace attached. -/
def execTenantNscfgWrite (nsid value : Nat) (s : State) : Outcome :=
  onChip (fun c =>
    if (c.attached nsid).isEmpty then c.setFld F.TENANT_NSCFG_TENANT (value % 4096) (nsid - 1)
    else c.post srcTenant 0x8001 [nsid, c.fld F.TENANT_NSCFG_TENANT (nsid - 1), value % 4096]) s

/-- A GO of TENANT_FNCMD: its fields and result. -/
def Chip.fnCmd (c : Chip) (op fn result : Nat) : Chip :=
  ((c.setFld F.TENANT_FNCMD_OP op).setFld F.TENANT_FNCMD_FN fn).setFld F.TENANT_FNCMD_RESULT result

/-- FENCE (R417): cause 0x6; a function that does not exist is an invalid field. -/
def execFence (fn : Nat) (s : State) : Outcome :=
  onChip (fun c => if c.fnExists fn then (c.fnCmd 1 fn 0).fence fn 6 else c.fnCmd 1 fn 2) s

/-- UNFENCE (R417): lifts a fence of cause 0x6 only. -/
def execUnfence (fn : Nat) (s : State) : Outcome :=
  onChip (fun c =>
    if !c.fnExists fn then c.fnCmd 2 fn 2
    else if (c.fn fn).fence = some 6 then (c.fnCmd 2 fn 0).unfence fn else c.fnCmd 2 fn 1) s

/-! Migration commands (R419 to R423) -/

/-- The status of a refused migration command (R420). -/
def reasonStatus (r : Nat) : Status :=
  if r = 3 then .functionFrozen else if r = 2 || r = 7 || r = 8 || r = 0xC then .commandSequenceError else .invalidField

/-- TENANT_MIGCMD after an operation. -/
def Chip.migCmd (c : Chip) (op tag fn reason result busy : Nat) : Chip :=
  (((((c.setFld F.TENANT_MIGCMD_OP op).setFld F.TENANT_MIGCMD_TAG tag).setFld F.TENANT_MIGCMD_FN fn).setFld F.TENANT_MIGCMD_REASON
    reason).setFld F.TENANT_MIGCMD_RESULT result).setFld F.TENANT_MIGCMD_BUSY busy

/-- A migration command is refused (R420): nothing else changes; event 0x8006. -/
def Chip.refuse (c : Chip) (op tag fn opc reason len4 : Nat) : Chip :=
  (((c.migCmd op tag fn reason 1 0).post srcTenant 0x8006 [fn, opc, reason]).addFld F.TENANT_CNT_REFUSED 1).complete tag
    (reasonStatus reason) (reason + 256 * len4)

/-- A migration command that succeeds. -/
def Chip.migDone (c : Chip) (op tag fn : Nat) : Chip := (c.migCmd op tag fn 0 0 0).complete tag .success

/-- A migration command of STATE 0x8 names its target in CDW10 bits 9:0; nothing is done while another is in progress (R419, BUSY). A
target outside the issuing PF's family is refused with reason 0x01. -/
def Chip.migration (c : Chip) (t op : Nat) (g : Ctx → Nat → Chip → Chip) : Chip :=
  c.admin t fun x c =>
    if c.flag F.TENANT_MIGCMD_BUSY then c
    else
      let f := bitsOf (x.dw 10) 9 0
      let c := c.modCtx t fun y => { y with st := .firmware, kind := .admin }
      if !isPf x.fn || isPf f || portOf f != portOf x.fn || !c.fnExists f then c.refuse op t f (sqeOpc x.sqe) 1 0
      else g x f c

/-- The function has reached FROZEN (R421): event 0x8002. -/
def Chip.reachFrozen (c : Chip) (f : Nat) : Chip :=
  let r := c.fn f
  let t := (r.freeze.map (·.1)).getD 65536
  let d := (r.freeze.map fun x => (c.now - x.2) / 1000).getD 0
  let c := (c.modFn f fun r => { r with mstate := .frozen, freeze := none }).post srcTenant 0x8002 [f, d]
  let c := c.addFld F.TENANT_CNT_FREEZES 1
  if t < 65536 then c.migDone 1 t f else c

/-- FUNCTION_FREEZE (R421, R422, R432). -/
def execFunctionFreeze (tag : Nat) (s : State) : Outcome :=
  onChip (fun c => c.migration tag 1 fun _ f c =>
    let r := c.fn f
    if r.fence.isSome then c.refuse 1 tag f 0xC6 0xC 0
    else match r.mstate with
      | .frozen | .saved => c.migDone 1 tag f
      | .restored => c.refuse 1 tag f 0xC6 2 0
      | .freezing => (c.migCmd 1 tag f 0 0 1).modFn f fun r => { r with freeze := some (tag, c.now) }
      | .active =>
        let cids := r.aers.filterMap fun t => (c.ctx t).map Ctx.cid
        let c := r.aers.foldl (fun c t => c.squash t) c
        let c := (c.migCmd 1 tag f 0 0 1).modFn f fun r => { r with
          mstate := .freezing, aers := [], aerCids := cids, freeze := some (tag, c.now) }
        if c.flag F.TENANT_FNCFG_COMPAT f then
          let c := c.squashFn f
          let one := fun (t : Nat) => (c.ctx t).map fun x => (⟨x.sqid, x.cid, x.cqid, t, r.gen⟩ : Trail)
          let trail := (c.tagsOf f fun x => x.committed).filterMap one
          (c.modFn f fun r => { r with trail := trail }).reachFrozen f
        else c) s

/-- FREEZE_DRAINED (R421): no tag of the function is in use. -/
def execFreezeDrained (fn : Nat) (s : State) : Outcome :=
  onChip (fun c => if (c.fn fn).mstate = .freezing && c.inUse fn = 0 then c.reachFrozen fn else c) s

/-- FREEZE_DRAIN_LIMIT (R422): the Freeze completes with DW0 0x10 and the tags in use; the state stays FREEZING. -/
def execFreezeDrainLimit (fn : Nat) (s : State) : Outcome :=
  onChip (fun c =>
    match (c.fn fn).freeze with
    | some (t, t0) =>
      if (c.fn fn).mstate != .freezing || t ≥ 65536 || c.inUse fn = 0 then c
      else
        let c := c.advanceTo (t0 + ms (c.clampFld F.TENANT_MIG_DRAIN_MS 1 10000))
        let n := c.inUse fn
        let c := (c.modFn fn fun r => { r with freeze := some (65536, t0) }).post srcTenant 0x8003 [fn, n]
        (c.migCmd 1 t fn 0x10 2 0).complete t .success (0x10 + n * 65536)
    | none => c) s

/-! The image (R424, R425) -/

/-- The queue identifiers of an image: 0 to the highest that exists. -/
def FnRec.nq (r : FnRec) : Nat := ((r.sqs.map (·.1)) ++ (r.cqs.map (·.1))).foldl (fun a q => max a (q + 1)) 0

/-- LEN of an image. -/
def imageLen (nq nvec nns ntrail : Nat) : Nat := 576 + 64 * nq + 16 * nvec + 256 + 64 * ((nns + 15) / 16) + 16 * ntrail + 64

/-- A mask of 1,024 vectors as 128 bytes. -/
def vecMask (l : List Nat) : List Byte := leBytes 128 (maskOf l)

/-- The queue record of a QID. -/
def FnRec.queueRec (r : FnRec) (q : Nat) : List Byte :=
  match pget r.sqs q, pget r.cqs q with
  | none, none => List.replicate 64 0
  | sq, cq =>
    let s : SqRec := sq.getD ⟨0, 0, 0, 0, 0, 0⟩
    let k : CqRec := cq.getD ⟨0, 0, 0, 0, false, false, 0, [], false⟩
    leBytes 2 q ++ leBytes 1 (b2n sq.isSome + 2 * b2n cq.isSome) ++ leBytes 1 s.prio ++ leBytes 4 s.size ++ leBytes 8 s.base
      ++ leBytes 4 s.head ++ leBytes 4 s.tail ++ leBytes 2 s.cqid ++ leBytes 2 0 ++ leBytes 4 k.size ++ leBytes 8 k.base
      ++ leBytes 4 k.tail ++ leBytes 4 k.head ++ leBytes 1 (b2n k.phase) ++ leBytes 1 (b2n k.ien) ++ leBytes 2 k.iv
      ++ leBytes 4 (mget 0 r.coal k.iv) ++ leBytes 8 0

/-- The feature identifiers of an image. -/
def imageFids : List Nat := [1, 2, 4, 7, 8, 0xB, 0xF]

/-- The kinds of pending event, by their bit in the pending event mask. -/
def eventKind : AsyncEvent → Nat
  | .invalidDoorbell => 0
  | .anaChange => 1
  | .zoneDescriptorChanged _ => 2
  | .namespaceChanged _ => 3
  | .lbaStatus _ => 4
  | .fdpEvent _ => 5
  | .criticalWarning _ => 6
  | .reservationLog _ => 7
  | .firmwareActivation => 8

/-- The event of a bit of the mask; its subject is not in the image (log 15). -/
def kindEvent (k : Nat) : AsyncEvent :=
  match k with
  | 0 => .invalidDoorbell
  | 1 => .anaChange
  | 2 => .zoneDescriptorChanged 0
  | 3 => .namespaceChanged 0
  | 4 => .lbaStatus 0
  | 5 => .fdpEvent 0
  | 6 => .criticalWarning 0
  | 7 => .reservationLog 0
  | _ => .firmwareActivation

/-- The image of a function without its MAC. -/
def Chip.imageBody (c : Chip) (f : Nat) : List Byte :=
  let r := c.fn f
  let compat := c.flag F.TENANT_FNCFG_COMPAT f
  let nq := r.nq
  let len := imageLen nq r.asg.vec r.nsids.length r.trail.length
  let head := leBytes 4 0x47465353 ++ leBytes 2 1 ++ leBytes 2 (b2n compat + 2 * b2n r.en) ++ leBytes 4 len ++ leBytes 2 f
    ++ leBytes 2 (c.fld F.TENANT_FNCFG_TENANT f) ++ leBytes 2 r.saveGen ++ leBytes 1 (if compat then r.gen else 0) ++ leBytes 1 0
    ++ leBytes 2 nq ++ leBytes 2 r.asg.vec ++ leBytes 2 r.nsids.length ++ leBytes 2 r.trail.length ++ leBytes 4 c.fuses.lotTag
    ++ leBytes 4 c.epoch ++ leBytes 28 0
  let ctrl := padTo 192 (leBytes 4 r.cc ++ leBytes 4 r.aqa ++ leBytes 8 r.asq ++ leBytes 8 r.acq ++ leBytes 4 r.intms ++ leBytes 4 r.csts)
  let feat := padTo 128 (imageFids.flatMap fun i =>
    leBytes 4 i ++ leBytes 4 (if i = 7 then (r.asg.iopq - 1) * 65537 else mget 0 r.feats i))
  let aen := leBytes 1 r.aerCids.length ++ leBytes 1 0 ++ padTo 16 (r.aerCids.flatMap (leBytes 2 ·)) ++ leBytes 6 0
    ++ leBytes 8 (maskOf (r.pendEv.map eventKind)) ++ leBytes 32 0
  let vecs := (List.range r.asg.vec).flatMap fun v =>
    let e := (pget r.msix v).getD ⟨true, 0⟩
    leBytes 12 e.addr ++ leBytes 4 (b2n e.mask)
  head ++ ctrl ++ feat ++ leBytes 16 r.hostId ++ leBytes 112 0 ++ aen ++ ((List.range nq).flatMap r.queueRec) ++ vecs
    ++ vecMask r.pba ++ vecMask r.coalDis ++ padTo (64 * ((r.nsids.length + 15) / 16)) (r.nsids.flatMap (leBytes 4 ·))
    ++ r.trail.flatMap fun t => leBytes 2 t.sqid ++ leBytes 2 t.cid ++ leBytes 2 t.cqid ++ leBytes 2 t.tag ++ leBytes 8 0

/-- The whole image, closed by its MAC (R424, R426). -/
def Chip.image (c : Chip) (f : Nat) : List Byte :=
  let b := c.imageBody f
  b ++ padTo 64 (padTo 32 (Config.hmac256 c.macKey b))

/-- FUNCTION_SAVE (R421, R424). -/
def execFunctionSave (tag : Nat) (s : State) : Outcome :=
  onChip (fun c => c.migration tag 2 fun x f c =>
    let r := c.fn f
    let len := imageLen r.nq r.asg.vec r.nsids.length r.trail.length
    if r.fence.isSome then c.refuse 2 tag f 0xC7 0xC 0
    else if r.mstate != .frozen && r.mstate != .saved then c.refuse 2 tag f 0xC7 2 0
    else if x.dw 11 < len then c.refuse 2 tag f 0xC7 4 (len / 4)
    else (((c.modFn f fun r => { r with mstate := .saved }).emit (.hostData tag 0 (c.image f))).post srcTenant 0x8004 [f, len]).migDone 2 tag f) s

/-- The checks of R427 in order: the reason of the first that fails. -/
def Chip.restoreCheck (c : Chip) (f dlen : Nat) (im : List Byte) : Option Nat :=
  let n := numAt im
  let nq := n 0x14 2
  let nvec := n 0x16 2
  let nns := n 0x18 2
  let ntr := n 0x1A 2
  let src := n 0x0C 2
  let body := im.take (dlen - 64)
  let r := c.fn f
  let sr := c.fn src
  let nsOff := 576 + 64 * nq + 16 * nvec + 256
  let list := (List.range nns).map fun i => n (nsOff + 4 * i) 4
  if n 0 4 != 0x47465353 || n 4 2 != 1 || n 8 4 != dlen || dlen != imageLen nq nvec nns ntr ||
      (im.drop (dlen - 64)).take 32 != padTo 32 (Config.hmac256 c.macKey body) then some 5
  else if n 0x1C 4 != c.fuses.lotTag || n 0x20 4 != c.epoch then some 6
  else if sr.fence.isSome then some 0xC
  else if sr.mstate != .saved || sr.saveGen != n 0x10 2 then some 7
  else if f != src && !r.active then some 3
  else if f != src && (r.en || r.rdy || r.sqs.any (·.1 != 0) || r.cqs.any (·.1 != 0) || !r.nsids.isEmpty) then some 8
  else if c.fld F.TENANT_FNCFG_TENANT f != n 0x0E 2 then some 9
  else if b2n (c.flag F.TENANT_FNCFG_COMPAT f) != n 6 2 % 2 then some 0xD
  else if r.asg.iopq + 1 < nq || r.asg.vec < nvec || r.asg.nsMax < nns then some 0xA
  else if list.any fun i => (c.ns i).isNone || c.fld F.TENANT_NSCFG_TENANT (i - 1) != n 0x0E 2 then some 0xB
  else none

/-- The record of a target with an image applied (R428). -/
def FnRec.applyImage (r : FnRec) (im : List Byte) : FnRec :=
  let n := numAt im
  let nq := n 0x14 2
  let nvec := n 0x16 2
  let qo := fun q => 576 + 64 * q
  let vo := 576 + 64 * nq
  let po := vo + 16 * nvec
  let kind := fun q => n (qo q + 2) 1
  let sq := fun q => (⟨n (qo q + 8) 8, n (qo q + 4) 4, n (qo q + 16) 4, n (qo q + 20) 4, n (qo q + 24) 2, n (qo q + 3) 1⟩ : SqRec)
  let cq := fun q => (⟨n (qo q + 0x20) 8, n (qo q + 0x1C) 4, n (qo q + 0x2C) 4, n (qo q + 0x28) 4, decide (n (qo q + 0x30) 1 = 1),
    decide (n (qo q + 0x31) 1 = 1), n (qo q + 0x32) 2, [], false⟩ : CqRec)
  let qs := List.range nq
  let cqs := (qs.filter fun q => bitOf (kind q) 1).map fun q => (q, cq q)
  let feats := (List.range 16).foldl (fun m i => if n (0x100 + 8 * i) 1 = 0 then m else pset m (n (0x100 + 8 * i) 1) (n (0x104 + 8 * i) 4)) []
  { r with
    cc := n 0x40 4, aqa := n 0x44 4, asq := n 0x48 8, acq := n 0x50 8, intms := n 0x58 4, rdy := bitOf (n 0x5C 4) 0
    shst := bitsOf (n 0x5C 4) 3 2, resetAt := none, shutdown := false, abrupt := false
    sqs := (qs.filter fun q => bitOf (kind q) 0).map fun q => (q, sq q)
    cqs := cqs
    coal := (qs.filter fun q => bitOf (kind q) 1).foldl (fun m q => mset 0 m (n (qo q + 0x32) 2) (n (qo q + 0x34) 4)) []
    msix := (List.range nvec).map fun v => (v, ⟨bitOf (n (vo + 16 * v + 12) 4) 0, n (vo + 16 * v) 12⟩)
    pba := bitsSet 1024 (n po 128), coalDis := bitsSet 1024 (n (po + 128) 128)
    feats := feats, hostId := n 0x180 16, aers := []
    aerCids := (List.range (n 0x200 1)).map fun i => n (0x202 + 2 * i) 2
    pendEv := (bitsSet 9 (n 0x218 8)).map kindEvent
    nsids := (List.range (n 0x18 2)).map fun i => n (po + 256 + 4 * i) 4
    mstate := .restored, freeze := none }

/-- FUNCTION_RESTORE (R427, R428, R431, R432): the image that was fetched is checked and applied to the target in one step; a source other
than the target goes back to ACTIVE without queues and namespaces. -/
def execFunctionRestore (tag : Nat) (image : List Byte) (s : State) : Outcome :=
  onChip (fun c => c.migration tag 3 fun x f c =>
    if (c.fn f).fence.isSome then c.refuse 3 tag f 0xC8 0xC 0
    else match c.restoreCheck f (x.dw 11) image with
      | some r => c.refuse 3 tag f 0xC8 r 0
      | none =>
        let src := numAt image 0x0C 2
        let sr := c.fn src
        let g := if c.flag F.TENANT_FNCFG_COMPAT f then (numAt image 0x12 1 + 1) % 16 else (c.fn f).gen
        let c := if src = f then c.modFn f fun r => { r.applyImage image with gen := g }
          else
            let c := c.modFn f fun r => { r.applyImage image with gen := g, trail := sr.trail, trailHeld := sr.trailHeld }
            let c := c.modFn src fun r => { r with
              mstate := .active, saveGen := (r.saveGen + 1) % 65536, sqs := [], cqs := [], nsids := [], aerCids := [], pendEv := []
              trail := [], trailHeld := [], cc := putBits r.cc 0 0 0, resetAt := some c.now, cleanReset := c.inUse src = 0 }
            if c.inUse src = 0 then c.finishReset src else c
        ((c.post srcTenant 0x8005 [src, f]).addFld F.TENANT_CNT_RESTORES 1).migDone 3 tag f) s

/-- An Asynchronous Event Request is re-armed with a saved CID (R421). -/
def Chip.rearm (c : Chip) (f cid : Nat) : Chip :=
  match c.tagPart f 0, plowest c.intake.tags 65536 0 with
  | some p, some t =>
    let x : Ctx := { ctxNew f 0 0 p c.now with sqe := (0x0C + cid * 65536) :: List.replicate 15 0, st := .firmware, kind := .admin }
    ({ c with intake := { c.intake with tags := pset c.intake.tags t x } }).modFn f fun r => { r with aers := r.aers ++ [t] }
  | _, _ => c

/-- FUNCTION_THAW (R421, R422, R432): ACTIVE, SAVE_GEN + 1; requests are re-armed, pending events and trailing completions follow. -/
def execFunctionThaw (tag : Nat) (s : State) : Outcome :=
  onChip (fun c => c.migration tag 4 fun _ f c =>
    let r := c.fn f
    if r.active then c.refuse 4 tag f 0xC9 2 0
    else
      let c := c.modFn f fun r => { r with
        mstate := .active, saveGen := (r.saveGen + 1) % 65536, aerCids := [], pendEv := [], trailHeld := [], freeze := none }
      let c := r.aerCids.foldl (fun c i => c.rearm f i) c
      let c := r.pendEv.foldl (fun c e => c.asyncEvent f e) c
      let c := (r.trailHeld.foldl (fun c h => c.postHeld f h) c).signalPending f
      (c.post srcTenant 0x8007 [f, r.mstate.code]).migDone 4 tag f) s

/-- Log page 0xC5 (R433), the family of the issuing PF, function by function. -/
def Chip.pageC5 (c : Chip) (pf : Nat) : List Byte :=
  leBytes 4 1 ++ leBytes 4 pf ++ leBytes 4 c.epoch ++ leBytes 52 0 ++ (List.range 256).flatMap fun v =>
    let f := pf * 256 + v
    let r := c.fn f
    leBytes 2 f ++ leBytes 1 r.mstate.code ++ leBytes 1 (b2n r.fence.isSome + 2 * b2n (c.flag F.TENANT_FNCFG_COMPAT f))
      ++ leBytes 1 (r.fence.getD 0) ++ leBytes 1 r.gen ++ leBytes 2 r.saveGen ++ leBytes 2 (c.inUse f) ++ leBytes 2 r.trail.length
      ++ leBytes 2 (c.fld F.TENANT_FNCFG_TENANT f) ++ leBytes 2 0

end Sys2Proof.Machine
end

