-- ==== Sys2Proof/Machine/Keys.lean ====
section
/-! DEFINITION. The key store, wrapped records, the XTS key cache, and the digest engine (R394, R396 to R410). -/

namespace Sys2Proof.Machine

/-! KEYS_CMD (R405, R406) -/

/-- A GO of KEYS_CMD: its fields and result; a refused operation records event 0x7009. -/
def Chip.keysCmd (c : Chip) (op usage ty len handle slot result : Nat) : Chip :=
  let c := ((((((c.setFld F.KEYS_CMD_OP op).setFld F.KEYS_CMD_USAGE usage).setFld F.KEYS_CMD_TYPE ty).setFld F.KEYS_CMD_LEN len).setFld
    F.KEYS_CMD_HANDLE handle).setFld F.KEYS_CMD_SLOT slot).setFld F.KEYS_CMD_RESULT result
  if result = 0 || result = 2 then c else c.post srcKeys 0x7009 [slot, result]

/-- Write a key slot. -/
def Chip.setKey (c : Chip) (s : Nat) (k : KeySlot) : Chip := { c with keys := pset c.keys s k }

/-- References held on a slot: namespaces that seal with it, commands that use a cached key (KEYS_SLOTINFO.REFCOUNT). -/
def Chip.refCount (c : Chip) (s : Nat) : Nat :=
  (c.z.nss.filter fun n => n.2.zoned && n.2.sealSlot == s).length + ((c.xts.filter (·.slot == s)).map fun k => k.refs.length).sum

/-- A USAGE that an operation may write: no reserved bit, no DEST_SRC, RESULT_OUT with LOAD only (R404, R405). -/
def usageOk (usage : Nat) (load : Bool) : Bool := decide (usage < 64) && !bitOf usage 3 && (load || !bitOf usage 2)

/-- The stage registers hold zero again. -/
def Chip.clearStage (c : Chip) : Chip := (List.range 8).foldl (fun c i => c.setReg .keysStage i 0) c

/-- The 64 bytes of the stage. -/
def Chip.stage (c : Chip) : List Byte := (List.range 8).flatMap fun i => leBytes 8 (c.reg .keysStage i)

/-- Key bytes of a LEN code. -/
def lenBytes (len : Nat) : Nat := 16 * (len + 1)

/-- KEY_LOAD (R405): slots 3 to 63. -/
def execKeyLoad (slot ty len usage : Nat) (s : State) : Outcome :=
  onChip (fun c =>
    if slot < 3 || slot > 63 then c.keysCmd 1 usage ty len 0 slot 1
    else if ty < 1 || ty > 3 || len > 3 || !usageOk usage true then c.keysCmd 1 usage ty len 0 slot 3
    else
      ((c.setKey slot ⟨ty, len, usage, 0, padTo 64 (c.stage.take (lenBytes len))⟩).clearStage).keysCmd 1 usage ty len 0 slot 0) s

/-- KEY_CLEAR (R405): slots 3 to 511 without references. -/
def execKeyClear (slot : Nat) (s : State) : Outcome :=
  onChip (fun c =>
    if slot < 3 || slot > 511 then c.keysCmd 2 0 0 0 0 slot 1
    else if c.refCount slot > 0 then c.keysCmd 2 0 0 0 0 slot 4
    else ({ c with keys := pdel c.keys slot }).keysCmd 2 0 0 0 0 slot 0) s

/-- The address of a handle's record (KEYS_WTBL, R406). -/
def Chip.recAddr (c : Chip) (handle : Nat) : Nat := c.fld F.KEYS_WTBL_BASE * 4096 + 128 * handle

/-- The initial value of a wrap: TYPE, USAGE, HANDLE, GEN. -/
def wrapIv (ty usage handle gen : Nat) : List Byte := leBytes 1 ty ++ leBytes 1 usage ++ leBytes 2 handle ++ leBytes 4 gen

/-- The wrap key in slot 1. -/
def Chip.kek (c : Chip) : List Byte := (((pget c.keys 1).map KeySlot.key).getD []).take 32

/-- A wrapped record as it lies in memory (R406). -/
def Chip.wrapRecord (c : Chip) (ty usage handle gen : Nat) (key : List Byte) : List Byte :=
  leBytes 4 0x47574B52 ++ leBytes 2 handle ++ leBytes 1 ty ++ leBytes 1 usage ++ leBytes 4 gen ++ leBytes 4 0
    ++ padTo 72 (Config.aesWrap c.kek (wrapIv ty usage handle gen) key) ++ leBytes 40 0

/-- The generation the next record of a handle takes. -/
def nextGen (s : State) (a : Nat) : Nat := if readNum s a 4 = 0x47574B52 then (readNum s (a + 8) 4 + 1) % 2 ^ 32 else 1

/-- A record of a handle, unwrapped: TYPE, USAGE and key; `none` where its integrity check fails. -/
def unwrapRecord (s : State) (handle : Nat) : Option (Nat × Nat × List Byte) :=
  let a := s.chip.recAddr handle
  let ty := readNum s (a + 6) 1
  let usage := readNum s (a + 7) 1
  if readNum s a 4 != 0x47574B52 || readNum s (a + 4) 2 != handle then none
  else (Config.aesUnwrap s.chip.kek (wrapIv ty usage handle (readNum s (a + 8) 4)) (readBytes s (a + 16) 72)).map fun k => (ty, usage, k)

/-- KEY_WRAP (R394, R405): a slot of 3 to 511; a Seal Import that waits for the record of its secret completes. -/
def execKeyWrap (slot handle : Nat) (s : State) : Outcome :=
  onState (fun s =>
    let c := s.chip
    match pget c.keys slot with
    | some k =>
      if slot < 3 || slot > 511 then { s with chip := c.keysCmd 3 0 0 0 handle slot 1 }
      else if handle > 16383 then { s with chip := c.keysCmd 3 0 0 0 0 slot 3 }
      else
        let a := c.recAddr handle
        let s := writeBytes s a (c.wrapRecord k.ty k.usage handle (nextGen s a) k.key)
        let c := c.keysCmd 3 k.usage k.ty k.len handle slot 0
        let waits := c.intake.tags.filter fun e => e.2.st == .firmware && sqeOpc e.2.sqe == 0xC1 && e.2.waiting == [slot]
        { s with chip := waits.foldl (fun c e => c.complete e.1 .success) c }
    | none => { s with chip := c.keysCmd 3 0 0 0 handle slot 1 }) s

/-- KEY_UNWRAP (R405, R406): RESULT 0x2 and event 0x700B where the record fails. -/
def execKeyUnwrap (slot handle : Nat) (s : State) : Outcome :=
  onState (fun s =>
    let c := s.chip
    if slot < 3 || slot > 511 then { s with chip := c.keysCmd 4 0 0 0 handle slot 1 }
    else if handle > 16383 then { s with chip := c.keysCmd 4 0 0 0 0 slot 3 }
    else match unwrapRecord s handle with
      | some (ty, usage, k) =>
        { s with chip := (c.setKey slot ⟨ty, 3, usage, handle, padTo 64 k⟩).keysCmd 4 usage ty 3 handle slot 0 }
      | none => { s with chip := (c.post srcKeys 0x700B [handle, 0]).keysCmd 4 0 0 0 handle slot 2 }) s

/-- Bytes from the TRNG. -/
def Chip.random : Nat → Chip → Chip × List Byte
  | 0, c => (c, [])
  | n + 1, c =>
    let (v, c) := c.take
    let (c, l) := random n c
    (c, leBytes 8 v ++ l)

/-- KEY_GENERATE (R405): a 64-byte key of the TRNG as the record of a handle. -/
def execKeyGenerate (handle ty usage : Nat) (s : State) : Outcome :=
  onState (fun s =>
    let c := s.chip
    if handle > 16383 || ty < 1 || ty > 3 || !usageOk usage false then { s with chip := c.keysCmd 5 usage ty 3 (handle % 16384) 0 3 }
    else
      let (c, k) := Chip.random 8 c
      let a := c.recAddr handle
      let s := writeBytes s a (c.wrapRecord ty usage handle (nextGen s a) k)
      { s with chip := c.keysCmd 5 usage ty 3 handle 0 0 }) s

/-- A handle is named by an enabled XTS_NSCFG. -/
def Chip.handleUsed (c : Chip) (handle : Nat) : Bool :=
  (List.range 8192).any fun k => c.flag F.XTS_NSCFG_EN k && c.fld F.XTS_NSCFG_HANDLE k == handle

/-- KEY_DROP (R405): the record is zeroed and its cached copy evicted. -/
def execKeyDrop (handle : Nat) (s : State) : Outcome :=
  onState (fun s =>
    let c := s.chip
    if handle > 16383 then { s with chip := c.keysCmd 6 0 0 0 0 0 3 }
    else if c.handleUsed handle then { s with chip := c.keysCmd 6 0 0 0 handle 0 4 }
    else
      let s := writeBytes s (c.recAddr handle) (List.replicate 128 0)
      { s with chip := ({ c with xts := c.xts.filter (·.handle != handle) }).keysCmd 6 0 0 0 handle 0 0 }) s

/-! XTS (R407, R409) -/

/-- XTS_NSCFG_WRITE (R407): only while the namespace is attached to no controller. -/
def execXtsNscfgWrite (nsid : Nat) (en : Bool) (handle : Nat) (s : State) : Outcome :=
  onChip (fun c =>
    if (c.attached nsid).isEmpty then (c.setFld F.XTS_NSCFG_EN (b2n en) (nsid - 1)).setFld F.XTS_NSCFG_HANDLE handle (nsid - 1) else c) s

/-- The cache slot a new key takes: a free one, or the least recently used without references (R409). -/
def Chip.cacheSlot (c : Chip) : Option Nat :=
  match ((List.range 512).map (512 + ·)).find? fun i => !(c.xts.any fun (k : XtsSlot) => k.slot == i) with
  | some i => some i
  | none => ((c.xts.filter (·.refs.isEmpty)).foldl (init := none) fun (best : Option XtsSlot) k =>
      match best with
      | none => some k
      | some b => if k.used < b.used then some k else some b).map (·.slot)

/-- XTS_KEY_CACHE_FILL (R409): the namespace's record is unwrapped into a cache slot and the commands that waited go on; they wait on if
every slot is referenced, and end with Internal Error if the key fails. -/
def execXtsKeyCacheFill (nsid : Nat) (s : State) : Outcome :=
  onState (fun s =>
    let c := s.chip
    let handle := c.fld F.XTS_NSCFG_HANDLE (nsid - 1)
    let waits := (c.intake.tags.filter fun e => e.2.keyWait && e.2.nsid == nsid).map (·.1)
    if !c.xtsOn nsid || (c.xts.any fun (k : XtsSlot) => k.nsid == nsid) then s
    else match unwrapRecord s handle with
      | some (ty, _, k) =>
        if ty != 1 || k.take 32 == (k.drop 32).take 32 then
          { s with chip := waits.foldl (fun c t => c.failCmd t .internalError) (c.post srcXts 0x700B [handle, nsid]) }
        else match c.cacheSlot with
          | none => { s with chip := c.addFld F.KEYS_CACHE_WAITS waits.length }
          | some i =>
            let slot : XtsSlot := ⟨i, nsid, handle, padTo 64 k, [], c.now⟩
            let c := { c with xts := slot :: c.xts.filter (·.slot != i) }
            let since := (waits.filterMap fun t => (c.ctx t).map (·.keyAt)).min?.getD c.now
            let c := c.post srcXts 0x700A [(c.now - since) / 1000]
            { s with chip := waits.foldl (fun c t => (c.modCtx t fun x => { x with keyWait := false }).letIn t) c }
      | none => { s with chip := waits.foldl (fun c t => c.failCmd t .internalError) (c.post srcXts 0x700B [handle, nsid]) }) s

/-! Digest contexts (R396 to R401) -/

/-- A context; change a context. -/
def Chip.dctx (c : Chip) (x : Nat) : Option DigestCtx := pget c.digest x
def Chip.modDctx (c : Chip) (x : Nat) (g : DigestCtx → DigestCtx) : Chip := { c with digest := pmod c.digest x g }

/-- A context just allocated. -/
def digestNew (owner : Nat) : DigestCtx where
  owner := owner
  algo := 1
  hmac := false
  keySlot := 0
  destEn := false
  destSlot := 0
  destUsage := 0
  declLen := 0
  running := false
  msg := []
  buf := 0
  final := false
  done := false
  trunc := false
  short := false
  overrun := false
  err := 0
  result := []

/-- DIGEST_ALLOCATE (R397): the lowest free context, or NO_CONTEXT with event 0x7007. -/
def execDigestAllocate (core : Nat) (s : State) : Outcome :=
  onChip (fun c =>
    match plowest c.digest 16 0 with
    | some x => ((({ c with digest := pset c.digest x (digestNew core) }).setFld F.DIGEST_ALLOC_VALID 1 core).setFld
        F.DIGEST_ALLOC_NO_CONTEXT 0 core).setFld F.DIGEST_ALLOC_CTX x core
    | none => (((c.setFld F.DIGEST_ALLOC_VALID 0 core).setFld F.DIGEST_ALLOC_NO_CONTEXT 1 core).post srcDigest 0x7007 [core])) s

/-- The cause of R400 for which an HMAC context is refused; 0 is none. -/
def Chip.hmacCause (c : Chip) (d : DigestCtx) : Nat :=
  match pget c.keys d.keySlot with
  | none => 1
  | some k =>
    if !bitOf k.usage 1 then 2 else if d.algo = 3 || d.algo = 4 then 3 else if !bitOf k.usage 2 && !d.destEn then 4 else 0

/-- DRAM or SB holds the bytes of a range (R32, R33). -/
def Chip.mastersMay (c : Chip) (a n : Nat) : Bool :=
  decide (a + n ≤ c.fuses.dramGib * 2 ^ 30) || decide (0x010000000000 ≤ a ∧ a + n ≤ 0x010010000000)

/-- DIGEST_START (R398, R400): the holder writes DIGEST_CTL with START; input from memory is taken at once. A source outside memory ends
the context without DONE, event 0x9017 (R33, R458). -/
def execDigestStart (core x ctl : Nat) (s : State) : Outcome :=
  onState (fun s =>
    match s.chip.dctx x with
    | none => s
    | some d0 =>
      if d0.owner != core then s
      else
        let c := s.chip.setReg .digestCtl x (putBits ctl 63 61 0)
        let d : DigestCtx := { digestNew core with
          algo := c.fld F.DIGEST_CTL_ALGO x, hmac := c.flag F.DIGEST_CTL_HMAC x, keySlot := c.fld F.DIGEST_CTL_KEY_SLOT x
          destEn := c.flag F.DIGEST_CTL_DEST_EN x, destSlot := c.fld F.DIGEST_CTL_DEST_SLOT x, destUsage := c.fld F.DIGEST_CTL_DEST_USAGE x
          declLen := c.fld F.DIGEST_LEN_DECL_LEN x, running := true }
        let cause := if d.hmac then c.hmacCause d else 0
        if cause != 0 then
          { s with chip := ({ c with digest := pset c.digest x { d with running := false, err := cause } }).post srcDigest 0x7009 [d.keySlot, cause] }
        else if c.flag F.DIGEST_CTL_SRC_DMA x && d.declLen > 0 then
          let a := c.fld F.DIGEST_SRC_ADDR x
          if c.mastersMay a d.declLen then
            { s with chip := { c with digest := pset c.digest x { d with msg := readBytes s a d.declLen, final := true } } }
          else { s with chip := ({ c with digest := pset c.digest x { d with running := false } }).post srcSys 0x9017 [srcDigest, a] }
        else { s with chip := { c with digest := pset c.digest x d } }) s

/-- Event 0x7008 with its flag: 1 TRUNC, 2 SHORT, 3 OVERRUN. -/
def Chip.digestFlag (c : Chip) (x k : Nat) : Chip :=
  (c.modDctx x fun d => { d with trunc := d.trunc || k = 1, short := d.short || k = 2, overrun := d.overrun || k = 3 }).post srcDigest 0x7008 [x, k]

/-- DIGEST_DATA (R398, R399): eight bytes, byte 0 from bits 7:0, cut at DECL_LEN. -/
def execDigestData (core x word : Nat) (s : State) : Outcome :=
  onChip (fun c =>
    match c.dctx x with
    | none => c
    | some d =>
      if d.owner != core || !(d.running || d.done) then c
      else if d.declLen > 0 && d.msg.length ≥ d.declLen then c.digestFlag x 1
      else if d.final || d.done then c
      else if d.buf ≥ 128 then c.digestFlag x 3
      else
        let new := if d.declLen > 0 then (leBytes 8 word).take (d.declLen - d.msg.length) else leBytes 8 word
        let msg := d.msg ++ new
        c.modDctx x fun d => { d with msg := msg, buf := d.buf + 8, final := decide (d.declLen > 0 ∧ msg.length ≥ d.declLen) }) s

/-- DIGEST_FINAL (R399): ignored after DONE. -/
def execDigestFinal (core x : Nat) (s : State) : Outcome :=
  onChip (fun c =>
    match c.dctx x with
    | none => c
    | some d =>
      if d.owner != core || !d.running || d.done || d.final then c
      else
        let c := if d.declLen > 0 && d.msg.length < d.declLen then c.digestFlag x 2 else c
        c.modDctx x fun d => { d with final := true }) s

/-- A context is zeroed and freed (R397). -/
def Chip.releaseDigest (c : Chip) (x : Nat) : Chip :=
  [RegId.digestCtl, .digestLen, .digestSrc].foldl (fun c r => c.setReg r x (regReset r x)) { c with digest := pdel c.digest x }

/-- DIGEST_RELEASE (R397). -/
def execDigestRelease (core x : Nat) (s : State) : Outcome :=
  onChip (fun c => if (c.dctx x).any fun d => d.owner == core then c.releaseDigest x else c) s

/-- Bytes of a digest (R396). -/
def digestLen (algo : Nat) : Nat := if algo = 2 || algo = 4 then 64 else 32

/-- The result of a message (R399, R400). -/
def Chip.digestOf (c : Chip) (d : DigestCtx) : List Byte :=
  let k := ((pget c.keys d.keySlot).map fun k => k.key.take (lenBytes k.len)).getD []
  padTo (digestLen d.algo) (if d.hmac then Config.hmacAlg d.algo k d.msg else Config.hashFn d.algo d.msg)

/-- DIGEST_DONE (R399, R401): the result goes to the register, or to key slot DEST_SLOT. -/
def execDigestDone (x : Nat) (s : State) : Outcome :=
  onChip (fun c =>
    match c.dctx x with
    | none => c
    | some d =>
      if !d.final || d.done || !d.running then c
      else
        let v := c.digestOf d
        let ends := fun (e : DigestCtx) => { e with running := false, done := true, buf := 0 }
        if !d.destEn then c.modDctx x fun e => ends { e with result := v }
        else
          let xts := bitOf d.destUsage 0
          let bad := if d.destSlot < 3 || d.destSlot > 63 || (xts && digestLen d.algo != 64) then 5
            else if !usageOk d.destUsage false then 2 else 0
          if bad != 0 then
            (c.modDctx x fun e => { e with running := false, err := bad }).post srcDigest 0x7009 [d.destSlot, bad]
          else
            (c.setKey d.destSlot ⟨if xts then 1 else 2, if digestLen d.algo = 64 then 3 else 1, d.destUsage, 0, padTo 64 v⟩).modDctx x ends) s

/-- The cores take the input that waits in the buffers of contexts (log 16). -/
def Chip.drainDigest (c : Chip) : Chip := { c with digest := c.digest.map fun e => (e.1, { e.2 with buf := 0 }) }

/-! Seal commands (R389 to R394) -/

/-- A bit of zones of a namespace that a Seal Query names. -/
def Chip.queryZones (n : NsRec) (first nz : Nat) : List Nat := (List.range nz).map (n.zbase + first + ·)

/-- SEAL_QUERY (R387, R389): the query range is set; with ACTION 0x1 each full zone with a stored seal is verified first. -/
def execSealQuery (tag : Nat) (s : State) : Outcome :=
  onChip (fun c => c.admin tag fun x c =>
    let first := x.dw 10
    let nz := bitsOf (x.dw 11) 15 0
    let act := bitsOf (x.dw 11) 19 16
    match c.ns x.nsid with
    | none => c.complete tag .invalidNamespaceOrFormat
    | some n =>
      if !n.zoned then c.complete tag .invalidNamespaceOrFormat
      else if act > 1 || nz < 1 || nz > (if act = 1 then 16 else 1024) || first + nz > n.zoneCount then c.complete tag .invalidField
      else
        let gs := Chip.queryZones n first nz
        let lost := gs.any fun g => (c.zone g).st == .zsro && !(c.zone g).lostRows.isEmpty
        let todo := if act = 1 then gs.filter fun g => (c.zone g).st == .zsf && decide ((c.zone g).sealState ≥ 2) else []
        let c := c.modFn x.fn fun r => { r with query := some ⟨x.nsid, first, nz, act = 1⟩ }
        let c := c.modCtx tag fun y => { y with
          st := .firmware, kind := .admin, status := if lost then .rowLost else .success, dw0 := nz, waiting := todo }
        if todo.isEmpty then c.queryCheck tag else todo.foldl (fun c g => c.startJob g 1 (some tag)) c) s

/-- SEAL_IMPORT (R385, R393): ACTION 0x0: every entry is checked, then compared; matching zones take SEAL_STATE 0x5. It completes after a
checkpoint pass with the zone table. -/
def execSealImport (tag : Nat) (data : List Byte) (s : State) : Outcome :=
  onChip (fun c => c.admin tag fun x c =>
    let act := bitsOf (x.dw 10) 3 0
    let ne := bitsOf (x.dw 11) 15 0
    let es := (List.range ne).map fun i => (numAt data (64 * i) 8, numAt data (64 * i + 8) 8, (data.drop (64 * i + 16)).take 32,
      numAt data (64 * i + 48) 16)
    match c.ns x.nsid with
    | none => c.complete tag .invalidNamespaceOrFormat
    | some n =>
      if act = 1 then c
      else if act > 1 || ne < 1 || ne > 1024 || !n.zoned || es.any fun e => decide (e.1 % 0x80000 ≠ 0 ∨ e.1 ≥ n.size) then
        c.complete tag .invalidField
      else if c.resvConflict x.fn x.nsid true then c.complete tag .reservationConflict
      else if es.any fun e => (c.zone (n.zoneOf e.1)).st != .zsf || (c.zone (n.zoneOf e.1)).sealState < 2 then
        c.complete tag .commandSequenceError
      else
        let good := fun (e : Nat × Nat × List Byte × Nat) =>
          let z := c.zone (n.zoneOf e.1)
          z.sealState != 4 && z.wpOff == e.2.1 && z.label == e.2.2.2 && padTo 32 z.sealVal == padTo 32 e.2.2.1
        let bad := (es.zipIdx.filter fun e => !good e.1)
        let c := (es.filter good).foldl (fun c e => c.modZone (n.zoneOf e.1) fun z => { z with sealState := 5 }) c
        let c := c.post srcDigest 0x7004 [x.nsid, es.length - bad.length]
        let c := bad.foldl (fun c e => c.post srcDigest 0x7005 [x.nsid, e.1.1 / 0x80000]) c
        let st := if bad.isEmpty then Status.success else .sealMismatch
        let dw := match bad with
          | [] => 0
          | b :: _ => bad.length + b.2 * 65536
        let c := (c.modCtx tag fun y => { y with st := .firmware, kind := .admin }).touch segZones
        (c.modZ fun z => { z with imports := z.imports ++ [(z.pass + 1, tag, st, dw)] }).startPass) s

/-- SEAL_SECRET_INSTALL (R380, R394): ACTION 0x1: the key derived from the host's secret goes into the lowest free slot from 64 to 511;
the command completes once the slot's record is wrapped. -/
def execSealSecretInstall (tag : Nat) (secret : List Byte) (s : State) : Outcome :=
  onChip (fun c => c.admin tag fun x c =>
    match c.ns x.nsid with
    | none => c.complete tag .invalidNamespaceOrFormat
    | some n =>
      if bitsOf (x.dw 10) 3 0 != 1 then c
      else if !n.zoned then c.complete tag .invalidNamespaceOrFormat
      else if bitsOf (x.dw 11) 15 0 != 0 then c.complete tag .invalidField
      else if c.resvConflict x.fn x.nsid true then c.complete tag .reservationConflict
      else if c.z.zones.any fun z => z.2.nsid == x.nsid && z.2.st != .zse then c.complete tag .commandSequenceError
      else match ((List.range 448).map (64 + ·)).find? fun i => (pget c.keys i).isNone with
        | none => c.complete tag .nsInsufficientCapacity
        | some slot =>
          let k := padTo 64 (padTo 32 (Config.hmac256 (padTo 32 secret) (asciiBytes "GW-ZONE-SEAL-V1")))
          let c := if n.sealSlot ≥ 64 then { c with keys := pdel c.keys n.sealSlot } else c
          let c := (c.setKey slot ⟨2, 1, 16, 0, k⟩).modZ fun z => { z with nss := pmod z.nss x.nsid fun n => { n with sealSlot := slot } }
          (c.post srcKeys 0x7006 [x.nsid, slot]).modCtx tag fun y => { y with st := .firmware, kind := .admin, waiting := [slot] }) s

/-- NAMESPACE_CREATE (R123 to R126, R129): the host's structure gives size, LBA format with extended LBAs, ANA group and placement
handles; a zoned namespace is CSI 2 in CDW11 bits 31:24 (log 6). The NSID is DW0. -/
def execNamespaceCreate (tag size fmt : Nat) (ext : Bool) (group : Nat) (handles : List Nat) (s : State) : Outcome :=
  onChip (fun c => c.admin tag fun x c =>
    match c.createNs (bitsOf (x.dw 11) 31 24 = 2) size fmt ext group handles with
    | .error st => c.complete tag st
    | .ok (c, i) => c.complete tag .success i) s

/-- NAMESPACE_DELETE (R124, R429): not while it is attached to a function that migrates. -/
def execNamespaceDelete (tag : Nat) (s : State) : Outcome :=
  onChip (fun c => c.admin tag fun x c =>
    if (c.ns x.nsid).isNone then c.complete tag .invalidNamespaceOrFormat
    else if (c.attached x.nsid).any fun f => !(c.fn f).active then c.complete tag .functionFrozen
    else (c.deleteNs x.nsid).complete tag .success) s

end Sys2Proof.Machine
end

