-- ==== Sys2Proof/Machine/Power.lean ====
section
/-! DEFINITION. Power domains (R492 to R510): arming, the commit by WFI, entry, wake sources, the return with its retention check. -/

namespace Sys2Proof.Machine

/-! Arming (R495) -/

/-- Whether a domain may be armed with a value of ARM (R493, R495). -/
def Chip.armAllowed (c : Chip) (d arm : Nat) : Bool :=
  if d = 0 then arm = 0
  else if c.domFused d then false
  else arm ≤ 1 || (arm = 2 && (d ≤ 4 || decide (19 ≤ d ∧ d ≤ 30) || d = domXa))

/-- A write of ARM, OWNER and WAKEEN of one domain. -/
def Chip.armOne (arm owner wakeen : Nat) (c : Chip) (d : Nat) : Chip :=
  let c := (c.setFld F.PWR_DOM_OWNER owner d).setFld F.PWR_DOM_WAKEEN wakeen d
  if c.armAllowed d arm then c.setFld F.PWR_DOM_ARM arm d
  else (c.setFld F.PWR_DOM_REFUSE 4 d).post srcPwr 0x6006 [d, arm]

/-- A write of PWR_DOMd (R495, R506): either domain of a merged pair sets both. -/
def Chip.arm (c : Chip) (d arm owner wakeen : Nat) : Chip := (c.domPair d).foldl (Chip.armOne arm owner wakeen) c

/-- DOMAIN_ARM (R495, R506). -/
def execDomainArm (dom arm owner wakeen : Nat) (s : State) : Outcome :=
  onChip (fun c => if dom ≤ 32 then c.arm dom (arm % 4) (owner % 16) (wakeen % 256) else c) s

/-! Commit (R493, R494, R496, R497, R507) -/

/-- Committed zoned data no seal chain has absorbed, in bytes (DIGEST_SEALSTAT.BACKLOG_MIB). -/
def Chip.sealBacklog (c : Chip) : Nat :=
  (c.z.zones.map fun e => if e.2.st.isActive then 4096 * (c.committedEnd e.1 e.2 - c.absorbed e.1) else 0).sum

/-- A domain is in use and may not leave On (R493, R494). -/
def Chip.domInUse (c : Chip) (d target : Nat) : Bool :=
  if d ≤ 4 then
    let p := c.lead (d - 1)
    !((c.port p).perst || c.flag F.HP_CTL_LINK_DIS p) || (c.linkFns (d - 1)).any fun f => c.inUse f > 0
  else if d ≤ 10 then
    let mine := fun (die : Nat) => memberOf die / 6 == d - 5
    ((List.range 6).any fun i => let st := c.linkState (6 * (d - 5) + i); c.portIn (6 * (d - 5) + i) && st != 0 && st != 7)
      || c.m.rds.any (fun (e : Nat × Rd) => mine e.2.at_.die) || c.m.ops.any (fun (e : Nat × Op) => mine e.2.die)
      || c.m.dies.any fun (e : Nat × Die) => mine e.1 && e.2.susp.isSome
  else if d ≤ 18 then !(c.drc (d - 11)).queue.isEmpty
  else if d ≤ 22 then false
  else if d ≤ 30 then c.z.parts.any fun (e : Nat × Part) => !e.2.sbFreed
  else if d = domMx then
    !c.intake.tags.isEmpty || c.slices.any (fun e => !e.2.claims.isEmpty) || !c.z.ledger.charges.isEmpty || !c.z.ledger.resv.isEmpty
      || !c.z.journal.flying.isEmpty || !c.z.journal.opened.isEmpty || !c.m.victims.isEmpty || !c.m.folds.isEmpty || !c.m.jobs.isEmpty
      || c.flag F.PATROL_SCAN_ACTIVE || !c.z.passSegs.isEmpty || !c.m.ops.isEmpty || !c.m.rds.isEmpty
  else
    !c.digest.isEmpty || !c.z.lanes.isEmpty || decide (c.sealBacklog ≥ 2 ^ 20) || c.xts.any (fun (k : XtsSlot) => !k.refs.isEmpty)
      || (target == 2 && c.keys.any fun e => decide (3 ≤ e.1 ∧ e.1 ≤ 511))

/-- REFUSE of a domain at a commit by a core: 0 passes, 1 IN_USE, 2 WAKE_AT_ENTRY, 3 SIBLING, 4 NOT_ALLOWED (R496, R507). -/
def Chip.refuseCode (c : Chip) (core d : Nat) : Nat :=
  let cluster := decide (19 ≤ d ∧ d ≤ 22)
  if cluster && core / 4 != d - 19 then 4
  else if cluster && !((List.range 4).all fun i => let k := 4 * (d - 19) + i; k == core || c.pwr.wfi.contains k) then 3
  else if c.domInUse d (c.fld F.PWR_DOM_ARM d) then 1
  else if c.waking d != 0 then 2
  else 0

/-- A refused commit (R496, R497): each domain its cause, the others GROUP; ARM cleared; event 0x6004. -/
def Chip.commitRefused (core : Nat) (codes : List (Nat × Nat)) (c : Chip) : Chip :=
  let c := c.addFld F.PWR_CNT_REFUSED 1
  codes.foldl (fun c x =>
    let code := if x.2 = 0 then 5 else x.2
    let c := (c.setFld F.PWR_DOM_REFUSE code x.1).setFld F.PWR_DOM_ARM 0 x.1
    let c := if code = 2 then c.setFld F.PWR_DOM_WAKE_AT_ENTRY 1 x.1 else c
    c.post srcPwr 0x6004 [core, x.1, code]) c

/-- An accepted commit (R496, R499): the entry window opens, each domain enters the state it was armed for. -/
def Chip.commitAccepted (ds : List Nat) (c : Chip) : Chip :=
  let c := (c.setFld F.PWR_CNT_ENTRIES ((c.fld F.PWR_CNT_ENTRIES + 1) % 2 ^ 32)).modPwr fun p => { p with commitAt := some c.now }
  ds.foldl (fun c d =>
    let target := c.fld F.PWR_DOM_ARM d
    (((c.setFld F.PWR_DOM_ARM 0 d).setFld F.PWR_DOM_REFUSE 0 d).setFld F.PWR_DOM_STATE 3 d).modPwr fun p => { p with
      entry := pset p.entry d (c.now, target) }) c

/-- WFI (R496, R497, R507): the domains armed with this core as owner are committed as one; a refused commit falls through. -/
def execWfi (core : Nat) (s : State) : Outcome :=
  onChip (fun c =>
    if core ≥ 16 then c
    else
      let ds := (List.range 33).filter fun d => c.fld F.PWR_DOM_ARM d != 0 && c.fld F.PWR_DOM_OWNER d == core && c.domOn d
      let codes := ds.map fun d => (d, c.refuseCode core d)
      if codes.any fun x => x.2 != 0 then c.commitRefused core codes
      else
        let c := if ds.isEmpty then c else c.commitAccepted ds
        c.modPwr fun p => { p with wfi := if p.wfi.contains core then p.wfi else core :: p.wfi }) s

/-! Entry and wake (R492, R498 to R501) -/

/-- A committed domain has reached its state: event 0x6002; a source that became active meanwhile wakes it at once (R499). -/
def Chip.entered (c : Chip) (d : Nat) : Chip :=
  match pget c.pwr.entry d with
  | some (_, target) =>
    let c := (((c.modPwr fun p => { p with entry := pdel p.entry d }).setFld F.PWR_DOM_STATE target d).post srcPwr 0x6002 [d, target])
    let c := if 11 ≤ d ∧ d ≤ 18 then c.drcSleep (d - 11) else c
    if c.waking d = 0 then c else c.wake d (c.waking d)
  | none => c

/-- DOMAIN_ENTRY_COMPLETE (R492, R499, R511). -/
def execDomainEntryComplete (dom : Nat) (s : State) : Outcome := onChip (fun c => c.entered dom) s

/-- WAKE_EDGE (R499, R501): source 5 PERST, 6 LINK or 7 MI. -/
def execWakeEdge (source : Nat) (s : State) : Outcome := onChip (fun c => if 5 ≤ source ∧ source ≤ 7 then c.edge source else c) s

/-- WAKE_LEVEL (R498, R501): a level source 1 DEMAND, 2 FW_IRQ or 3 THERM becomes active for a domain; FW_IRQ is for CC domains only. -/
def execWakeLevel (dom source : Nat) (s : State) : Outcome :=
  onChip (fun c =>
    if dom ≤ 32 && (source = 1 || source = 3 || (source = 2 && 19 ≤ dom && dom ≤ 22)) then
      (c.modPwr fun p => { p with levels := if p.levels.contains (dom, source) then p.levels else (dom, source) :: p.levels }).wakeAll
    else c) s

/-- A write of 1 to PWR_DOMd.WAKE (R501). -/
def Chip.domWake (c : Chip) (d : Nat) : Chip :=
  if c.domFused d then c
  else (c.domPair d).foldl (fun c x => (c.entered x).wakeOne x) c

/-- DOMAIN_WAKE (R501). -/
def execDomainWake (dom : Nat) (s : State) : Outcome := onChip (fun c => if dom ≤ 32 then c.domWake dom else c) s

/-- PWR_TIMER as it reads: COUNT falls by one each SCLK tick while EN is 1 (R498, R511). -/
def Chip.timerCount (c : Chip) : Nat :=
  if c.flag F.PWR_TIMER_EN then c.fld F.PWR_TIMER_COUNT - (c.now - c.pwr.timerAt) / 30518 else c.fld F.PWR_TIMER_COUNT

/-- PWR_TIMER_EXPIRY (R498): COUNT reaches 0: the TIMER source is active. -/
def execPwrTimerExpiry (s : State) : Outcome :=
  onChip (fun c =>
    if c.flag F.PWR_TIMER_EN then
      let c := c.advanceTo (c.pwr.timerAt + c.fld F.PWR_TIMER_COUNT * 30518)
      ((c.setFld F.PWR_TIMER_COUNT 0).setFld F.PWR_TIMER_EXPIRED 1).wakeAll
    else c) s

/-! The return (R493, R501, R504 to R510) -/

/-- Address of a register (R35). -/
def regAddr (r : RegId) (i : Nat) : Nat :=
  let p := regPlace r
  p.base + i / p.count2 * p.stride1 + i % p.count2 * p.stride2

/-- Registers of an address range at their reset values. -/
def Chip.resetRange (c : Chip) (lo hi : Nat) : Chip :=
  { c with regs := c.regs.filter fun e => !((allRegs[e.1 / 65536]?).any fun (r : RegId) =>
      !(regPlace r).hostOnly && decide (lo ≤ regAddr r (e.1 % 65536) ∧ regAddr r (e.1 % 65536) < hi)) }

/-- A core starts at an entry; a retired one stays halted (R540, R548). -/
def Chip.startCore (c : Chip) (n entry : Nat) : Chip :=
  if bitOf (c.fld F.SYS_LOCKSTEP_RETIRED) n then c
  else
    let old := (pget c.sys.cores n).getD ⟨false, 0, [], 0⟩
    (((c.modSys fun y => { y with cores := pset y.cores n { old with running := true, entry := entry, kickAt := c.now } }).modPwr fun p => { p with
      wfi := p.wfi.filter (· != n) })).emit (.coreStart n entry)

/-- The cores of a cluster start at the warm entry of the running image (R505, R507). -/
def Chip.startCluster (c : Chip) (k : Nat) : Chip :=
  let entry := (c.sys.running.map Running.warm).getD 0
  (List.range 4).foldl (fun c i => c.startCore (4 * k + i) entry) c

/-- KEYS and the engines as after a return of XA from Off: slots 0 to 2 only (R505, R510). -/
def Chip.keysCleared (c : Chip) : Chip := { c with keys := bootKeys, xts := [] }

/-- The retention bank of a domain: its bit of PWR_RETSTAT and its range of memory (R504). -/
def retBank (d : Nat) : Option (Nat × Nat × Nat) :=
  if 23 ≤ d ∧ d ≤ 30 then some (d - 23, 0x10000000000 + (d - 23) * 2 ^ 25, 2 ^ 25)
  else if 19 ≤ d ∧ d ≤ 22 then some (8 + (d - 19), 0xE100000000 + (d - 19) * 2 ^ 23, 2 ^ 23)
  else if d = domMx then some (12, 0, 0)
  else if d = domXa then some (13, 0, 0)
  else none

/-- Memory with a range zeroed. -/
def zeroRange (s : State) (lo n : Nat) : State := { s with mem := s.mem.filter fun e => !decide (lo ≤ e.1 ∧ e.1 < lo + n) }

/-- A lost bank (R504, R505): its bit, RET_LOST, event 0x6005 with the cause, 0 ECC or 1 canary, and its effects. -/
def Chip.bankLost (c : Chip) (d bit cause bits : Nat) : Chip :=
  let c := ((c.setReg .pwrRetstat 0 (maskOf (bit :: bitsSet 64 (c.reg .pwrRetstat 0)))).setFld F.PWR_DOM_RET_LOST 1 d).post srcPwr 0x6005
    [bit, cause, bits]
  if bit = 13 then c.keysCleared else if 8 ≤ bit ∧ bit ≤ 11 then c.startCluster (bit - 8) else c

/-- What a domain that was Off comes back with (R492, R507, R510). -/
def Chip.fromOff (c : Chip) (d : Nat) : Chip :=
  if 1 ≤ d ∧ d ≤ 4 then
    let c := c.resetRange (0xF000200000 + (d - 1) * 0x40000) (0xF000240000 + (d - 1) * 0x40000)
    let c := c.modPort (d - 1) fun x => { x with secure := [], insecure := [] }
    { c with intake := { c.intake with atc := c.intake.atc.filter fun e => e.1 != d - 1 } }
  else if 19 ≤ d ∧ d ≤ 22 then c.startCluster (d - 19)
  else if d = domXa then ({ c.resetRange 0xF001B00000 0xF001D00000 with digest := [] }).keysCleared
  else c

/-- What follows once a domain is On (R454, R501, R507, R509). -/
def Chip.afterOn (c : Chip) (d : Nat) : Chip :=
  if 1 ≤ d ∧ d ≤ 4 then c.train (d - 1)
  else if 11 ≤ d ∧ d ≤ 18 then c.drcWake (d - 11)
  else if 19 ≤ d ∧ d ≤ 22 then c.modPwr fun p => { p with wfi := p.wfi.filter fun k => k / 4 != d - 19 }
  else if d = domMx && decide (c.now ≥ c.z.lastPassAt + seconds (max 5 (c.fld F.ZMAP_CKPT_PERIOD_S))) then c.startPass
  else c

/-- DOMAIN_EXIT_COMPLETE (R501, R504 to R510): the domain is On. Of a return from Retention the check reports the words and bits it corrected, and
the cause, 0 ECC or 1 canary, where the bank is lost. Event 0x6003. -/
def exitDone (d words bits : Nat) (lost : Option Nat) (s : State) : State :=
  match pget s.chip.pwr.exits d with
  | none => s
  | some (since, was) =>
    let c := (s.chip.setFld F.PWR_DOM_STATE 0 d).modPwr fun p => { p with
      exits := pdel p.exits d, levels := p.levels.filter (· != (d, 1)) }
    let c := c.post srcPwr 0x6003 [d, c.fld F.PWR_DOM_WAKE_CAUSE d, (c.now - since) / 1000]
    let (lo, n) := ((retBank d).map fun x => x.2).getD (0, 0)
    let (s, c) := match retBank d, lost with
      | some x, some cause =>
        if was = 1 then (zeroRange s lo n, (c.setFld F.PWR_RETSTAT_CORRECTED (min words 65535)).bankLost d x.1 cause bits) else (s, c)
      | some _, none => (s, if was = 1 then c.setFld F.PWR_RETSTAT_CORRECTED (min words 65535) else c)
      | none, _ => (s, c)
    let (s, c) := if was = 2 then (zeroRange s lo n, c.fromOff d) else (s, c)
    let s := flushWrites { s with chip := c.afterOn d }
    if 11 ≤ d ∧ d ≤ 18 then onDrc (d - 11) id s else s

def execDomainExitComplete (dom words bits : Nat) (lost : Option Nat) (s : State) : Outcome := onState (exitDone dom words bits lost) s

end Sys2Proof.Machine
end

