-- ==== Sys2Proof/Machine/Boot.lean ====
section
/-! DEFINITION. Images, boot records and the boot sequence of the ROM (R284, R289, R435 to R437, R447, R465, R537 to R542). -/

namespace Sys2Proof.Machine

/-! Images (R538, R539) -/

/-- A section of an image: TYPE, OFFSET, LEN, LOAD. -/
structure Sect where
  ty   : Nat
  off  : Nat
  len  : Nat
  load : Nat
  deriving DecidableEq, Repr

/-- The sections an image lists. -/
def imageSects (b : List Byte) : List Sect :=
  (List.range (min 8 (numAt b 0x24 2))).map fun i =>
    let o := 0x40 + 16 * i
    ⟨numAt b o 1, numAt b (o + 4) 4, numAt b (o + 8) 4, numAt b (o + 12) 4⟩

/-- The bytes of a section. -/
def sectBytes (b : List Byte) (x : Sect) : List Byte := (b.drop x.off).take x.len

/-- The checks of R539 in their order, and the first that fails: 1 form and section bounds, 2 vendor key, 3 signature, 4 SVN. -/
def Chip.imageFails (c : Chip) (b : List Byte) : Option Nat :=
  let len := numAt b 8 4
  let n := numAt b 0x24 2
  let xs := imageSects b
  let once := fun (t : Nat) => (xs.filter fun x => x.ty == t).length = 1
  let form := decide (numAt b 0 4 = 0x47574657 ∧ numAt b 4 2 = 1 ∧ 0xAE0 + 4627 ≤ len ∧ len ≤ 0x400000 ∧ len ≤ b.length ∧ 1 ≤ n ∧ n ≤ 8)
    && xs.all (fun x => decide (1 ≤ x.ty ∧ x.ty ≤ 3 ∧ x.off + x.len ≤ len - 4627 ∧ (x.ty = 1 → x.load + x.len ≤ 0x200000)))
    && decide (once 2) && decide (once 3)
  let key := (b.drop 0xC0).take 2592
  if !form then some 1
  else if Config.hashFn 2 key != Config.vendorKeyHash then some 2
  else if !Config.sigOk key (b.take (len - 4627)) ((b.drop (len - 4627)).take 4627) then some 3
  else if numAt b 0xC 4 < c.fuses.svn then some 4
  else none

/-- What the part keeps of the image it runs. -/
def runningOf (slot : Nat) (b : List Byte) : Running :=
  ⟨slot, numAt b 0xC 4, bitOf (numAt b 6 2) 0, numAt b 0x18 4, numAt b 0x1C 4, numAt b 0x20 4, (b.drop 0x10).take 8⟩

/-- The bytes of a slot of the boot flash. -/
def Chip.slotBytes (c : Chip) (slot : Nat) : List Byte := (pget c.sys.flash slot).getD []

/-- FIRST of the boot record in force (R537). -/
def Chip.firstSlot (c : Chip) : Nat :=
  match pget c.sys.bootRecs 0, pget c.sys.bootRecs 1 with
  | some a, some b => if b.seq > a.seq then b.first else a.first
  | some a, none => a.first
  | none, some b => b.first
  | none, none => 1

/-- A slot is checked; event 0x9002 for one that is rejected (R539). -/
def Chip.trySlot (c : Chip) (slot : Nat) : Chip × Bool :=
  match c.imageFails (c.slotBytes slot) with
  | none => (c, true)
  | some k => (c.post srcSys 0x9002 [slot, k], false)

/-- The slot the ROM accepts: FIRST, or the other one (R540). -/
def Chip.chooseSlot (c : Chip) : Chip × Option Nat :=
  let a := if c.firstSlot = 2 then 2 else 1
  match c.trySlot a with
  | (c, true) => (c.setFld F.SYS_BOOT_FALLBACK 0, some a)
  | (c, false) => match c.trySlot (3 - a) with
    | (c, true) => (c.setFld F.SYS_BOOT_FALLBACK 1, some (3 - a))
    | (c, false) => (c.setFld F.SYS_BOOT_FALLBACK 1, none)

/-- Every TYPE 0x01 section is loaded into the TCM of every core, and the image runs. -/
def Chip.loadImage (c : Chip) (slot : Nat) : Chip :=
  let b := c.slotBytes slot
  let code := (imageSects b).filter (·.ty == 1)
  let c := (List.range 16).foldl (fun c n => code.foldl (fun (c : Chip) x => c.put (0xE100000000 + n * 0x200000 + x.load) (sectBytes b x)) c) c
  let r := runningOf slot b
  ((c.setFld F.SYS_BOOT_SLOT slot).setFld F.SYS_BOOT_FHL (b2n r.fhl)).modSys fun y => { y with running := some r }

/-! The die profile (R284) -/

/-- The profile a section holds. Its byte layout is not in the manual: `Config.profileFields` gives its numbers in the order of the table of
R284, `Config.profileList` its lists (log 4). -/
def profileOf (b : List Byte) : Profile :=
  let v := fun i => (Config.profileFields b).getD i 0
  { iface := v 0, rate := v 1, planes := v 2, spare := v 3, wls := v 4, blocks := v 5, tR := v 6, tRSlc := v 7, tProg := v 8, tProgSlc := v 9
    tBers := v 10, tSuspP := v 11, tSuspE := v 12, tResume := v 13, maxR := v 14, maxProg := v 15, maxBers := v 16, pollR := v 17, pollP := v 18
    pollE := v 19, peQlc := v 20, peSlc := v 21, id := v 22, version := v 23
    features := Config.profileList 0 b
    idMatch := (Config.profileList 1 b).map (BitVec.ofNat 8)
    status := (Config.profileList 2 b).zipIdx.foldl (fun m x => pset m x.2 x.1) []
    tablesOk := (Config.profileList 3 b).all (· ≤ 127) && (Config.profileList 4 b).all (· ≤ 63)
      && ((Config.profileList 5 b).all (Config.romOpcodes (v 0)).contains) && ((Config.profileList 0 b).all fun a => !Config.barredFeature a)
      && decide ((Config.profileList 0 b).length ≤ 16) }

/-- The first line of the table of R284 whose bound a profile breaks. -/
def Profile.outOfBound (p : Profile) (chunkLen : Nat) : Option Nat :=
  let checks : List (Nat × Bool) :=
    [(0, decide (p.iface ≤ 1)), (1, decide (p.rate ≤ 3600)), (3, decide (p.planes = 4)), (4, decide (p.spare = 4 * (chunkLen - 4096))),
     (5, decide (p.wls = 384)), (6, decide (2700 ≤ p.blocks ∧ p.blocks ≤ 2800)), (7, decide (10 ≤ p.tR ∧ 10 ≤ p.tRSlc)),
     (8, decide (50 ≤ p.tProg ∧ 50 ≤ p.tProgSlc)), (9, decide (1000 ≤ p.tBers)), (10, decide (p.tSuspP ≤ 25 ∧ p.tSuspE ≤ 40 ∧ p.tResume ≤ 20)),
     (11, decide (2 * p.tR ≤ p.maxR ∧ 2 * p.tProg ≤ p.maxProg ∧ 2 * p.tBers ≤ p.maxBers)),
     (12, decide (1 ≤ p.pollR ∧ 1 ≤ p.pollP ∧ 1 ≤ p.pollE)), (13, p.tablesOk)]
  (checks.find? fun x => !x.2).map (·.1)

/-! DRAM (R435 to R437, R447, R465) -/

/-- The first item of a channel's configuration that differs from D0's, or from R435: 0 width, 1 density, 2 ranks, 3 logical ranks, 4 rows,
5 capacity. -/
def ChanBoot.mismatch (a d0 : ChanBoot) : Option Nat :=
  let perRank := (if a.width = 1 then 16 else 8) * (if a.density = 1 then 2 else if a.density = 2 then 3 else 4)
  let checks : List (Nat × Bool) :=
    [(0, decide (a.width = d0.width ∧ 1 ≤ a.width ∧ a.width ≤ 2)), (1, decide (a.density = d0.density ∧ 1 ≤ a.density ∧ a.density ≤ 3)),
     (2, decide (a.pranks = d0.pranks ∧ 1 ≤ a.pranks ∧ a.pranks ≤ 2)),
     (3, decide (a.lranks = d0.lranks) && [1, 2, 4, 8].contains a.lranks && decide (a.pranks ≤ a.lranks)), (4, decide (a.rows = d0.rows)),
     (5, decide (a.capGib = perRank * a.lranks) && [16, 24, 32, 48, 64].contains a.capGib)]
  (checks.find? fun x => !x.2).map (·.1)

/-- Training and self-test of a channel; TRAINED where both pass (R447, R465). Failing pages become pending remap entries, a bank with
BANK_PAGES of them a pending bank spare; more than 64 pages, or a second such bank, fail the channel. -/
def Chip.bootChannel (c : Chip) (mode : Nat) (d0 : ChanBoot) (ch : Nat) (a : ChanBoot) : Chip :=
  match a.mismatch d0 with
  | some k => c.post (srcDrc ch) 0x5010 [ch, k]
  | none =>
    let c := c.setReg .drcGeom ch (withBits [(F.DRC_GEOM_CAP_GIB, a.capGib), (F.DRC_GEOM_ROWS, a.rows), (F.DRC_GEOM_LRANKS, a.lranks),
      (F.DRC_GEOM_PRANKS, a.pranks), (F.DRC_GEOM_DENSITY, a.density), (F.DRC_GEOM_WIDTH, a.width)])
    match a.failStep with
    | some k => c.post (srcDrc ch) 0x5002 [ch, k]
    | none =>
      let c := c.post (srcDrc ch) 0x5001 [ch, a.trainMs]
      let banks := (a.pages.map fun p => c.bankOfAddr ch (p * 8192)).eraseDups
      let bad := banks.filter fun b => decide ((a.pages.filter fun p => c.bankOfAddr ch (p * 8192) == b).length ≥ max 1 (c.fld F.DRC_RET_BANK_PAGES ch))
      let rest := a.pages.filter fun p => !bad.contains (c.bankOfAddr ch (p * 8192))
      let pass := decide (rest.length ≤ 64 ∧ bad.length ≤ 1)
      let c := if a.pages.isEmpty then c else c.post (srcDrc ch) 0x500E [ch, a.pages.length, a.ppr]
      let c := c.setReg .drcSelftest ch (withBits [(F.DRC_SELFTEST_MODE, mode), (F.DRC_SELFTEST_PASS, b2n pass),
        (F.DRC_SELFTEST_DURATION_MS, a.testMs), (F.DRC_SELFTEST_PPR, a.ppr), (F.DRC_SELFTEST_FAIL_PAGES, a.pages.length)])
      if !pass then c
      else
        let c := rest.zipIdx.foldl (fun (c : Chip) x => (c.setFld F.DRC_REMAP_STATE 2 (ch * 64 + x.2)).setFld F.DRC_REMAP_PAGE x.1 (ch * 64 + x.2)) c
        let c := match bad with
          | b :: _ => (c.modDrc ch fun d => { d with pendBank := some b }).setFld F.DRC_RET_BANK_STATE 3 ch
          | [] => c
        (c.countRemaps ch).setFld F.DRC_GEOM_TRAINED 1 ch

/-- Step 4 of R540: every channel; all eight must be usable (R437). -/
def Chip.bootDram (c : Chip) (d : BootData) (mode : Nat) : Chip × Bool :=
  match d.chans with
  | [] => (c, false)
  | d0 :: _ =>
    let c := (d.chans.take 8).zipIdx.foldl (fun (c : Chip) x => c.bootChannel mode d0 x.2 x.1) c
    let c := { c with fuses := { c.fuses with dramGib := 8 * d0.capGib } }
    (c, (List.range 8).all fun n => c.flag F.DRC_GEOM_TRAINED n)

/-! Fabric (R241, R284, R289, R306) -/

/-- A full training ends ACTIVE. -/
def Chip.bootLink (c : Chip) (p : Nat) (o : OrderedSet) : Chip :=
  if !c.portIn p then c else ((c.setFld F.BINOR_CTL_EN 1 p).modLink p fun _ => { linkReset with attempts := 1, since := c.now }).linkUp p o

/-- A full training fails its three attempts: event 0xB006. -/
def Chip.bootLinkFails (c : Chip) (p st : Nat) : Chip :=
  if !c.portIn p then c else ((c.setFld F.BINOR_STAT_FAIL_STATE st p).setFld F.BINOR_STAT_STATE 0 p).post (srcBinor p) 0xB006 [p, st]

/-- A die whose identification does not match the profile is faulted (R306, R310). -/
def Chip.bootBadDie (c : Chip) (die : Nat) : Chip :=
  c.dieFault die .dieFault 2 (mkOp .dieIdentify die 0 0 false .d1 .dieClear)

/-- The first start on a sled (R289): factory markers; the table segments' cisterns are erased and their first copies written with PASS 0; the
fuse is burned. One more shared cistern of each member is erased, for the first journal trio (log 32). -/
def Chip.firstStart (c : Chip) (marked : List (Nat × Nat)) : Chip :=
  let c := marked.foldl (fun (c : Chip) x => c.modBst x.1 x.2 fun b => { b with st := .factoryBad }) c
  let dies := (marked.map (·.1)).eraseDups
  let c := dies.foldl (fun (c : Chip) d =>
    if (marked.filter fun x => x.1 == d).length > c.blocks - 2700 then
      (c.modDie d fun x => { x with st := .blocked, faulted := true, retired := true }).post (srcSeq (memberOf d)) 0x3006 [d, 3]
    else c) c
  let ms := (List.range 36).filter fun m => c.memberPresent m
  let erase := fun (c : Chip) (m : Nat) =>
    (((c.setAside (m * 128)).drop c.cistPerDie).take 4).foldl (fun (c : Chip) b =>
      c.modBst (m * 128) b fun x => { x with st := .erased, pslc := true, count := 1, ptr := 0 }) c
  let c := ms.foldl erase c
  let take := fun (acc : Chip × PMap (List Nat)) (m : Nat) =>
    let on := (((List.range 36).map fun i => (m + 1 + i) % 36).filter fun k => c.memberPresent k).take 3
    on.foldl (fun (acc : Chip × PMap (List Nat)) k =>
      match acc.1.takeCistern k 3 with
      | (c, some (d, b)) => (c.modBst d b fun x => { x with st := .opened, ptr := 44 }, pset acc.2 m ((pget acc.2 m).getD [] ++ [bkey d b]))
      | (c, none) => (c, acc.2)) acc
  let (c, cs) := ms.foldl take (c, [])
  let c := cs.foldl (fun (c : Chip) e =>
    let data := SegData.table (c.m.bst.filter fun x => memberOf (x.1 / 4096) == e.1) []
    c.modZ fun z => { z with segs := pset z.segs (segTable e.1) { segReset with changed := false, best := some (0, 0, data), bestCists := e.2 } }) c
  { c with fuses := { c.fuses with init := true } }

/-- Step 5 of R540: the profile is loaded; ports are enabled and trained, dies identified, factory markers read at a first start. A profile
out of bound leaves the ports disabled: event 0x300D. -/
def Chip.bootFabric (c : Chip) (d : BootData) (img : List Byte) : Chip :=
  let p := profileOf (((imageSects img).find? fun x => x.ty == 2).map (sectBytes img) |>.getD [])
  let len := (d.links.head?.map fun x => x.2.chunkLen).getD 4608
  match p.outOfBound len with
  | some k => c.post (srcSeq 0) 0x300D [k]
  | none =>
    let c := c.modM fun m => { m with profile := some p }
    let c := ((List.range 36).filter c.portIn).foldl (fun (c : Chip) n => (c.setFld F.SEQ_CTL_EN 1 n).setFld F.BINOR_CTL_EN 1 n) c
    let c := d.links.foldl (fun (c : Chip) x => c.bootLink x.1 x.2) c
    let c := d.failed.foldl (fun (c : Chip) x => c.bootLinkFails x.1 x.2) c
    let c := d.badDies.foldl (fun (c : Chip) n => c.bootBadDie n) c
    if c.fuses.init then c else c.firstStart d.factory

/-! The sequence (R540, R541) -/

/-- CSTS.CFS of a function: a fence, or a stopped boot on a PF (R75, R541). -/
def Chip.cfs (c : Chip) (f : Nat) : Bool := (c.fn f).cfs || (isPf f && decide (c.fld F.SYS_BOOT_STAGE = 0xFF))

/-- BOOT_STOP (R541): CFS on every PF, STAGE FAIL with the cause, event 0x9003; the ROM halts. -/
def Chip.bootStop (c : Chip) (cause : Nat) : Chip :=
  ((c.setFld F.SYS_BOOT_STAGE 0xFF).setFld F.SYS_BOOT_FAIL_CAUSE cause).post srcSys 0x9003 [cause]

/-- Steps 1 and 2 of R540: fuses, key slots 0 to 2, CHG_EN, CFG_RDY on ports whose PERST# is deasserted. -/
def Chip.bootBegin (c : Chip) : Chip :=
  let c := ({ c with keys := bootKeys }).chargeEnable true
  let c := (List.range 4).foldl (fun c p => if (c.port p).perst then c else c.setFld F.HP_CTL_CFG_RDY 1 p) c
  ((c.setFld F.SYS_BOOT_STAGE 1).setFld F.SYS_BOOT_FAIL_CAUSE 0).modSys fun y => { y with booted := true, romMapped := true }

/-- The test mode the DRAM section of an image sets, 1 QUICK or 2 FULL; FULL at a first start (R465). -/
def Chip.testMode (c : Chip) (img : List Byte) : Nat :=
  if c.fuses.init && Config.quickTest (((imageSects img).find? fun x => x.ty == 3).map (sectBytes img) |>.getD []) then 1 else 2

/-- Step 6 of R540: the cores start at COLD_ENTRY. -/
def Chip.bootCores (c : Chip) (slot : Nat) : Chip :=
  let c := c.loadImage slot
  let entry := (c.sys.running.map Running.cold).getD 0
  ((List.range 16).foldl (fun c n => c.startCore n entry) c).setFld F.SYS_BOOT_STAGE 2

/-- ROM_BOOT on the part. -/
def Chip.romBoot (c : Chip) (d : BootData) : Chip :=
  let c := (c.advanceTo (c.now + d.ns)).bootBegin
  match c.chooseSlot with
  | (c, none) => c.bootStop 1
  | (c, some slot) =>
    let img := c.slotBytes slot
    let mode := c.testMode img
    let (c, ok) := c.bootDram d mode
    let c := c.bootFabric d img
    if ok then c.bootCores slot else c.bootStop 2

/-- DRAM below a size, zeroed by the self-test (R465). -/
def zeroDram (s : State) : State := { s with mem := s.mem.filter fun e => decide (e.1 ≥ 2 ^ 39) }

/-- ROM_BOOT (R540, R541): once after each release of the WARM reset. The self-test leaves DRAM at zero where it ran. -/
def execRomBoot (data : BootData) (s : State) : Outcome :=
  onState (fun s =>
    if s.chip.supply.held || s.chip.sys.booted then s
    else
      let c := s.chip.romBoot data
      let s := if (List.range 8).any fun n => c.fld F.DRC_SELFTEST_MODE n != 0 then zeroDram s else s
      flushWrites { s with chip := c }) s

/-- HANDOFF (R542): the ROM is unmapped and STAGE is RUNNING; event 0x9001 with the time since the release. -/
def Chip.handoff (c : Chip) : Chip :=
  if c.flag F.SYS_BOOT_HANDOFF || c.sys.running.isNone then c
  else
    ((((c.setFld F.SYS_BOOT_HANDOFF 1).setFld F.SYS_BOOT_STAGE 3).modSys fun y => { y with romMapped := false })).post srcSys 0x9001
      [(c.now - c.sys.released) / 1000000]
def execHandoff (s : State) : Outcome := onChip Chip.handoff s

end Sys2Proof.Machine
end

