-- ==== Sys2Proof/Machine/RegView.lean ====
section
/-! DEFINITION. Registers as they are read: fields that show another part of the state take their value from there, write-only fields
read 0 (R8), everything else is the stored value. -/

namespace Sys2Proof.Machine

/-- A word with fields replaced. -/
def withFields (w : Nat) (fs : List (Fld × Nat)) : Nat := fs.foldl (fun w x => putBits w x.1.hi x.1.lo (min x.2 (2 ^ (x.1.hi + 1 - x.1.lo) - 1))) w

/-- The stored value of a register without its write-only fields. -/
def Chip.stored (c : Chip) (r : RegId) (i : Nat) : Nat :=
  (regFields r).foldl (fun w f => if f.ty == FieldType.wo then putBits w f.hi f.lo 0 else w) (c.reg r i)

/-- The codes of die states (R209). -/
def DieState.code : DieState → Nat
  | .idle => 0
  | .read => 1
  | .program => 2
  | .erase => 3
  | .suspending => 4
  | .prgSusp => 5
  | .ersSusp => 6
  | .blocked => 7

/-- The state of the rebuild engine: 0 idle, 1 rebuilding, 2 critical pass, 3 paused (STRIPE_RBSTAT). -/
def Chip.rbState (c : Chip) : Nat :=
  match c.rbNext with
  | some (_, _, true) => 2
  | some (_, _, false) => 1
  | none => if c.m.jobs.isEmpty then 0 else if c.flag F.STRIPE_CTL_RB_PAUSE then 3 else 1

/-- Data still to rebuild, in bytes: 256 KiB for each row of each slot of the rebuild (R363). -/
def Chip.rbLeft (c : Chip) : Nat :=
  (c.m.pools.map fun e => if e.2.ptstate = 0 then 0 else
    ((e.2.slots.filter fun s => (s.pstate == 1 || s.pstate == 2) && c.inJob s).map fun s => (e.2.goal s - s.rDone) * 262144).sum).sum

/-- Bytes per second rebuilt over the last 60 s, and the estimate of the seconds to completion (R363); the manual states none at rate 0. -/
def Chip.rbRate (c : Chip) : Nat := (c.m.rbTimes.filter fun t => decide (c.now < t + seconds 60)).length * 262144 / 60
def Chip.rbEta (c : Chip) : Nat :=
  if c.rbLeft = 0 then 0 else if c.rbRate = 0 then (Config.etaNoRate c.rbLeft).toNat else (c.rbLeft + c.rbRate - 1) / c.rbRate

/-- Microseconds since the oldest record not yet durable was appended (STRIPE_JSTAT.LAG_US). -/
def Chip.journalLag (c : Chip) : Nat :=
  let j := c.z.journal
  match j.flying.head? with
  | some f => (c.now - f.since) / 1000
  | none => if j.opened.isEmpty then 0 else (c.now - j.openAt) / 1000

/-- Operations of a die scheduler that wait, of all classes or of one. -/
def Chip.queuedOn (c : Chip) (d : Nat) (k : Option Cls) : Nat :=
  ((c.die d).queue.filter fun o => (c.op o).any fun (x : Op) => k == none || k == some x.cls).length

/-- Milliseconds since a port's last TEMP. -/
def Chip.tempAge (c : Chip) (p : Nat) : Nat := (c.now - (c.link p).tempAt) / 1000000

/-- Hours of the current patrol lap. -/
def Chip.lapHours (c : Chip) : Nat := if c.m.patrol.done then 0 else (c.opTime - c.m.patrol.startTs.1) / 1024

/-- The fields of SYS, HP, INTAKE and CONF registers that show other state. -/
def Chip.liveA (c : Chip) (r : RegId) (i : Nat) : List (Fld × Nat) :=
  match r with
  | .sysId => [(F.SYS_ID_STEPPING, c.fuses.stepping), (F.SYS_ID_GRADE, c.fuses.grade), (F.SYS_ID_LOT_TAG, c.fuses.lotTag)]
  | .sysCap => [(F.SYS_CAP_FPORT, c.fuses.fport), (F.SYS_CAP_DRAM_CH, maskOf ((List.range 8).filter fun n => c.flag F.DRC_GEOM_TRAINED n))]
  | .sysBoot => [(F.SYS_BOOT_INIT, b2n c.fuses.init)]
  | .sysSvn => [(F.SYS_SVN_FUSED, c.fuses.svn)]
  | .hpLstat => [(F.HP_LSTAT_MERGED, b2n (c.merged i))]
  | .intakeTagstat => [(F.INTAKE_TAGSTAT_BUSY, c.intake.tags.length), (F.INTAKE_TAGSTAT_SHARED_FREE, c.sharedFree),
      (F.INTAKE_TAGSTAT_ADMIN_FREE, 64 - c.adminUsed)]
  | .confSlstat => [(F.CONF_SLSTAT_CLAIMS, (c.slice i).claims.length),
      (F.CONF_SLSTAT_WAITING, ((c.slice i).claims.filter fun x => !x.granted).length + (c.slice i).arrival.length)]
  | _ => []

/-- The fields of ZMAP, LEDGER, SLUICE and STRIPE registers that show other state. -/
def Chip.liveB (c : Chip) (r : RegId) (i : Nat) : List (Fld × Nat) :=
  match r with
  | .zmapPoolstat => [(F.ZMAP_POOLSTAT_ERASE_Q, c.z.eraseQ.length), (F.ZMAP_POOLSTAT_ERASED, c.z.reserve.length)]
  | .zmapActstat => [(F.ZMAP_ACTSTAT_MAR_SUM, c.marSum), (F.ZMAP_ACTSTAT_OPEN, (c.z.zones.filter fun e => e.2.st.isOpen).length),
      (F.ZMAP_ACTSTAT_ACTIVE, (c.z.zones.filter fun e => e.2.st.isActive).length)]
  | .zmapConvcap => [(F.ZMAP_CONVCAP_USED_GIB, c.convUsed), (F.ZMAP_CONVCAP_LIMIT_GIB, c.convLimit)]
  | .zmapNsz => [(F.ZMAP_NSZ_ZONED, b2n ((c.ns (i + 1)).any NsRec.zoned))]
  | .zmapBasinstat => [(F.ZMAP_BASINSTAT_LAND_RES, c.z.landRes.length), (F.ZMAP_BASINSTAT_USED_PCT, c.basinUsedPct),
      (F.ZMAP_BASINSTAT_FREE_PAIRS, c.z.freePairs.length)]
  | .ledgerEnergy => [(F.LEDGER_ENERGY_NEED_MJ, (c.needUj + 999) / 1000), (F.LEDGER_ENERGY_AVAIL_MJ, c.availUj / 1000)]
  | .ledgerStat => [(F.LEDGER_STAT_FROZEN, b2n c.z.ledger.frozen), (F.LEDGER_STAT_PF_COMMIT, b2n c.z.ledger.pfCommit),
      (F.LEDGER_STAT_COMMIT_MIB, (c.committedBytes + 2 ^ 20 - 1) / 2 ^ 20), (F.LEDGER_STAT_ERASES, c.z.ledger.erases.length),
      (F.LEDGER_STAT_PROGRAMS, c.z.ledger.charges.length - c.z.ledger.erases.length)]
  | .sluiceStat => [(F.SLUICE_STAT_IN_USE_MW, c.tokensUsed), (F.SLUICE_STAT_EFFECTIVE_MW, c.effectiveMw)]
  | .stripeJsn => [(⟨.stripeJsn, 63, 0⟩, c.z.journal.nextJsn)]
  | .stripeJstat => [(F.STRIPE_JSTAT_LAG_US, c.journalLag), (F.STRIPE_JSTAT_FRAMES, c.z.journal.flying.length)]
  | .stripeRbstat => [(F.STRIPE_RBSTAT_STATE, c.rbState), (F.STRIPE_RBSTAT_DEG_MAX, c.degMax), (F.STRIPE_RBSTAT_ETA_S, c.rbEta)]
  | .stripeRbprog => [(F.STRIPE_RBPROG_SLOTS_TOTAL, c.m.slotsTotal), (F.STRIPE_RBPROG_SLOTS_DONE, c.m.slotsDone)]
  | .stripeCrit => [(F.STRIPE_CRIT_CRIT_ROWS, c.critRows), (F.STRIPE_CRIT_NO_SPARE, c.noSpare)]
  | .stripeJmir => [(F.STRIPE_JMIR_REMIRROR, b2n (!c.m.remirror.isEmpty))]
  | _ => []

/-- The fields of SCHED, SEQ, BINOR, LDPC, PATROL and RECLAIM registers that show other state. -/
def Chip.liveC (c : Chip) (r : RegId) (i : Nat) : List (Fld × Nat) :=
  match r with
  | .schedStat => [(F.SCHED_STAT_SUSPENDED, (c.m.dies.filter fun e => e.2.st == .prgSusp || e.2.st == .ersSusp).length),
      (F.SCHED_STAT_SPILL_INFLIGHT, c.spillsInFlight), (F.SCHED_STAT_BLOCKED, (c.m.dies.filter fun e => e.2.st == .blocked).length)]
  | .schedDiestat =>
    let o := c.occupant (c.die i)
    [(F.SCHED_DIESTAT_STATE, (c.die i).st.code), (F.SCHED_DIESTAT_SUSP_COUNT, (o.map Op.suspends).getD 0),
      (F.SCHED_DIESTAT_D0_QUEUED, c.queuedOn i (some .d0)), (F.SCHED_DIESTAT_QUEUED, c.queuedOn i none),
      (F.SCHED_DIESTAT_ELAPSED_US, (o.map fun x => c.elapsed x / 1000).getD 0)]
  | .seqProf => (c.m.profile.map fun p => [(F.SEQ_PROF_LOADED, 1), (F.SEQ_PROF_BLOCKS, p.blocks), (F.SEQ_PROF_VERSION, p.version),
      (F.SEQ_PROF_PROFILE_ID, p.id)]).getD []
  | .seqStat => [(F.SEQ_STAT_FAULTED, (c.m.dies.filter fun e => memberOf e.1 == i && e.2.faulted).length),
      (F.SEQ_STAT_IN_FLIGHT, (c.m.ops.filter fun e => memberOf e.2.die == i && (e.2.stage == .posted || e.2.stage == .journal
        || e.2.stage == .running || e.2.stage == .suspended)).length)]
  | .binorCred => [(F.BINOR_CRED_REG_FREE, (c.link i).regFree), (F.BINOR_CRED_CHUNK_FREE, (c.link i).chunks)]
  | .binorCmdq => (List.range 8).map fun s => (⟨.binorCmdq, 6 * s + 5, 6 * s⟩, mget 0 (c.link i).cmdq s)
  | .binorTemp => [(F.BINOR_TEMP_AGE_MS, c.tempAge (i / 9))]
  | .ldpcSoftstat => let n := (c.m.rds.filter fun e => e.2.await && decide (e.2.level ≥ 3)).length
    [(F.LDPC_SOFTSTAT_QUEUED, n - 16), (F.LDPC_SOFTSTAT_BUSY, min n 16)]
  | .patrolStat => [(F.PATROL_STAT_ELAPSED_H, c.lapHours)]
  | .reclaimStat => [(F.RECLAIM_STAT_ACTIVE, c.m.victims.length), (F.RECLAIM_STAT_REFRESH_Q, c.m.marks.length),
      (F.RECLAIM_STAT_URGENT_Q, (c.m.marks.filter (·.2)).length)]
  | _ => []

/-- What KEYS_SLOTINFO shows of a slot, and DIGEST_STAT of a context. -/
def Chip.slotInfo (c : Chip) (s : Nat) : List (Fld × Nat) :=
  match pget c.keys s, c.xts.find? fun (k : XtsSlot) => k.slot == s with
  | some k, _ => [(F.KEYS_SLOTINFO_VALID, 1), (F.KEYS_SLOTINFO_PINNED, 1), (F.KEYS_SLOTINFO_REFCOUNT, c.refCount s),
      (F.KEYS_SLOTINFO_USAGE, k.usage), (F.KEYS_SLOTINFO_TYPE, k.ty), (F.KEYS_SLOTINFO_LEN, k.len), (F.KEYS_SLOTINFO_HANDLE, k.handle)]
  | none, some k => [(F.KEYS_SLOTINFO_VALID, 1), (F.KEYS_SLOTINFO_REFCOUNT, k.refs.length), (F.KEYS_SLOTINFO_USAGE, 1), (F.KEYS_SLOTINFO_TYPE, 1),
      (F.KEYS_SLOTINFO_LEN, 3), (F.KEYS_SLOTINFO_HANDLE, k.handle)]
  | none, none => []
def Chip.digestInfo (c : Chip) (x : Nat) : List (Fld × Nat) :=
  match c.dctx x with
  | some d => [(F.DIGEST_STAT_BUSY, b2n (decide (d.buf ≥ 128))), (F.DIGEST_STAT_DONE, b2n d.done), (F.DIGEST_STAT_TRUNC, b2n d.trunc),
      (F.DIGEST_STAT_SHORT, b2n d.short), (F.DIGEST_STAT_OVERRUN, b2n d.overrun), (F.DIGEST_STAT_ERR, b2n (d.err != 0)),
      (F.DIGEST_STAT_ERR_CAUSE, d.err), (F.DIGEST_STAT_RECEIVED, d.msg.length)]
  | none => []

/-- The fields of DIGEST, KEYS, TENANT, DRC, PWR and EVREC registers that show other state. -/
def Chip.liveD (c : Chip) (r : RegId) (i : Nat) : List (Fld × Nat) :=
  match r with
  | .digestCtxmap => c.digest.map fun e => (⟨.digestCtxmap, 4 * e.1 + 3, 4 * e.1⟩, e.2.owner)
  | .digestCtxuse => [(F.DIGEST_CTXUSE_ALLOCATED, maskOf (c.digest.map (·.1)))]
  | .digestSealstat => [(F.DIGEST_SEALSTAT_LANES_BUSY, c.z.lanes.length), (F.DIGEST_SEALSTAT_BACKLOG_MIB, c.sealBacklog / 2 ^ 20)]
  | .digestStat => c.digestInfo i
  | .digestResult => [(⟨.digestResult, 63, 0⟩, numAt (((c.dctx (i / 8)).map DigestCtx.result).getD []) (8 * (i % 8)) 8)]
  | .keysCache => [(F.KEYS_CACHE_IN_USE, (c.xts.filter fun (k : XtsSlot) => !k.refs.isEmpty).length)]
  | .keysSlotinfo => c.slotInfo i
  | .tenantEpoch => [(F.TENANT_EPOCH_VALUE, c.epoch)]
  | .tenantFnstat =>
    let r := c.fn i
    [(F.TENANT_FNSTAT_FENCED, b2n r.fence.isSome), (F.TENANT_FNSTAT_FENCE_CAUSE, r.fence.getD 0), (F.TENANT_FNSTAT_MSTATE, r.mstate.code),
      (F.TENANT_FNSTAT_GEN, r.gen), (F.TENANT_FNSTAT_SAVE_GEN, r.saveGen), (F.TENANT_FNSTAT_TRAILING, r.trail.length), (F.TENANT_FNSTAT_TAGS, c.inUse i)]
  | .pwrTimer => [(F.PWR_TIMER_COUNT, c.timerCount)]
  | .evrecNonce => [(⟨.evrecNonce, 63, 0⟩, c.ev.nonce.toNat)]
  | .evrecStat => [(F.EVREC_STAT_STAGING_FULL, b2n (decide (c.stagedBytes + 64 > 131072))), (F.EVREC_STAT_STAGED_BYTES, c.stagedBytes),
      (F.EVREC_STAT_LOG_USED_PCT, if c.ev.logFull then 100 else c.ev.logPages * 100 / c.logPages)]
  | .evrecRsn => [(⟨.evrecRsn, 63, 0⟩, c.ev.nextRsn)]
  | .evrecTime => [(F.EVREC_TIME_CYCLES, c.ev.cycles), (F.EVREC_TIME_TIME, c.opTime % 2 ^ 32)]
  | _ => []

/-- A register as it reads. -/
def Chip.regRead (c : Chip) (r : RegId) (i : Nat) : Nat :=
  withFields (c.stored r i) (c.liveA r i ++ c.liveB r i ++ c.liveC r i ++ c.liveD r i)

/-- A field of a register as it reads. -/
def Chip.fldRead (c : Chip) (f : Fld) (i : Nat := 0) : Nat := bitsOf (c.regRead f.reg i) f.hi f.lo

end Sys2Proof.Machine
end

