-- ==== Sys2Proof/Machine/Firmware.lean ====
section
/-! DEFINITION. Firmware download, commit and activation, the SVN fuse, watchdogs, lockstep and core restarts, clock loss, NVMe-MI
(R31, R119, R535, R543 to R549). -/

namespace Sys2Proof.Machine

/-! Download and commit (R119, R543, R544) -/

/-- FIRMWARE_IMAGE_DOWNLOAD (R543): CDW10 NUMD, CDW11 OFST, both in dwords (log 6); pieces are whole 4 KiB units of at most 4 MiB. -/
def execFirmwareImageDownload (tag : Nat) (data : List Byte) (s : State) : Outcome :=
  onChip (fun c => c.admin tag fun x c =>
    let len := 4 * (x.dw 10 + 1)
    let off := 4 * x.dw 11
    if !isPf x.fn then c.complete tag .invalidOpcode
    else if len % 4096 ≠ 0 || off % 4096 ≠ 0 || off + len > 0x400000 then c.complete tag .invalidField
    else (c.modSys fun y => { y with pieces := pset y.pieces off (padTo len data) }).complete tag .success) s

/-- The image the pieces form from byte 0 on. -/
def joinPieces : PMap (List Byte) → List Byte → List Byte
  | [], acc => acc
  | (off, b) :: t, acc => if off ≤ acc.length then joinPieces t (acc.take off ++ b) else joinPieces t acc

/-- Write a boot record to the copy with the lower SEQ, with SEQ one above the higher (R544). -/
def Chip.writeBootRec (c : Chip) (slot : Nat) : Chip :=
  let seq := fun k => ((pget c.sys.bootRecs k).map BootRec.seq).getD 0
  let copy := match pget c.sys.bootRecs 0, pget c.sys.bootRecs 1 with
    | none, _ => 0
    | some _, none => 1
    | some a, some b => if b.seq < a.seq then 1 else 0
  c.modSys fun y => { y with bootRecs := pset y.bootRecs copy ⟨max (seq 0) (seq 1) + 1, slot⟩ }

/-- The image is written to a slot if it passes the checks of R539 (R543); otherwise the status. -/
def Chip.writeSlot (c : Chip) (slot : Nat) : Except Status Chip :=
  let img := joinPieces c.sys.pieces []
  match c.imageFails img with
  | some 4 => .error .firmwareProhibited
  | some _ => .error .invalidFirmwareImage
  | none => .ok (c.modSys fun y => { y with flash := pset y.flash slot img, pieces := [] })

/-- The slot a commit names; 0 is the one not running (R544). -/
def Chip.commitSlot (c : Chip) (fs : Nat) : Nat := if fs = 0 then 3 - (c.sys.running.map Running.slot).getD 1 else fs

/-- FIRMWARE_COMMIT (R119, R543, R544): CDW10 [2:0] slot, [5:3] action (log 6). -/
def execFirmwareCommit (tag : Nat) (s : State) : Outcome :=
  onChip (fun c => c.admin tag fun x c =>
    let fs := bitsOf (x.dw 10) 2 0
    let act := bitsOf (x.dw 10) 5 3
    let slot := c.commitSlot fs
    if !isPf x.fn then c.complete tag .invalidOpcode
    else if c.sys.commit.isSome then c.complete tag .commandSequenceError
    else if act > 3 then c.complete tag .invalidField
    else if fs > 2 then c.complete tag .invalidFirmwareSlot
    else if act = 2 then
      if (c.imageFails (c.slotBytes slot)).isSome then c.complete tag .invalidFirmwareSlot
      else (c.writeBootRec slot).complete tag .firmwareNeedsReset
    else match c.writeSlot slot with
      | .error st => c.complete tag st
      | .ok c =>
        if act = 0 then c.complete tag .success
        else if act = 1 then (c.writeBootRec slot).complete tag .firmwareNeedsReset
        else
          let c := ((c.writeBootRec slot).modSys fun y => { y with commit := some (tag, slot) }).setFld F.SYS_FWACT_RESULT 0
          c.modCtx tag fun x => { x with st := .firmware, kind := .admin }) s

/-! Activation and the SVN fuse (R545, R546) -/

/-- FIRMWARE_ACTIVATION (R545): SYS_FWACT written with GO: ignored unless DRAINED is 1. The ROM reads the slot into the staging region, checks it,
and starts every core at the activation entry of the new image, or of the running one. Event 0x9004. -/
def Chip.activate (c : Chip) (slot stage dur : Nat) : Chip :=
  if !c.flag F.INTAKE_FWACT_DRAINED || c.sys.running.isNone then c
  else
    let c := (c.setFld F.SYS_FWACT_SLOT slot).setFld F.SYS_FWACT_STAGE (stage / 4096)
    let base := stage / 4096 * 4096
    let b := c.slotBytes slot
    let c := if base + 0x400000 ≤ c.dramBytes then c.put base (padTo 0x400000 b) else c
    let (c, ok) := c.trySlot slot
    let c := (if ok then c.loadImage slot else c).setFld F.SYS_FWACT_RESULT (if ok then 1 else 2)
    let entry := (c.sys.running.map Running.act).getD 0
    let c := (c.modSys fun y => { y with romMapped := false }).post srcSys 0x9004 [slot, if ok then 1 else 2, dur]
    (List.range 16).foldl (fun c n => c.startCore n entry) c
def execFirmwareActivation (slot stage dur : Nat) (s : State) : Outcome := onChipMem (fun c => c.activate (slot % 4) stage dur) s

/-- SVN_BURN (R546). -/
def Chip.svnBurn (c : Chip) (v : Nat) : Chip :=
  let old := c.fuses.svn
  if v > old && c.sys.running.any fun r => decide (v ≤ r.svn) then
    ({ c with fuses := { c.fuses with svn := v } }).post srcSys 0x9016 [old, v]
  else c
def execSvnBurn (value : Nat) (s : State) : Outcome :=
  onChip (fun c => (c.setFld F.SYS_SVN_VALUE (value % 256)).svnBurn (value % 256)) s

/-! Resets and watchdogs (R535, R549) -/

/-- SOFTWARE_WARM_RESET (R535): SYS_RST.WARM. -/
def execSoftwareWarmReset (s : State) : Outcome := onChip (fun c => c.takeWarm 6) s

/-- TIMEOUT_MS of the device watchdog as taken (R549). -/
def Chip.wdogMs (c : Chip) : Nat := c.clampFld F.SYS_WDOG_TIMEOUT_MS 500 60000

/-- DEVICE_WATCHDOG_EXPIRY (R549): event 0x9014, then a WARM reset with code 0x5. It does not count while the WARM reset is held. -/
def execDeviceWatchdogExpiry (s : State) : Outcome :=
  onChip (fun c =>
    if c.supply.held then c
    else ((c.advanceTo (c.sys.wdogAt + ms c.wdogMs)).post srcSys 0x9014 []).takeWarm 5) s

/-- WATCHDOG_KICK (R549): the device watchdog starts anew. -/
def Chip.wdogKick (c : Chip) : Chip := c.modSys fun y => { y with wdogAt := c.now }
def execWatchdogKick (s : State) : Outcome := onChip Chip.wdogKick s

/-- CORE_WATCHDOG_KICK (R548, R549). -/
def Chip.coreKick (c : Chip) (n : Nat) : Chip := c.modSys fun y => { y with cores := pmod y.cores n fun k => { k with kickAt := c.now } }
def execCoreWatchdogKick (core : Nat) (s : State) : Outcome := onChip (fun c => c.coreKick core) s

/-- A core restart (R504, R548): its commands in STATE 0x8 complete with Internal Error, its digest contexts are released (R397); its TCM is checked; it starts at WARM_ENTRY. A second
one within an operating hour retires the core instead. -/
def coreRestart (n : Nat) (d : RestartData) (s : State) : State :=
  match pget s.chip.sys.cores n with
  | none => s
  | some k =>
    if !k.running then s
    else
      let c := s.chip.addFld F.SYS_LOCKSTEP_RESTARTS 1
      let mine := d.tags.filter fun t => (c.ctx t).any fun x => x.st == .firmware
      let c := mine.foldl (fun c t => c.failCmd t .internalError) c
      let c := (c.digest.filter fun e => e.2.owner == n).foldl (fun (c : Chip) e => c.releaseDigest e.1) c
      let recent := k.restarts.any fun t => decide (c.opTime < t + 1024)
      let c := c.modSys fun y => { y with cores := pset y.cores n { k with running := false, restarts := [c.opTime] } }
      if recent then
        { s with chip := (c.setFld F.SYS_LOCKSTEP_RETIRED (maskOf (n :: bitsSet 16 (c.fld F.SYS_LOCKSTEP_RETIRED)))).post srcSys 0x9012 [n] }
      else
        let c := c.setFld F.PWR_RETSTAT_CORRECTED (min d.words 65535)
        let entry := (c.sys.running.map Running.warm).getD 0
        match d.lost with
        | some cause =>
          let bit := 8 + n / 4
          let c := (c.setReg .pwrRetstat 0 (maskOf (bit :: bitsSet 64 (c.reg .pwrRetstat 0)))).setFld F.PWR_DOM_RET_LOST 1 (domCc (n / 4))
          { zeroRange s (0xE100000000 + n * 0x200000) 0x200000 with
            chip := (c.post srcPwr 0x6005 [bit, cause, d.bits]).startCore n entry }
        | none => { s with chip := c.startCore n entry }

/-- LOCKSTEP_MISMATCH (R547, R548): event 0x9011 and a core restart. -/
def execLockstepMismatch (core : Nat) (data : RestartData) (s : State) : Outcome :=
  onState (fun s =>
    if (pget s.chip.sys.cores core).any Core.running then
      coreRestart core data { s with chip := (s.chip.addFld F.SYS_LOCKSTEP_MISMATCH 1).post srcSys 0x9011 [core] }
    else s) s

/-- CORE_WATCHDOG_EXPIRY (R548, R549): the watchdog of a core counts while it is enabled and the core runs out of WFI. Event 0x9013. -/
def execCoreWatchdogExpiry (core : Nat) (data : RestartData) (s : State) : Outcome :=
  onState (fun s =>
    let c := s.chip
    match pget c.sys.cores core with
    | some k =>
      if k.running && c.flag F.SYS_CWDOG_EN core && !c.pwr.wfi.contains core then
        let c := c.advanceTo (k.kickAt + us (max 100 (c.fld F.SYS_CWDOG_TIMEOUT_US core)))
        coreRestart core data { s with chip := c.post srcSys 0x9013 [core] }
      else s
    | none => s) s

/-! Clock loss (R31, R551) -/

/-- The bit of SYS_CLKSTAT of a clock, and whether its monitor watches it: the domains it feeds are On, no change of the operating point is under
way, and a host port's PHY runs. -/
def Clock.bit : Clock → Nat
  | .hclk n => n % 4
  | .fclk => 5
  | .cclk => 6
  | .xclk => 7
  | .dclk n => 8 + n % 8
  | .aclk => 16
  | .sclk => 17
def Chip.watched (c : Chip) (k : Clock) : Bool :=
  match k with
  | .hclk n => c.domOn (domHp (n % 4)) && ((c.port (c.lead (n % 4))).up || (c.port (c.lead (n % 4))).training)
  | .fclk => (List.range 6).any fun i => c.domOn (domFg i)
  | .cclk => (List.range 4).any fun i => c.domOn (domCc i)
  | .xclk => c.domOn domMx || c.domOn domXa || (List.range 8).any fun i => c.domOn (domSb i)
  | .dclk n => c.domOn (domDc (n % 8)) && !c.flag F.DRC_OP_BUSY (n % 8)
  | .aclk => true
  | .sclk => true

/-- CLOCK_LOSS (R31, R551): SYS_CLKSTAT, event 0x6001, and what R551 states: the port is fenced, a device fault reset, or operating time runs on. -/
def execClockLoss (clock : Clock) (s : State) : Outcome :=
  onChip (fun c =>
    if !c.watched clock || c.supply.held then c
    else
      let c := (c.setReg .sysClkstat 0 (maskOf (clock.bit :: bitsSet 18 (c.reg .sysClkstat 0)))).post srcPwr 0x6001 [clock.bit]
      match clock with
      | .hclk n => c.portFence (n % 4)
      | .fclk | .xclk | .cclk | .aclk => c.deviceFault 19
      | .dclk n => ((c.setFld F.DRC_PAR_FAILED 1 (n % 8)).post (srcDrc (n % 8)) 0x5006 [n % 8, 1]).deviceFault 20
      | .sclk => c) s

/-! NVMe-MI (R7, R498) -/

/-- NVME_MI_MESSAGE: over SMBus (0) or I3C (1) the start of the packet is the MI edge of R498; over PCIe VDM (2) it is not. The message is handed to
firmware; its handling is the NVMe-MI standard's. -/
def execNvmeMiMessage (via : Nat) (message : List Byte) (s : State) : Outcome :=
  onChip (fun c => if via > 2 then c else ((if via < 2 then c.edge 7 else c).emit (.miMessage via message))) s

end Sys2Proof.Machine
end

