-- ==== Sys2Proof/Machine/LogPages.lean ====
section
/-! DEFINITION. The vendor log pages 0xC0 to 0xC5 (R348, R375, R390 to R392, R433, R490, R527, R528). Get Log Page: CDW10 and CDW11 hold
NUMD, CDW10 [14:8] the Log Specific Parameter, CDW12 and CDW13 the Log Page Offset (log 6). -/

namespace Sys2Proof.Machine

/-- Length and offset a Get Log Page asks for, and its Log Specific Parameter. -/
def Ctx.logLen (x : Ctx) : Nat := 4 * (bitsOf (x.dw 10) 31 16 + bitsOf (x.dw 11) 15 0 * 65536 + 1)
def Ctx.logOff (x : Ctx) : Nat := x.dw 12 + x.dw 13 * 2 ^ 32
def Ctx.lsp (x : Ctx) : Nat := bitsOf (x.dw 10) 14 8

/-- Return a page from the offset on; an offset past its end is an invalid field. -/
def Chip.sendPage (c : Chip) (tag : Nat) (x : Ctx) (page : List Byte) : Chip :=
  if x.logOff > page.length then c.complete tag .invalidField
  else (c.emit (.hostData tag 0 ((page.drop x.logOff).take x.logLen))).complete tag .success

/-- A page that only PFs are given: Invalid Log Page to a VF. -/
def Chip.pfPage (c : Chip) (tag : Nat) (page : Ctx → Chip → List Byte) : Chip :=
  c.admin tag fun x c => if isPf x.fn then c.sendPage tag x (page x c) else c.complete tag .invalidLogPage

/-- A signed 16-bit number as two bytes. -/
def le16 (v : Int) : List Byte := leBytes 2 (v % 65536).toNat

/-! Page 0xC0 (R390 to R392) -/

/-- Zones in the seal states a test picks. -/
def Chip.sealCount (c : Chip) (p : Nat → Bool) : Nat := (c.z.zones.filter fun z => p z.2.sealState).length

/-- The zones of a function's query range: 4 KiB zones by device index. -/
def Chip.queryOf (c : Chip) (f : Nat) : List Nat :=
  match (c.fn f).query with
  | some q => ((c.ns q.nsid).map fun n => Chip.queryZones n q.first q.count).getD []
  | none => []

/-- An entry of the mismatch list (R391), and of the query area (R392). -/
def Mismatch.bytes (e : Mismatch) : List Byte :=
  leBytes 4 e.nsid ++ leBytes 4 0 ++ leBytes 8 e.zslba ++ leBytes 8 e.unit ++ leBytes 4 e.lap ++ leBytes 4 0 ++ stampBytes e.time
    ++ padTo 16 e.stored ++ leBytes 8 0
def Chip.queryEntry (c : Chip) (g : Nat) : List Byte :=
  let z := c.zone g
  let zidx := (c.zoneOwner g).2
  let state := if c.z.sealJobs.any fun j => j.1 == g && j.2.tag.isSome then 1 else z.sealState
  leBytes 8 (zidx * 0x80000) ++ leBytes 4 zidx ++ leBytes 1 z.st.code ++ leBytes 1 state ++ leBytes 2 0
    ++ leBytes 8 (if z.sealState ≥ 2 then z.wpOff else 0) ++ leBytes 8 z.extSeq ++ leBytes 4 z.lap ++ leBytes 4 0
    ++ leBytes 8 (if z.sealState = 4 then z.badUnit else 0) ++ padTo 32 (if z.sealState ≥ 2 then z.sealVal else []) ++ leBytes 16 z.label
    ++ leBytes 32 0

/-- Log page 0xC0. -/
def Chip.pageC0 (c : Chip) (f : Nat) : List Byte :=
  let gs := c.queryOf f
  leBytes 4 1 ++ leBytes 4 gs.length ++ leBytes 8 (c.sealCount fun s => s == 2 || s == 3 || s == 5) ++ leBytes 8 (c.sealCount (· == 1))
    ++ leBytes 8 (c.sealCount (· == 4)) ++ leBytes 8 (c.sealCount (· == 5)) ++ leBytes 8 (c.sealBacklog / 2 ^ 20) ++ leBytes 16 0
    ++ padTo 4032 ((c.z.mismatches.take 63).flatMap Mismatch.bytes) ++ gs.flatMap c.queryEntry

/-- LOG_PAGE_C0 (R390): for PFs, and functions attached to the namespace of their query range. -/
def execLogPageC0 (tag : Nat) (s : State) : Outcome :=
  onChip (fun c => c.admin tag fun x c =>
    let mine := (c.fn x.fn).query.any fun q => (c.fn x.fn).nsids.contains q.nsid
    if isPf x.fn || mine then c.sendPage tag x (c.pageC0 x.fn) else c.complete tag .invalidLogPage) s

/-! Page 0xC1 (R490) -/

/-- Log page 0xC1. -/
def Chip.pageC1 (c : Chip) : List Byte :=
  let flags := c.fld F.RESV_TRES_PASS + 2 * c.fld F.RESV_RSTAT_CHARGED + 4 * b2n c.z.ledger.frozen + 8 * c.fld F.RESV_RSTAT_CHG_FAULT
    + 16 * b2n (decide (c.fld F.SLUICE_STAT_FACTOR_PCT < 100)) + 32 * c.fld F.RESV_FAN_FORCED + 64 * c.fld F.RESV_HEAT_ACTIVE
  padTo 256 (leBytes 4 1 ++ leBytes 1 flags ++ leBytes 3 0 ++ leBytes 8 (c.regRead .resvTtime 0) ++ leBytes 4 (c.fld F.RESV_TRES_C_UF)
    ++ leBytes 2 (c.fld F.RESV_TRES_ESR) ++ leBytes 2 (c.fld F.RESV_RSTAT_E_FULL_MJ) ++ leBytes 2 (c.fld F.RESV_RSTAT_E_NOW_MJ)
    ++ leBytes 2 (c.fldRead F.LEDGER_ENERGY_AVAIL_MJ) ++ leBytes 2 (c.fldRead F.LEDGER_ENERGY_NEED_MJ) ++ leBytes 2 0
    ++ leBytes 4 (c.fld F.SLUICE_BUDGET_FLASH_MW) ++ leBytes 4 c.effectiveMw ++ leBytes 4 c.tokensUsed
    ++ leBytes 4 c.supply.ridden ++ leBytes 4 c.supply.commits ++ leBytes 4 (c.fld F.RESV_PFSTAT_MIN_MV)
    ++ le16 ((c.validDies.map (·.2)).max?.getD 0) ++ le16 (c.flashTemps.max?.getD 0) ++ le16 (c.flashTemps.min?.getD 0))

/-- LOG_PAGE_C1 (R490). -/
def execLogPageC1 (tag : Nat) (s : State) : Outcome := onChip (fun c => c.pfPage tag fun _ c => c.pageC1) s

/-! Page 0xC2 (R527, R528) -/

/-- The cursor of a request: the offset where LSP [2] is set, otherwise the oldest entry. -/
def Chip.pageC2 (c : Chip) (x : Ctx) : List Byte :=
  let source := x.lsp % 4
  if bitOf x.lsp 2 then
    c.recPage source (if source = 2 then x.logOff / 2 ^ 48 else 0) (if source = 2 then x.logOff % 2 ^ 48 else x.logOff) x.logLen
  else (c.recPage source 0 (((c.recSource source 0).head?.map (·.1)).getD 0) (x.logOff + x.logLen)).drop x.logOff

/-- LOG_PAGE_C2 (R527, R528). -/
def execLogPageC2 (tag : Nat) (s : State) : Outcome :=
  onChip (fun c => c.admin tag fun x c =>
    if !isPf x.fn then c.complete tag .invalidLogPage
    else if x.lsp % 4 = 3 then c.complete tag .invalidField
    else (c.emit (.hostData tag 0 ((c.pageC2 x).take x.logLen))).complete tag .success) s

/-! Pages 0xC3 to 0xC5 -/

/-- Log page 0xC3 (R375). -/
def Chip.pageC3 (c : Chip) : List Byte :=
  let row := fun (e : Nat × Nat × Nat × Nat × Nat × Nat) => leBytes 4 e.1 ++ leBytes 2 e.2.1 ++ leBytes 2 0 ++ leBytes 4 e.2.2.1 ++ leBytes 4 0
    ++ leBytes 8 e.2.2.2.1 ++ stampBytes e.2.2.2.2
  padTo 128 (leBytes 4 1 ++ leBytes 1 c.rbState ++ leBytes 1 c.degMax ++ leBytes 2 0 ++ leBytes 8 (c.fld F.STRIPE_MEMSTAT_LOST)
      ++ leBytes 4 c.m.retired ++ leBytes 4 c.noSpare ++ leBytes 8 c.m.slotsTotal ++ leBytes 8 c.m.slotsDone ++ leBytes 8 c.critRows
      ++ leBytes 8 c.m.rowsLost ++ leBytes 8 c.rbEta ++ stampBytes c.m.rbStart ++ leBytes 4 (c.rbRate / 1000000)
      ++ (c.z.journal.trio.take 3).flatMap (leBytes 1))
    ++ padTo 384 ((List.range 36).flatMap fun m => leBytes 4 (c.memberSpares m)) ++ padTo 512 ((c.m.lostList.take 16).flatMap row)

/-- LOG_PAGE_C3 (R375). -/
def execLogPageC3 (tag : Nat) (s : State) : Outcome := onChip (fun c => c.pfPage tag fun _ c => c.pageC3) s

/-- Log page 0xC4 (R348). -/
def Chip.pageC4 (c : Chip) : List Byte :=
  let p := c.m.patrol
  padTo 96 (leBytes 4 1 ++ leBytes 4 (c.fld F.PATROL_LAP_LAP) ++ stampBytes p.startTs ++ leBytes 2 c.lapDays
      ++ leBytes 2 (c.fld F.PATROL_LAP_PROGRESS)
      ++ leBytes 1 (c.fld F.PATROL_STAT_BEHIND + 2 * c.fld F.PATROL_STAT_RESTART + 4 * c.fld F.PATROL_SCAN_ACTIVE) ++ leBytes 3 0
      ++ leBytes 4 p.lastTime ++ leBytes 4 0 ++ leBytes 8 p.pages ++ leBytes 8 p.pagesLast ++ leBytes 8 p.marksLast ++ leBytes 8 p.escalatedLast
      ++ leBytes 8 p.uncorrLast ++ leBytes 8 p.lostLast ++ leBytes 8 p.verifiedLast ++ leBytes 8 p.mismatchLast)
    ++ padTo 416 ((List.range 32).flatMap fun k => leBytes 8 (mget 0 p.histLast k))

/-- LOG_PAGE_C4 (R348). -/
def execLogPageC4 (tag : Nat) (s : State) : Outcome := onChip (fun c => c.pfPage tag fun _ c => c.pageC4) s

/-- LOG_PAGE_C5 (R433): the issuing PF's family. -/
def execLogPageC5 (tag : Nat) (s : State) : Outcome := onChip (fun c => c.pfPage tag fun x c => c.pageC5 (portOf x.fn)) s

end Sys2Proof.Machine
end

