-- ==== Sys2Proof/Machine/Csr.lean ====
section
/-! DEFINITION. Accesses of the cores and of hosts to registers and memories: the field rules of R8, what a write of each command field starts,
the memory map of R32 and its faults (R33 to R39). -/

namespace Sys2Proof.Machine

/-- The state after a meaning that answers one. -/
def nextOf (f : State → Outcome) (s : State) : State :=
  match f s with
  | .next t => t
  | .fault _ => s
  | .refused _ => s

/-! The field rules (R8) -/

/-- What a write leaves in a field: `old` its bits before, `new` those written, `m` the bits the access reaches. -/
def fieldWrite (ty : FieldType) (locked : Bool) (old new m : Nat) : Nat :=
  let set := (new &&& m) + (old - (old &&& m))
  match ty with
  | .ro => old
  | .rc => old
  | .rw => set
  | .rw1c => old - (old &&& (new &&& m))
  | .rw1s => old ||| (new &&& m)
  | .wo => set
  | .rwl => if locked then old else set

/-- Whether the lock of a register's RWL fields is set. -/
def Chip.locked (c : Chip) (r : RegId) (i : Nat) : Bool := (lockOf r).any fun (f : Fld) => c.flag f (lockIndex r i)

/-- A register written under R8, bits of `mask`. A write-only field keeps nothing, but for the key stage that LOAD takes its bytes from (R405);
a running PWR_TIMER is taken at its present count. -/
def Chip.writeFields (c : Chip) (r : RegId) (i v mask : Nat) : Chip :=
  let old := if r = .pwrTimer then c.regRead r i else c.reg r i
  let locked := c.locked r i
  c.setReg r i ((regFields r).foldl (fun w (f : FieldSpec) =>
    if f.ty = .wo && r != .keysStage then w
    else putBits w f.hi f.lo (fieldWrite f.ty locked (bitsOf old f.hi f.lo) (bitsOf v f.hi f.lo) (bitsOf mask f.hi f.lo))) old)

/-- A register as it reads, and after the read: fields that clear on read are 0 (R8). -/
def Chip.readClear (c : Chip) (r : RegId) (i mask : Nat) : Nat × Chip :=
  (c.regRead r i, c.setReg r i ((regFields r).foldl (fun w (f : FieldSpec) =>
    if f.ty = .rc then let o := bitsOf w f.hi f.lo; putBits w f.hi f.lo (o - (o &&& bitsOf mask f.hi f.lo)) else w) (c.reg r i)))

/-! What a write starts -/

/-- A write under way: the bits it sets to 1 where it reaches, and the register as it would read with them. -/
structure RegWrite where
  core : Nat
  idx  : Nat
  v    : Nat
  mask : Nat
  old  : Nat
  ext  : List Byte
  dur  : Nat
  deriving DecidableEq, Repr

/-- A one-bit field is written 1; the value a field would have. -/
def RegWrite.go (w : RegWrite) (f : Fld) : Bool := bitOf w.v f.lo && bitOf w.mask f.lo
def RegWrite.val (w : RegWrite) : Nat := (w.v &&& w.mask) + (w.old - (w.old &&& w.mask))
def RegWrite.fld (w : RegWrite) (f : Fld) : Nat := bitsOf w.val f.hi f.lo
def RegWrite.bit (w : RegWrite) (f : Fld) : Bool := bitOf w.val f.lo

/-- The registers whose write is not a plain write of fields: the meaning of their own row stores what it accepts. -/
def ownStore : RegId → Bool
  | .hpAnast | .zmapNsz | .xtsNscfg | .tenantFncfg | .tenantNscfg | .confCtl | .sysBoot | .drcSpare | .pwrDom | .digestCtl | .digestLen | .digestSrc
  | .digestData => true
  | _ => false

/-- Do a meaning where a condition holds. -/
def when (b : Bool) (f : State → Outcome) (s : State) : State := if b then nextOf f s else s

/-- Writes to HP, INTAKE, CONF, ZMAP, LEDGER, SLUICE and SCHED registers (R41, R66, R73, R116, R122, R129, R189, R227, R478). -/
def effectA (r : RegId) (w : RegWrite) (s : State) : State :=
  match r with
  | .hpCtl =>
    let was := bitOf w.old F.HP_CTL_LINK_DIS.lo
    let s := when (!was && w.bit F.HP_CTL_LINK_DIS) (execLinkDisable w.idx) s
    let s := if was && !w.bit F.HP_CTL_LINK_DIS then { s with chip := s.chip.train w.idx } else s
    when (w.go F.HP_CTL_RETRAIN) (execRetrain w.idx) s
  | .hpAnast => nextOf (execAnaStateWrite (w.idx / 64) (w.idx % 64) w.val) s
  | .intakeFwact => when (w.go F.INTAKE_FWACT_RESUME) execFetchResume (when (w.go F.INTAKE_FWACT_DRAIN_REQ) execDrainRequest s)
  | .confCtl => when (w.go F.CONF_CTL_SEQ_LOCK) (execConfSeqLock none) s
  | .zmapNsz => nextOf (execZmapNszWrite (w.idx + 1) (w.fld F.ZMAP_NSZ_MAR) (w.fld F.ZMAP_NSZ_MOR)) s
  | .ledgerCtl | .ledgerFixed | .ledgerChg0 | .ledgerChg1 => { s with chip := Chip.commitAll s.chip.ledgerPump }
  | .sluiceBudget => nextOf (execSluiceBudgetWrite (w.fld F.SLUICE_BUDGET_FLASH_MW)) s
  | .sluiceCost | .sluiceCost2 | .sluiceCtl => { s with chip := s.chip.sluiceGo }
  | .schedLatctl => when (w.go F.SCHED_LATCTL_SNAP) execLatencySnapshot s
  | _ => s

/-- The die that SCH and DIE fields name on a port. -/
def dieAt (port sch die : Nat) : Nat := port * 128 + sch * 16 + die

/-- Writes to BINOR, SEQ, RECLAIM and STRIPE registers (R243, R270, R273, R275, R293, R310, R336, R353, R362). -/
def effectB (r : RegId) (w : RegWrite) (s : State) : State :=
  match r with
  | .binorCtl =>
    let s := when (w.go F.BINOR_CTL_FULL_TRAIN) (execFullTrain w.idx) s
    let s := when (w.go F.BINOR_CTL_FAST_RETRAIN) (execFastRetrain w.idx) s
    when (w.go F.BINOR_CTL_PARK) (execPark w.idx) s
  | .seqFdqPtr => nextOf (execFdqTailWrite w.idx (w.fld F.SEQ_FDQ_PTR_TAIL)) s
  | .seqFcq => if s.chip.locked .seqFcq w.idx then s else { s with chip := s.chip.modM fun m => { m with fcqPhase := pdel m.fcqPhase w.idx } }
  | .seqFcqPtr => nextOf (execFcqHeadWrite w.idx (w.fld F.SEQ_FCQ_PTR_HEAD)) s
  | .seqBstcmd =>
    if !w.go F.SEQ_BSTCMD_GO then s
    else
      let die := dieAt w.idx (w.fld F.SEQ_BSTCMD_SCH) (w.fld F.SEQ_BSTCMD_DIE)
      let block := w.fld F.SEQ_BSTCMD_BLOCK
      if w.fld F.SEQ_BSTCMD_OP = 1 then nextOf (execSetOwner die block (w.fld F.SEQ_BSTCMD_OWNER)) s
      else if w.fld F.SEQ_BSTCMD_OP = 2 then nextOf (execMarkBad die block) s
      else { s with chip := s.chip.setFld F.SEQ_BSTCMD_RESULT 2 w.idx }
  | .seqDieclr => when (w.go F.SEQ_DIECLR_GO) (execDieClear (dieAt w.idx (w.fld F.SEQ_DIECLR_SCH) (w.fld F.SEQ_DIECLR_DIE))) s
  | .reclaimCmd => when (w.go F.RECLAIM_CMD_GO) (execReclaimCommand (w.fld F.RECLAIM_CMD_POOL)) s
  | .stripePtcmd => when (w.go F.STRIPE_PTCMD_GO && w.fld F.STRIPE_PTCMD_OP == 1) (execPoolForm (w.fld F.STRIPE_PTCMD_POOL)) s
  | .stripeRbcmd =>
    if !w.go F.STRIPE_RBCMD_GO then s
    else
      let m := w.fld F.STRIPE_RBCMD_MEMBER
      if w.fld F.STRIPE_RBCMD_OP = 1 then nextOf (execRebuildMember m) s
      else if w.fld F.STRIPE_RBCMD_OP = 2 then nextOf (execRetireDie (dieAt m (w.fld F.STRIPE_RBCMD_SCH) (w.fld F.STRIPE_RBCMD_DIE))) s
      else { s with chip := s.chip.setFld F.STRIPE_RBCMD_RESULT 2 }
  | _ => s

/-- A write to DIGEST_CTL, _LEN or _SRC is the holder's (R397); a write of DIGEST_CTL without a command sets its fields. -/
def digestWrite (r : RegId) (w : RegWrite) (s : State) : State :=
  if (s.chip.dctx w.idx).any fun d => d.owner == w.core then { s with chip := s.chip.writeFields r w.idx w.v w.mask } else s

/-- Writes to DIGEST, KEYS, XTS and TENANT registers (R397 to R399, R405, R407, R411, R417, R419). -/
def effectC (r : RegId) (w : RegWrite) (s : State) : State :=
  match r with
  | .digestAlloc => when (w.go F.DIGEST_ALLOC_GO) (execDigestAllocate w.idx) s
  | .digestCtl =>
    if w.go F.DIGEST_CTL_START then nextOf (execDigestStart w.core w.idx w.val) s
    else if w.go F.DIGEST_CTL_FINAL then nextOf (execDigestFinal w.core w.idx) s
    else if w.go F.DIGEST_CTL_RELEASE then nextOf (execDigestRelease w.core w.idx) s
    else digestWrite r w s
  | .digestLen | .digestSrc => digestWrite r w s
  | .digestData => nextOf (execDigestData w.core w.idx (w.v &&& w.mask)) s
  | .keysCmd =>
    if !w.go F.KEYS_CMD_GO then s
    else
      let slot := w.fld F.KEYS_CMD_SLOT
      let handle := w.fld F.KEYS_CMD_HANDLE
      let op := w.fld F.KEYS_CMD_OP
      if op = 1 then nextOf (execKeyLoad slot (w.fld F.KEYS_CMD_TYPE) (w.fld F.KEYS_CMD_LEN) (w.fld F.KEYS_CMD_USAGE)) s
      else if op = 2 then nextOf (execKeyClear slot) s
      else if op = 3 then nextOf (execKeyWrap slot handle) s
      else if op = 4 then nextOf (execKeyUnwrap slot handle) s
      else if op = 5 then nextOf (execKeyGenerate handle (w.fld F.KEYS_CMD_TYPE) (w.fld F.KEYS_CMD_USAGE)) s
      else if op = 6 then nextOf (execKeyDrop handle) s
      else { s with chip := s.chip.setFld F.KEYS_CMD_RESULT 3 }
  | .xtsNscfg => nextOf (execXtsNscfgWrite (w.idx + 1) (w.bit F.XTS_NSCFG_EN) (w.fld F.XTS_NSCFG_HANDLE)) s
  | .tenantFncmd =>
    if !w.go F.TENANT_FNCMD_GO then s
    else if w.fld F.TENANT_FNCMD_OP = 1 then nextOf (execFence (w.fld F.TENANT_FNCMD_FN)) s
    else if w.fld F.TENANT_FNCMD_OP = 2 then nextOf (execUnfence (w.fld F.TENANT_FNCMD_FN)) s
    else { s with chip := s.chip.setFld F.TENANT_FNCMD_RESULT 2 }
  | .tenantMigcmd =>
    if !w.go F.TENANT_MIGCMD_GO then s
    else
      let tag := w.fld F.TENANT_MIGCMD_TAG
      let op := w.fld F.TENANT_MIGCMD_OP
      if op = 1 then nextOf (execFunctionFreeze tag) s
      else if op = 2 then nextOf (execFunctionSave tag) s
      else if op = 3 then nextOf (execFunctionRestore tag w.ext) s
      else if op = 4 then nextOf (execFunctionThaw tag) s
      else s
  | .tenantFncfg => nextOf (execTenantFncfgWrite w.idx w.val) s
  | .tenantNscfg => nextOf (execTenantNscfgWrite (w.idx + 1) w.val) s
  | _ => s

/-- Writes to DRC, RESV and PWR registers (R450, R460 to R464, R474, R476, R483, R484, R495, R498, R501). -/
def effectD (r : RegId) (w : RegWrite) (s : State) : State :=
  match r with
  | .drcOp => when (w.go F.DRC_OP_REQ) (execOperatingPointChange w.idx (w.fld F.DRC_OP_TARGET)) s
  | .drcRetcmd =>
    if !w.go F.DRC_RETCMD_GO then s
    else if w.fld F.DRC_RETCMD_OP = 2 then nextOf (execRetireBank w.idx (w.fld F.DRC_RETCMD_ADDR)) s
    else { s with chip := s.chip.retCmd w.idx (w.fld F.DRC_RETCMD_OP) (w.fld F.DRC_RETCMD_ADDR) }
  | .drcSpare =>
    if w.go F.DRC_SPARE_LOCK then nextOf (execSpareLock (w.fld F.DRC_SPARE_BASE) (w.fld F.DRC_SPARE_SIZE_MIB)) s
    else { s with chip := s.chip.writeFields r w.idx w.v w.mask }
  | .resvCtl =>
    let c := s.chip.setFld F.RESV_CTL_CHG_EN (bitsOf w.old 1 1)
    when (w.go F.RESV_CTL_TEST_NOW) execTestNow { s with chip := c.chargeEnable (w.bit F.RESV_CTL_CHG_EN) }
  | .resvFan => nextOf (execFanDutyWrite (w.fld F.RESV_FAN_DUTY)) s
  | .resvHeat | .resvTlim => { s with chip := s.chip.thermal }
  | .pwrDom =>
    let c := s.chip.writeFields r w.idx w.v (w.mask &&& 0xC00000000000)
    let c := c.arm w.idx (w.fld F.PWR_DOM_ARM) (w.fld F.PWR_DOM_OWNER) (w.fld F.PWR_DOM_WAKEEN)
    when (w.go F.PWR_DOM_WAKE) (execDomainWake w.idx) { s with chip := c }
  | .pwrTimer => { s with chip := s.chip.modPwr fun p => { p with timerAt := s.chip.now } }
  | _ => s

/-- Writes to EVREC and SYS registers and to a core's side of the recorder window and of the mailbox doorbell (R60, R529, R530, R533, R535, R542,
R545, R546, R549). -/
def effectE (r : RegId) (w : RegWrite) (s : State) : State :=
  match r with
  | .evwCur =>
    when (w.go F.EVW_CUR_GO) (execEventWindowRead w.idx (w.fld F.EVW_CUR_SOURCE) (w.fld F.EVW_CUR_IMAGE) (w.fld F.EVW_CUR_CURSOR)) s
  | .evrecClrcmd => when (w.go F.EVREC_CLRCMD_GO) (execEventClear (w.fld F.EVREC_CLRCMD_TAG) w.ext) s
  | .evrecPost =>
    let items := (List.range (min 6 (w.fld F.EVREC_POST_ITEMS))).map fun i => s.chip.reg .evrecPdata (w.idx * 6 + i)
    when (w.go F.EVREC_POST_GO) (execFirmwareEventPost w.idx (w.fld F.EVREC_POST_ID) items) s
  | .sysBoot => when (w.go F.SYS_BOOT_HANDOFF) execHandoff s
  | .sysWdog => when (w.go F.SYS_WDOG_KICK) execWatchdogKick s
  | .sysFwact =>
    when (w.go F.SYS_FWACT_GO) (execFirmwareActivation (w.fld F.SYS_FWACT_SLOT) (w.fld F.SYS_FWACT_STAGE * 4096) w.dur) s
  | .sysRst => when (w.go F.SYS_RST_WARM) execSoftwareWarmReset s
  | .sysSvn => when (w.go F.SYS_SVN_BURN) (execSvnBurn (w.fld F.SYS_SVN_VALUE)) s
  | .sysCwdog =>
    let starts := w.go F.SYS_CWDOG_KICK || (w.bit F.SYS_CWDOG_EN && !bitOf w.old F.SYS_CWDOG_EN.lo)
    when starts (execCoreWatchdogKick w.idx) s
  | .bar2AsgCmd => when (w.go F.BAR2_ASG_CMD_GO) (execAssignmentCommit w.idx (w.fld F.BAR2_ASG_CMD_INDEX)) s
  | .bar2MbxDb => when (w.go F.BAR2_MBX_DB_TO_FW) (execMailboxToFw w.idx) s
  | _ => s

/-- Bits that the plain write of a register leaves to its own row: DRAIN_REQ, SNAP and TO_FW start something. -/
def storeMask (r : RegId) (mask : Nat) : Nat :=
  match r with
  | .intakeFwact => putBits mask 63 63 0
  | .bar2MbxDb => putBits mask 0 0 0
  | _ => mask

/-- A register is written (R8), and what the write starts is done. -/
def regStore (r : RegId) (i core v mask : Nat) (ext : List Byte) (dur : Nat) (s : State) : State :=
  let w : RegWrite := ⟨core, i, v, mask, s.chip.regRead r i, ext, dur⟩
  let s := if ownStore r then s else { s with chip := s.chip.writeFields r i v (storeMask r mask) }
  effectE r w (effectD r w (effectC r w (effectB r w (effectA r w s))))

/-! Registers of absent or shared blocks -/

/-- The port of a SEQ or BINOR register. -/
def regPort (r : RegId) (i : Nat) : Option Nat :=
  match r with
  | .binorTemp => some (i / 9)
  | .binorCtl | .binorStat | .binorBrid | .binorBrcap | .binorErr | .binorErr2 | .binorCred | .binorCmdq | .binorEq
  | .seqCtl | .seqProf | .seqFdq | .seqFdqPtr | .seqFcq | .seqFcqPtr | .seqBst | .seqBstcmd | .seqTmo | .seqStat | .seqDieclr | .seqCnt
  | .seqCnt2 => some i
  | _ => none

/-- Registers that read 0 and ignore writes: those of fused fabric ports (R3, R38). -/
def Chip.regAbsent (c : Chip) (r : RegId) (i : Nat) : Bool := (regPort r i).any fun (p : Nat) => !c.portIn p

/-- The copy of a register a core reaches: EVREC_POST and its items are banked per core (R533). -/
def bankOf (core : Nat) (r : RegId) (i : Nat) : Nat :=
  match r with
  | .evrecPost => core
  | .evrecPdata => core * 6 + i % 6
  | _ => i

/-- Copies of a register. -/
def regCount (r : RegId) : Nat := (regPlace r).count1 * (regPlace r).count2

/-- A write of a core to a register: HP1_CTL and HP3_CTL of merged pairs are ignored (R41); of the mailbox doorbell a core sets TO_HOST and
clears TO_FW. -/
def coreStore (core : Nat) (r : RegId) (i v mask : Nat) (ext : List Byte) (dur : Nat) (s : State) : State :=
  let c := s.chip
  let i := bankOf core r i
  if i ≥ regCount r || c.regAbsent r i then s
  else if r = .hpCtl && c.lead i != i then s
  else if r = .bar2MbxDb then
    let s := if bitOf (v &&& mask) 0 then { s with chip := c.setFld F.BAR2_MBX_DB_TO_FW 0 i } else s
    when (bitOf (v &&& mask) 1) (execMailboxToHost i) s
  else regStore r i core v mask ext dur s

/-- A register as a core reads it, and the part after it. HP1_LSTAT and HP3_LSTAT of merged pairs read as the pair's (R41). -/
def Chip.coreLoad (c : Chip) (core : Nat) (r : RegId) (i mask : Nat) : Nat × Chip :=
  let i := bankOf core r i
  if i ≥ regCount r || c.regAbsent r i then (0, c)
  else if r = .hpLstat then c.readClear r (c.lead i) mask
  else c.readClear r i mask

/-! The memory map of the cores (R32 to R37, R502) -/

/-- Every 64-bit mask bit. -/
def wholeMask : Nat := 2 ^ 64 - 1

/-- The block of R35 an address lies in, by its power domain (R12, R492); `none` where it lies in none (R37). -/
def blockDomain (a : Nat) : Option Nat :=
  let o := a - 0xF000000000
  if a < 0xF000000000 then none
  else if o < 0x200000 then some 0
  else if o < 0x300000 then some (1 + (o - 0x200000) / 0x40000)
  else if 0x400000 ≤ o ∧ o < 0x900000 then some 31
  else if 0x1000000 ≤ o ∧ o < 0x1240000 then some (5 + (o - 0x1000000) / 0x60000)
  else if 0x1400000 ≤ o ∧ o < 0x1640000 then some (5 + (o - 0x1400000) / 0x60000)
  else if 0x1800000 ≤ o ∧ o < 0x1B00000 then some 31
  else if 0x1B00000 ≤ o ∧ o < 0x1D00000 then some 32
  else if 0x1D00000 ≤ o ∧ o < 0x1E00000 then some 31
  else if 0x2000000 ≤ o ∧ o < 0x2800000 then some (11 + (o - 0x2000000) / 0x100000)
  else if 0x3000000 ≤ o ∧ o < 0x3200000 then some 0
  else none

/-- The port whose SEQ or BINOR block an address lies in. -/
def blockPort (a : Nat) : Option Nat :=
  let o := a - 0xF000000000
  if 0x1000000 ≤ o ∧ o < 0x1240000 then some ((o - 0x1000000) / 0x10000)
  else if 0x1400000 ≤ o ∧ o < 0x1640000 then some ((o - 0x1400000) / 0x10000)
  else none

/-- The index of the copy of a register that stands at an address. -/
def placeIndex (p : RegPlace) (a : Nat) : Option Nat :=
  let d := a - p.base
  let i := if p.stride1 = 0 then 0 else d / p.stride1
  let e := d - i * p.stride1
  let j := if p.stride2 = 0 then 0 else e / p.stride2
  if !p.hostOnly && decide (p.base ≤ a) && decide (i < p.count1) && decide (j < p.count2) && decide (i * p.stride1 + j * p.stride2 = d) then
    some (i * p.count2 + j)
  else none

/-- The register at an aligned address of the CSR space. The recorder window of firmware stands at EVREC offset 0x1000 (R529), and DRC0_SPARE reads
at DRC1 to DRC7 too. -/
def regAt (a : Nat) : Option (RegId × Nat) :=
  if a = 0xF003101000 then some (.evwCur, 4)
  else if a = 0xF003101008 then some (.evwStat, 4)
  else if a = 0xF003101010 then some (.evwNext, 4)
  else if 0xF002100000 ≤ a ∧ a < 0xF002800000 ∧ a % 0x100000 = 0x60 then some (.drcSpare, 0)
  else allRegs.findSome? fun (r : RegId) => (placeIndex (regPlace r) a).map fun i => (r, i)

/-- Eight bytes of the data area of a recorder window (R529). -/
def Chip.windowWord (c : Chip) (win off : Nat) : Nat :=
  let bytes := ((pget c.ev.windows win).getD []).flatten
  ((List.range 8).map fun i => bytes.getD (off + i) 0 % 256 * 2 ^ (8 * i)).sum

/-- A 64-bit word of the CSR space as a core reads it: 0 where no register stands (R37). -/
def Chip.csrLoad (c : Chip) (core a mask : Nat) : Nat × Chip :=
  if 0xF003101100 ≤ a ∧ a < 0xF003102000 then (c.windowWord 4 (a - 0xF003101100), c)
  else match regAt a with
    | some (r, i) => c.coreLoad core r i mask
    | none => (0, c)

/-- A core's store to the CSR space: ignored where no register stands (R37), and at the copies of DRC0_SPARE. -/
def csrStore (q : CoreReq) (a v mask : Nat) (s : State) : State :=
  match regAt a with
  | some (r, i) =>
    if r = .drcSpare && a != 0xF002000060 then s else coreStore q.core r i v mask q.ext q.dur s
  | none => s

/-- A core's access to the CSR space (R36 to R38, R502): unmapped, then width and alignment, then the domain. -/
def csrAccess (q : CoreReq) (s : State) : State :=
  let c := s.chip
  match blockDomain q.addr with
  | none => { s with chip := c.accessFault q.core 1 q.addr }
  | some d =>
    if (q.width != 4 && q.width != 8) || q.addr % q.width != 0 then { s with chip := c.accessFault q.core 4 q.addr }
    else if (blockPort q.addr).any fun (p : Nat) => !c.portIn p then
      if q.kind = .store then s else { s with chip := c.emit (.coreData q.core 0) }
    else if !c.domOn d then { s with chip := c.accessFault q.core 3 q.addr }
    else
      let a := q.addr - q.addr % 8
      let sh := 2 ^ (8 * (q.addr % 8))
      let mask := if q.width = 8 then wholeMask else 0xFFFFFFFF * sh
      if q.kind = .store then csrStore q a (q.value % 2 ^ 64 * sh) mask s
      else
        let (v, c) := c.csrLoad q.core a mask
        { s with chip := c.emit (.coreData q.core (if q.width = 8 then v else v / sh % 2 ^ 32)) }

/-- A load from, or a store to, memory that `mem` holds at an address. -/
def memAccess (q : CoreReq) (a : Nat) (s : State) : State :=
  if q.kind = .store then writeBytes s a (leBytes q.width q.value)
  else { s with chip := s.chip.emit (.coreData q.core (readNum s a q.width)) }

/-- An access lies whole in a range. -/
def CoreReq.within (q : CoreReq) (lo n : Nat) : Bool := decide (lo ≤ q.addr ∧ q.addr + q.width ≤ lo + n)

/-- A core's access to DRAM: a hardware request of its channel (R440, R502); a channel that is Off faults (R33). -/
def dramAccess (q : CoreReq) (s : State) : State :=
  let c := s.chip
  if q.addr + q.width ≤ c.dramBytes && c.domState (domDc (chanOf q.addr)) = 2 then { s with chip := c.accessFault q.core 3 q.addr }
  else dramReq ⟨.core q.core, q.addr, q.width, if q.kind = .store then some (leBytes q.width q.value) else none, q.ce, q.ue⟩ s

/-- A core's access to the SRAM buffer: every bank it reaches is On (R34, R502). -/
def sbAccess (q : CoreReq) (s : State) : State :=
  let bank := fun (a : Nat) => domSb ((a - 0x10000000000) / 2 ^ 25)
  if s.chip.domOn (bank q.addr) && s.chip.domOn (bank (q.addr + q.width - 1)) then memAccess q q.addr s
  else { s with chip := s.chip.accessFault q.core 3 q.addr }

/-- A core's access to its own TCM (R32); an uncorrectable word restarts the core (R548). -/
def tcmAccess (q : CoreReq) (s : State) : State :=
  match q.tcm with
  | some d => coreRestart q.core d s
  | none => memAccess q (0xE100000000 + q.core * 0x200000 + (q.addr - 0xE000000000)) s

/-- A core's access to the address space (R32 to R34, R502). Read-only memories ignore stores; the ROM's content is the manufacturer's, a free
value. -/
def coreAccess (q : CoreReq) (s : State) : State :=
  let c := s.chip
  if q.width = 0 then s
  else if q.within 0 (2 ^ 39) then dramAccess q s
  else if q.within 0x10000000000 0x10000000 then sbAccess q s
  else if q.within 0x10010000000 0x2000000 then
    if !c.domOn domMx then { s with chip := c.accessFault q.core 3 q.addr }
    else if q.kind = .store then s
    else { s with chip := c.emit (.coreData q.core (leNum ((List.range q.width).map fun i => c.contextByte (q.addr - 0x10010000000 + i)))) }
  else if q.within 0xE000000000 0x200000 then tcmAccess q s
  else if q.within 0xE100000000 0x2000000 then
    if !c.domOn (domCc ((q.addr - 0xE100000000) / 0x800000)) then { s with chip := c.accessFault q.core 3 q.addr }
    else if q.kind = .store then s
    else memAccess q q.addr s
  else if q.within 0xF000000000 0x3200000 then csrAccess q s
  else if q.within 0xFF00000000 0x40000 && c.sys.romMapped then
    if q.kind = .store then s
    else
      let (v, c) := c.take
      { s with chip := c.emit (.coreData q.core (v % 2 ^ (8 * q.width))) }
  else { s with chip := c.accessFault q.core 1 q.addr }

/-- CORE_ACCESS (R33): a core that runs is not in WFI. -/
def execCoreAccess (req : CoreReq) (s : State) : Outcome :=
  onState (fun s =>
    if req.core ≥ 16 then s
    else coreAccess req { s with chip := s.chip.modPwr fun p => { p with wfi := p.wfi.filter (· != req.core) } }) s

/-! Host-visible registers (R49, R59, R423) -/

/-- A write of CC (R83, R112, R115, R423): EN, then SHN, then the other fields. Ignored while a reset is under way. -/
def ccWrite (fn v : Nat) (s : State) : State :=
  let r := s.chip.fn fn
  if r.resetAt.isSome then s
  else if !r.en && bitOf v 0 then nextOf (execControllerEnable fn v) s
  else if r.en && !bitOf v 0 then nextOf (execControllerReset fn) s
  else
    let shn := bitsOf v 15 14
    let was := bitsOf r.cc 15 14
    let s := { s with chip := s.chip.modFn fn fun r => { r with cc := v } }
    if r.en && shn != was && shn = 1 then nextOf (execNormalShutdown fn) s
    else if r.en && shn != was && shn = 2 then nextOf (execAbruptShutdown fn) s
    else s

/-- A write to BAR0 (R49, R75, R423); a vector that is unmasked while pending is signalled. -/
def nvmeWrite (fn : Nat) (reg : NvmeReg) (v : Nat) (s : State) : State :=
  let c := s.chip
  if !c.fnExists fn then s
  else match reg with
    | .cc => ccWrite fn (v % 2 ^ 32) s
    | .aqa => { s with chip := c.modFn fn fun r => { r with aqa := v % 2 ^ 32 } }
    | .asq => { s with chip := c.modFn fn fun r => { r with asq := v % 2 ^ 64 / 4096 * 4096 } }
    | .acq => { s with chip := c.modFn fn fun r => { r with acq := v % 2 ^ 64 / 4096 * 4096 } }
    | .intms => { s with chip := c.modFn fn fun r => { r with intms := r.intms ||| v % 2 ^ 32 } }
    | .intmc => { s with chip := c.modFn fn fun r => { r with intms := r.intms - (r.intms &&& v % 2 ^ 32) } }
    | .msix vec mask addr =>
      if vec ≥ 1024 then s
      else
        let c := c.modFn fn fun r => { r with msix := pset r.msix vec ⟨mask, addr⟩ }
        { s with chip := if (c.fn fn).silent then c else c.signalPending fn }
    | .reserved _ => s

/-- A BAR0 register as a host reads it: CSTS at 0x1C, the pending bits from 0xD000 (R49, log 6); reserved offsets read 0. -/
def Chip.nvmeRead (c : Chip) (fn : Nat) : NvmeReg → Nat
  | .cc => (c.fn fn).cc
  | .aqa => (c.fn fn).aqa
  | .asq => (c.fn fn).asq
  | .acq => (c.fn fn).acq
  | .intms => (c.fn fn).intms
  | .intmc => (c.fn fn).intms
  | .msix vec _ _ => ((pget (c.fn fn).msix vec).map MsixEntry.addr).getD 0
  | .reserved off =>
    if off = 0x1C then (c.fn fn).csts
    else if 0xD000 ≤ off ∧ off < 0xD080 then maskOf (((c.fn fn).pba.filter fun v => v / 64 == (off - 0xD000) / 8).map (· % 64))
    else 0

/-- A register of a PF's BAR2 window (R59), by its copy: those of the PF and of its family's entries. -/
def inWindow (pf : Nat) (r : RegId) (i : Nat) : Bool :=
  match r with
  | .bar2AsgQt | .bar2AsgVn | .bar2AsgPasid => i / 256 == pf
  | .bar2WinId | .bar2AsgCmd | .bar2AsgStat | .bar2MbxDb | .evwCur | .evwStat | .evwNext => i == pf
  | _ => false

/-- A write through a PF's BAR2: the mirrors and reserved offsets ignore it. -/
def bar2Write (pf : Nat) (r : RegId) (i v : Nat) (ext : List Byte) (dur : Nat) (s : State) : State :=
  if pf < 4 && inWindow pf r i then regStore r i 16 v wholeMask ext dur s else s

/-- Eight bytes stored in a PF's mailbox. -/
def Chip.mboxStore (c : Chip) (pf off v : Nat) : Chip :=
  if pf < 4 && decide (0x40000 ≤ off ∧ off < 0x50000) then
    c.modSys fun y => { y with mbox := (List.range 8).foldl (fun m i =>
      mset 0 m (pf * 65536 + (off - 0x40000) / 8 * 8 + i) (BitVec.ofNat 8 (v / 2 ^ (8 * i)))) y.mbox }
  else c

/-- A read through a PF's BAR2: registers, the mirrors of SYS_ID, SYS_CAP and HPn_LSTAT. -/
def Chip.bar2Read (c : Chip) (pf : Nat) (r : RegId) (i : Nat) : Nat × Chip :=
  if pf ≥ 4 then (0, c)
  else if inWindow pf r i then c.readClear r i wholeMask
  else match r with
    | .sysId => (c.regRead .sysId 0, c)
    | .sysCap => (c.regRead .sysCap 0, c)
    | .hpLstat => (c.regRead .hpLstat (c.lead pf), c)
    | _ => (0, c)

/-- The mailbox and the recorder's data area as a host reads them. -/
def Chip.bar2Word (c : Chip) (pf off : Nat) : Nat :=
  if pf ≥ 4 then 0
  else if 0x40000 ≤ off ∧ off < 0x50000 then
    leNum ((List.range 8).map fun i => mget 0 c.sys.mbox (pf * 65536 + (off - 0x40000) / 8 * 8 + i))
  else if 0x20100 ≤ off ∧ off < 0x21000 then c.windowWord pf (off - 0x20100)
  else 0

/-- The power domain of a core's register (R502). -/
def regDomain (r : RegId) (i : Nat) : Nat := if (regPlace r).hostOnly then 0 else (blockDomain (regAddr r i)).getD 0

/-- A core may reach a register by name: its domain is On, and hosts' registers only at the doorbell and at firmware's window. -/
def coreMay (r : RegId) (i : Nat) : Bool := !(regPlace r).hostOnly || r == .bar2MbxDb || ((r == .evwCur || r == .evwStat || r == .evwNext) && i == 4)

/-- REGISTER_WRITE (R8, R33, R49, R59): 64 bits to a register, by the core or host that the target names; `ext` is what the operation it starts fetches
from the host, `dur` its duration. -/
def execRegisterWrite (target : RegTarget) (value : Nat) (ext : List Byte) (dur : Nat) (s : State) : Outcome :=
  onState (fun s =>
    match target with
    | .csr core r i =>
      if core ≥ 16 || !coreMay r i then s
      else if !s.chip.regAbsent r i && !s.chip.domOn (regDomain r i) then { s with chip := s.chip.accessFault core 3 (regAddr r i) }
      else coreStore core r i (value % 2 ^ 64) wholeMask ext dur s
    | .bar2 pf r i => bar2Write pf r i (value % 2 ^ 64) ext dur s
    | .nvme fn reg => nvmeWrite fn reg value s
    | .bar2Data pf off => { s with chip := s.chip.mboxStore pf off value }) s

/-- REGISTER_READ_CLEAR (R8, R33, R49, R59): the value goes to the core or host; fields that clear on read are 0 afterwards. -/
def execRegisterReadClear (target : RegTarget) (s : State) : Outcome :=
  onChip (fun c =>
    match target with
    | .csr core r i =>
      if core ≥ 16 || !coreMay r i then c
      else if !c.regAbsent r i && !c.domOn (regDomain r i) then c.accessFault core 3 (regAddr r i)
      else
        let (v, c) := c.coreLoad core r i wholeMask
        c.emit (.coreData core v)
    | .bar2 pf r i =>
      let (v, c) := c.bar2Read pf r i
      c.emit (.hostRead (pf * 256) v)
    | .nvme fn reg => c.emit (.hostRead fn (if c.fnExists fn then c.nvmeRead fn reg else 0))
    | .bar2Data pf off => c.emit (.hostRead (pf * 256) (c.bar2Word pf off))) s

end Sys2Proof.Machine
end

