-- ==== Sys2Proof/Machine/Dispatch.lean ====
section
/-! DEFINITION. exec: one arm per command, each one direct call of its meaning. -/

namespace Sys2Proof.Machine

/-- The effect of a command. -/
def exec (i : Instr) (s : State) : Host.Outcome State Fault Refusal :=
  match i with
  -- 00_scope
  | .registerWrite target value ext dur => Sys2Proof.Machine.execRegisterWrite target value ext dur s
  | .registerReadClear target => Sys2Proof.Machine.execRegisterReadClear target s
  | .powerOnReset => Sys2Proof.Machine.execPowerOnReset s
  -- 01_architecture
  | .clockLoss clock => Sys2Proof.Machine.execClockLoss clock s
  | .coreAccess req => Sys2Proof.Machine.execCoreAccess req s
  -- 02_host_ports_and_functions
  | .perstDeassert port => Sys2Proof.Machine.execPerstDeassert port s
  | .perstAssert port => Sys2Proof.Machine.execPerstAssert port s
  | .linkTrainingDone port speed width flit => Sys2Proof.Machine.execLinkTrainingDone port speed width flit s
  | .retrain port => Sys2Proof.Machine.execRetrain port s
  | .linkDisable port => Sys2Proof.Machine.execLinkDisable port s
  | .hotReset port => Sys2Proof.Machine.execHotReset port s
  | .linkDown port ltssm => Sys2Proof.Machine.execLinkDown port ltssm s
  | .configRequest fn act => Sys2Proof.Machine.execConfigRequest fn act s
  | .l0pNarrow port width => Sys2Proof.Machine.execL0pNarrow port width s
  | .l0pWiden port width => Sys2Proof.Machine.execL0pWiden port width s
  | .d3hotEntry fn => Sys2Proof.Machine.execD3hotEntry fn s
  | .d0Return fn => Sys2Proof.Machine.execD0Return fn s
  -- 03_command_intake_and_completion
  | .sqTailDoorbell fn qid value => Sys2Proof.Machine.execSqTailDoorbell fn qid value s
  | .cqHeadDoorbell fn qid value => Sys2Proof.Machine.execCqHeadDoorbell fn qid value s
  -- 02_host_ports_and_functions
  | .assignmentCommit pf index => Sys2Proof.Machine.execAssignmentCommit pf index s
  | .namespaceAttachment tag list => Sys2Proof.Machine.execNamespaceAttachment tag list s
  | .mailboxToFw pf => Sys2Proof.Machine.execMailboxToFw pf s
  | .mailboxToHost pf => Sys2Proof.Machine.execMailboxToHost pf s
  | .atsInvalidation port fn pasid page count => Sys2Proof.Machine.execAtsInvalidation port fn pasid page count s
  | .ideKeyInstall port stream fns => Sys2Proof.Machine.execIdeKeyInstall port stream fns s
  | .unboundStreamTlp fn stream => Sys2Proof.Machine.execUnboundStreamTlp fn stream s
  | .ideIntegrityFailure port stream => Sys2Proof.Machine.execIdeIntegrityFailure port stream s
  | .anaStateWrite port k value => Sys2Proof.Machine.execAnaStateWrite port k value s
  | .reservationRegister tag keys => Sys2Proof.Machine.execReservationRegister tag keys s
  | .reservationAcquire tag keys => Sys2Proof.Machine.execReservationAcquire tag keys s
  | .reservationRelease tag keys => Sys2Proof.Machine.execReservationRelease tag keys s
  | .reservationReport tag => Sys2Proof.Machine.execReservationReport tag s
  | .dmaReadTimeout rd => Sys2Proof.Machine.execDmaReadTimeout rd s
  | .poisonedCompletion rd => Sys2Proof.Machine.execPoisonedCompletion rd s
  | .poisonedWriteTlp fn off => Sys2Proof.Machine.execPoisonedWriteTlp fn off s
  -- 03_command_intake_and_completion
  | .fetchTurn => Sys2Proof.Machine.execFetchTurn s
  | .submissionEntryFetched tag sqe ptr => Sys2Proof.Machine.execSubmissionEntryFetched tag sqe ptr s
  | .createIoSubmissionQueue tag => Sys2Proof.Machine.execCreateIoSubmissionQueue tag s
  | .createIoCompletionQueue tag => Sys2Proof.Machine.execCreateIoCompletionQueue tag s
  | .setFeatures tag data => Sys2Proof.Machine.execSetFeatures tag data s
  -- 05_write_commit_and_atomicity
  | .identify tag => Sys2Proof.Machine.execIdentify tag s
  -- 04_zones_and_placement
  | .asynchronousEventRequest tag => Sys2Proof.Machine.execAsynchronousEventRequest tag s
  | .getLbaStatus tag => Sys2Proof.Machine.execGetLbaStatus tag s
  -- 10_stripe_redundancy_and_rebuild
  | .formatNvm tag => Sys2Proof.Machine.execFormatNvm tag s
  -- 03_command_intake_and_completion
  | .claimGranted slice tag => Sys2Proof.Machine.execClaimGranted slice tag s
  | .hostDataFetched tag units => Sys2Proof.Machine.execHostDataFetched tag units s
  | .energyAdmissionTimeout tag => Sys2Proof.Machine.execEnergyAdmissionTimeout tag s
  | .postCompletion tag => Sys2Proof.Machine.execPostCompletion tag s
  | .coalescingTimerExpiry fn vec => Sys2Proof.Machine.execCoalescingTimerExpiry fn vec s
  | .abort tag => Sys2Proof.Machine.execAbort tag s
  | .abortDecision tag => Sys2Proof.Machine.execAbortDecision tag s
  | .flush tag => Sys2Proof.Machine.execFlush tag s
  | .controllerEnable fn cc => Sys2Proof.Machine.execControllerEnable fn cc s
  | .controllerReset fn => Sys2Proof.Machine.execControllerReset fn s
  | .resetDrainComplete fn => Sys2Proof.Machine.execResetDrainComplete fn s
  | .resetDrainTimeout fn => Sys2Proof.Machine.execResetDrainTimeout fn s
  | .functionLevelReset fn => Sys2Proof.Machine.execFunctionLevelReset fn s
  | .normalShutdown fn => Sys2Proof.Machine.execNormalShutdown fn s
  | .shutdownCheckpointDone fn => Sys2Proof.Machine.execShutdownCheckpointDone fn s
  | .abruptShutdown fn => Sys2Proof.Machine.execAbruptShutdown fn s
  -- 17_boot_firmware_and_fault_guarantees
  | .firmwareImageDownload tag data => Sys2Proof.Machine.execFirmwareImageDownload tag data s
  | .firmwareCommit tag => Sys2Proof.Machine.execFirmwareCommit tag s
  -- 03_command_intake_and_completion
  | .drainRequest => Sys2Proof.Machine.execDrainRequest s
  | .firmwareDrainComplete => Sys2Proof.Machine.execFirmwareDrainComplete s
  | .drainLimitExpiry => Sys2Proof.Machine.execDrainLimitExpiry s
  | .fetchResume => Sys2Proof.Machine.execFetchResume s
  -- 17_boot_firmware_and_fault_guarantees
  | .firmwareActivation slot stage dur => Sys2Proof.Machine.execFirmwareActivation slot stage dur s
  -- 03_command_intake_and_completion
  | .confSeqLock next => Sys2Proof.Machine.execConfSeqLock next s
  -- 04_zones_and_placement
  | .namespaceCreate tag size fmt ext group handles => Sys2Proof.Machine.execNamespaceCreate tag size fmt ext group handles s
  | .namespaceDelete tag => Sys2Proof.Machine.execNamespaceDelete tag s
  | .zmapNszWrite nsid mar mor => Sys2Proof.Machine.execZmapNszWrite nsid mar mor s
  | .write tag => Sys2Proof.Machine.execWrite tag s
  -- 03_command_intake_and_completion
  | .zoneAppend tag => Sys2Proof.Machine.execZoneAppend tag s
  -- 04_zones_and_placement
  | .writeZeroes tag => Sys2Proof.Machine.execWriteZeroes tag s
  | .datasetManagement tag ranges => Sys2Proof.Machine.execDatasetManagement tag ranges s
  | .read tag => Sys2Proof.Machine.execRead tag s
  | .compare tag => Sys2Proof.Machine.execCompare tag s
  | .verify tag => Sys2Proof.Machine.execVerify tag s
  | .zoneOpen tag => Sys2Proof.Machine.execZoneOpen tag s
  | .zoneClose tag => Sys2Proof.Machine.execZoneClose tag s
  | .zoneFinish tag => Sys2Proof.Machine.execZoneFinish tag s
  | .zoneReset tag => Sys2Proof.Machine.execZoneReset tag s
  | .zoneOffline tag => Sys2Proof.Machine.execZoneOffline tag s
  | .setZoneDescriptorExtension tag data => Sys2Proof.Machine.execSetZoneDescriptorExtension tag data s
  | .zoneManagementReceive tag => Sys2Proof.Machine.execZoneManagementReceive tag s
  | .poolBind target => Sys2Proof.Machine.execPoolBind target s
  | .bindingWaitExpiry tag => Sys2Proof.Machine.execBindingWaitExpiry tag s
  | .openAgeExpiry handle => Sys2Proof.Machine.execOpenAgeExpiry handle s
  | .controllerFinish zone => Sys2Proof.Machine.execControllerFinish zone s
  | .fzrAgeExpiry zone => Sys2Proof.Machine.execFzrAgeExpiry zone s
  | .checkpointPassStart => Sys2Proof.Machine.execCheckpointPassStart s
  -- 05_write_commit_and_atomicity
  | .rowWaitExpiry part => Sys2Proof.Machine.execRowWaitExpiry part s
  | .gatherWindowExpiry pair => Sys2Proof.Machine.execGatherWindowExpiry pair s
  | .basinFold => Sys2Proof.Machine.execBasinFold s
  | .journalBatchExpiry => Sys2Proof.Machine.execJournalBatchExpiry s
  | .ledgerAdmitOperation op => Sys2Proof.Machine.execLedgerAdmitOperation op s
  | .ledgerAdmitCommitment tag => Sys2Proof.Machine.execLedgerAdmitCommitment tag s
  | .supplyWarning mv => Sys2Proof.Machine.execSupplyWarning mv s
  | .brownoutRidden => Sys2Proof.Machine.execBrownoutRidden s
  | .confirmationWindowExpiry => Sys2Proof.Machine.execConfirmationWindowExpiry s
  | .supplyResetLevel mv => Sys2Proof.Machine.execSupplyResetLevel mv s
  | .pfJournalFlush => Sys2Proof.Machine.execPfJournalFlush s
  -- 16_event_recorder
  | .pfRecorderFlush => Sys2Proof.Machine.execPfRecorderFlush s
  -- 05_write_commit_and_atomicity
  | .pfEndWrite => Sys2Proof.Machine.execPfEndWrite s
  | .pfPowerOff => Sys2Proof.Machine.execPfPowerOff s
  -- 14_reservoir_power_and_thermal
  | .supplyHoldExpiry => Sys2Proof.Machine.execSupplyHoldExpiry s
  -- 06_read_path_and_tail_latency
  | .schedReadArrival rd => Sys2Proof.Machine.execSchedReadArrival rd s
  | .d1SuspendAgeExpiry op => Sys2Proof.Machine.execD1SuspendAgeExpiry op s
  | .minRunExpiry op => Sys2Proof.Machine.execMinRunExpiry op s
  | .suspendHoldExpiry die => Sys2Proof.Machine.execSuspendHoldExpiry die s
  | .suspendStallExpiry die => Sys2Proof.Machine.execSuspendStallExpiry die s
  | .spillWindowRollover => Sys2Proof.Machine.execSpillWindowRollover s
  | .latencySnapshot => Sys2Proof.Machine.execLatencySnapshot s
  -- 09_media_ecc_patrol_and_reclaim
  | .hardDecodeDone rd res => Sys2Proof.Machine.execHardDecodeDone rd res s
  | .softDecodeDone rd res => Sys2Proof.Machine.execSoftDecodeDone rd res s
  -- 07_binor_link_and_bridge
  | .dataFlit port seq fstart c0 c1 crcOk frames => Sys2Proof.Machine.execDataFlit port seq fstart c0 c1 crcOk frames s
  | .linkFlit port c0 c1 crcOk ack nak degrade => Sys2Proof.Machine.execLinkFlit port c0 c1 crcOk ack nak degrade s
  | .skipFlit port c0 c1 crcOk => Sys2Proof.Machine.execSkipFlit port c0 c1 crcOk s
  | .skipInsert port => Sys2Proof.Machine.execSkipInsert port s
  | .ackTimerExpiry port => Sys2Proof.Machine.execAckTimerExpiry port s
  | .nakRepeatExpiry port => Sys2Proof.Machine.execNakRepeatExpiry port s
  | .replayTimeout port => Sys2Proof.Machine.execReplayTimeout port s
  | .ackStallExpiry port => Sys2Proof.Machine.execAckStallExpiry port s
  | .signalDetected port rx tx => Sys2Proof.Machine.execSignalDetected port rx tx s
  | .cdrLock port => Sys2Proof.Machine.execCdrLock port s
  | .orderedSetReceived port os => Sys2Proof.Machine.execOrderedSetReceived port os s
  | .trainingStateTimeout port => Sys2Proof.Machine.execTrainingStateTimeout port s
  | .fullTrain port => Sys2Proof.Machine.execFullTrain port s
  | .fastRetrain port => Sys2Proof.Machine.execFastRetrain port s
  | .laneLoss port lane => Sys2Proof.Machine.execLaneLoss port lane s
  | .fecWindowExpiry port => Sys2Proof.Machine.execFecWindowExpiry port s
  | .dmarkReceived port lane => Sys2Proof.Machine.execDmarkReceived port lane s
  | .cmpReceived port tag result sb cycles => Sys2Proof.Machine.execCmpReceived port tag result sb cycles s
  | .dataRReceived port tag idx bytes => Sys2Proof.Machine.execDataRReceived port tag idx bytes s
  | .regRspReceived port tag result data => Sys2Proof.Machine.execRegRspReceived port tag result data s
  | .hbReceived port status => Sys2Proof.Machine.execHbReceived port status s
  | .hbSend port => Sys2Proof.Machine.execHbSend port s
  | .hbTimeout port => Sys2Proof.Machine.execHbTimeout port s
  | .tempReceived port mask values alarm => Sys2Proof.Machine.execTempReceived port mask values alarm s
  | .tempStale port => Sys2Proof.Machine.execTempStale port s
  | .park port => Sys2Proof.Machine.execPark port s
  | .parkComplete port => Sys2Proof.Machine.execParkComplete port s
  -- 08_media_sequencer_and_rom_routines
  | .fdqTailWrite port tail => Sys2Proof.Machine.execFdqTailWrite port tail s
  | .fdqEntryRead port => Sys2Proof.Machine.execFdqEntryRead port s
  | .fcqHeadWrite port head => Sys2Proof.Machine.execFcqHeadWrite port head s
  | .routineRead op => Sys2Proof.Machine.execRoutineRead op s
  | .routineReadRetry op => Sys2Proof.Machine.execRoutineReadRetry op s
  | .routineSoftRead op => Sys2Proof.Machine.execRoutineSoftRead op s
  | .routineProgramQlc op => Sys2Proof.Machine.execRoutineProgramQlc op s
  | .routineProgramSlc op => Sys2Proof.Machine.execRoutineProgramSlc op s
  | .routineErase op => Sys2Proof.Machine.execRoutineErase op s
  | .routineSuspend op => Sys2Proof.Machine.execRoutineSuspend op s
  | .routineResume op => Sys2Proof.Machine.execRoutineResume op s
  | .routineStatus op => Sys2Proof.Machine.execRoutineStatus op s
  | .routineParamSet op => Sys2Proof.Machine.execRoutineParamSet op s
  | .routineDieIdentify op => Sys2Proof.Machine.execRoutineDieIdentify op s
  | .routineBridgeReg op => Sys2Proof.Machine.execRoutineBridgeReg op s
  | .statusPollTimer op => Sys2Proof.Machine.execStatusPollTimer op s
  | .frameTimeout port tag => Sys2Proof.Machine.execFrameTimeout port tag s
  | .setOwner die block owner => Sys2Proof.Machine.execSetOwner die block owner s
  | .markBad die block => Sys2Proof.Machine.execMarkBad die block s
  | .dieClear die => Sys2Proof.Machine.execDieClear die s
  -- 09_media_ecc_patrol_and_reclaim
  | .pinWaitWarning op => Sys2Proof.Machine.execPinWaitWarning op s
  | .patrolReadIssue => Sys2Proof.Machine.execPatrolReadIssue s
  | .patrolPaceRecompute => Sys2Proof.Machine.execPatrolPaceRecompute s
  | .patrolLapStart => Sys2Proof.Machine.execPatrolLapStart s
  | .patrolLapOverrun => Sys2Proof.Machine.execPatrolLapOverrun s
  | .scoreUpdate => Sys2Proof.Machine.execScoreUpdate s
  | .reclaimVictimSelect => Sys2Proof.Machine.execReclaimVictimSelect s
  | .reclaimCommand pool => Sys2Proof.Machine.execReclaimCommand pool s
  | .fullScan seg scan => Sys2Proof.Machine.execFullScan seg scan s
  -- 10_stripe_redundancy_and_rebuild
  | .poolForm pool => Sys2Proof.Machine.execPoolForm pool s
  | .rebuildMember m => Sys2Proof.Machine.execRebuildMember m s
  | .retireDie die => Sys2Proof.Machine.execRetireDie die s
  | .rebuildRow => Sys2Proof.Machine.execRebuildRow s
  -- 11_fixity_digest_and_keys
  | .sealAbsorb g u => Sys2Proof.Machine.execSealAbsorb g u s
  | .sealLaneDone g u => Sys2Proof.Machine.execSealLaneDone g u s
  | .sealChainRebuild g => Sys2Proof.Machine.execSealChainRebuild g s
  | .sealQuery tag => Sys2Proof.Machine.execSealQuery tag s
  | .sealImport tag data => Sys2Proof.Machine.execSealImport tag data s
  | .sealSecretInstall tag secret => Sys2Proof.Machine.execSealSecretInstall tag secret s
  | .digestAllocate core => Sys2Proof.Machine.execDigestAllocate core s
  | .digestStart core x ctl => Sys2Proof.Machine.execDigestStart core x ctl s
  | .digestData core x word => Sys2Proof.Machine.execDigestData core x word s
  | .digestFinal core x => Sys2Proof.Machine.execDigestFinal core x s
  | .digestRelease core x => Sys2Proof.Machine.execDigestRelease core x s
  | .digestDone x => Sys2Proof.Machine.execDigestDone x s
  | .keyLoad slot ty len usage => Sys2Proof.Machine.execKeyLoad slot ty len usage s
  | .keyClear slot => Sys2Proof.Machine.execKeyClear slot s
  | .keyWrap slot handle => Sys2Proof.Machine.execKeyWrap slot handle s
  | .keyUnwrap slot handle => Sys2Proof.Machine.execKeyUnwrap slot handle s
  | .keyGenerate handle ty usage => Sys2Proof.Machine.execKeyGenerate handle ty usage s
  | .keyDrop handle => Sys2Proof.Machine.execKeyDrop handle s
  | .xtsNscfgWrite nsid en handle => Sys2Proof.Machine.execXtsNscfgWrite nsid en handle s
  | .xtsKeyCacheFill nsid => Sys2Proof.Machine.execXtsKeyCacheFill nsid s
  -- 12_tenants_isolation_and_migration
  | .tenantFncfgWrite fn value => Sys2Proof.Machine.execTenantFncfgWrite fn value s
  | .tenantNscfgWrite nsid value => Sys2Proof.Machine.execTenantNscfgWrite nsid value s
  | .fence fn => Sys2Proof.Machine.execFence fn s
  | .unfence fn => Sys2Proof.Machine.execUnfence fn s
  | .functionFreeze tag => Sys2Proof.Machine.execFunctionFreeze tag s
  | .freezeDrained fn => Sys2Proof.Machine.execFreezeDrained fn s
  | .freezeDrainLimit fn => Sys2Proof.Machine.execFreezeDrainLimit fn s
  | .functionSave tag => Sys2Proof.Machine.execFunctionSave tag s
  | .functionRestore tag image => Sys2Proof.Machine.execFunctionRestore tag image s
  | .functionThaw tag => Sys2Proof.Machine.execFunctionThaw tag s
  -- 13_dram_subsystem
  | .dramRequest req => Sys2Proof.Machine.execDramRequest req s
  | .refreshDue ch rank sub set => Sys2Proof.Machine.execRefreshDue ch rank sub set s
  | .mr4Read ch rank temp => Sys2Proof.Machine.execMr4Read ch rank temp s
  | .trainingRoundStart ch => Sys2Proof.Machine.execTrainingRoundStart ch s
  | .sampleWindow ch => Sys2Proof.Machine.execSampleWindow ch s
  | .operatingPointChange ch target => Sys2Proof.Machine.execOperatingPointChange ch target s
  | .caParityAlert ch => Sys2Proof.Machine.execCaParityAlert ch s
  | .scrubRead ch ce ue => Sys2Proof.Machine.execScrubRead ch ce ue s
  | .retirePage ch addr => Sys2Proof.Machine.execRetirePage ch addr s
  | .retireBank ch addr => Sys2Proof.Machine.execRetireBank ch addr s
  | .bankCopyComplete ch => Sys2Proof.Machine.execBankCopyComplete ch s
  | .spareLock base size => Sys2Proof.Machine.execSpareLock base size s
  -- 14_reservoir_power_and_thermal
  | .reservoirEnergyUpdate v => Sys2Proof.Machine.execReservoirEnergyUpdate v s
  | .reservoirTestStart => Sys2Proof.Machine.execReservoirTestStart s
  | .testNow => Sys2Proof.Machine.execTestNow s
  | .testV0Sample v0 => Sys2Proof.Machine.execTestV0Sample v0 s
  | .testEsrSample v1 i1 => Sys2Proof.Machine.execTestEsrSample v1 i1 s
  | .testIntegrationEnd charge vEnd => Sys2Proof.Machine.execTestIntegrationEnd charge vEnd s
  | .bankCharged => Sys2Proof.Machine.execBankCharged s
  | .chargeTimeout => Sys2Proof.Machine.execChargeTimeout s
  | .bankSag => Sys2Proof.Machine.execBankSag s
  | .sluiceRequest op => Sys2Proof.Machine.execSluiceRequest op s
  | .sluiceBudgetWrite value => Sys2Proof.Machine.execSluiceBudgetWrite value s
  | .dieSensorSample values => Sys2Proof.Machine.execDieSensorSample values s
  | .fanWatchdogExpiry => Sys2Proof.Machine.execFanWatchdogExpiry s
  | .fanDutyWrite duty => Sys2Proof.Machine.execFanDutyWrite duty s
  | .islandVoltageSample mv => Sys2Proof.Machine.execIslandVoltageSample mv s
  | .islandClampTimeout => Sys2Proof.Machine.execIslandClampTimeout s
  -- 18_signals_electrical_package
  | .mainPgFall => Sys2Proof.Machine.execMainPgFall s
  -- 15_power_domains
  | .domainArm dom arm owner wakeen => Sys2Proof.Machine.execDomainArm dom arm owner wakeen s
  | .wfi core => Sys2Proof.Machine.execWfi core s
  | .domainEntryComplete dom => Sys2Proof.Machine.execDomainEntryComplete dom s
  | .wakeEdge source => Sys2Proof.Machine.execWakeEdge source s
  | .wakeLevel dom source => Sys2Proof.Machine.execWakeLevel dom source s
  | .domainWake dom => Sys2Proof.Machine.execDomainWake dom s
  | .pwrTimerExpiry => Sys2Proof.Machine.execPwrTimerExpiry s
  | .domainExitComplete dom words bits lost => Sys2Proof.Machine.execDomainExitComplete dom words bits lost s
  -- 16_event_recorder
  | .eventRecord => Sys2Proof.Machine.execEventRecord s
  | .stagingAgeExpiry => Sys2Proof.Machine.execStagingAgeExpiry s
  | .flushIntervalExpiry => Sys2Proof.Machine.execFlushIntervalExpiry s
  | .counterCheckpoint => Sys2Proof.Machine.execCounterCheckpoint s
  | .eventClear tag data => Sys2Proof.Machine.execEventClear tag data s
  | .eventWindowRead win source image cursor => Sys2Proof.Machine.execEventWindowRead win source image cursor s
  | .firmwareEventPost core id items => Sys2Proof.Machine.execFirmwareEventPost core id items s
  -- 11_fixity_digest_and_keys
  | .logPageC0 tag => Sys2Proof.Machine.execLogPageC0 tag s
  -- 14_reservoir_power_and_thermal
  | .logPageC1 tag => Sys2Proof.Machine.execLogPageC1 tag s
  -- 16_event_recorder
  | .logPageC2 tag => Sys2Proof.Machine.execLogPageC2 tag s
  -- 10_stripe_redundancy_and_rebuild
  | .logPageC3 tag => Sys2Proof.Machine.execLogPageC3 tag s
  -- 09_media_ecc_patrol_and_reclaim
  | .logPageC4 tag => Sys2Proof.Machine.execLogPageC4 tag s
  -- 12_tenants_isolation_and_migration
  | .logPageC5 tag => Sys2Proof.Machine.execLogPageC5 tag s
  -- 17_boot_firmware_and_fault_guarantees
  | .romBoot data => Sys2Proof.Machine.execRomBoot data s
  | .replay data => Sys2Proof.Machine.execReplay data s
  | .handoff => Sys2Proof.Machine.execHandoff s
  | .softwareWarmReset => Sys2Proof.Machine.execSoftwareWarmReset s
  | .deviceWatchdogExpiry => Sys2Proof.Machine.execDeviceWatchdogExpiry s
  | .watchdogKick => Sys2Proof.Machine.execWatchdogKick s
  | .coreWatchdogKick core => Sys2Proof.Machine.execCoreWatchdogKick core s
  | .coreWatchdogExpiry core data => Sys2Proof.Machine.execCoreWatchdogExpiry core data s
  | .lockstepMismatch core data => Sys2Proof.Machine.execLockstepMismatch core data s
  | .svnBurn value => Sys2Proof.Machine.execSvnBurn value s
  -- 07_binor_link_and_bridge
  | .degradeNoticeRepeat port => Sys2Proof.Machine.execDegradeNoticeRepeat port s
  -- 13_dram_subsystem
  | .alertNRelease ch => Sys2Proof.Machine.execAlertNRelease ch s
  | .openRowTimeout ch bank => Sys2Proof.Machine.execOpenRowTimeout ch bank s
  -- 14_reservoir_power_and_thermal
  | .supplyReturn => Sys2Proof.Machine.execSupplyReturn s
  -- 18_signals_electrical_package
  | .mainPgRise => Sys2Proof.Machine.execMainPgRise s
  | .porLRelease => Sys2Proof.Machine.execPorLRelease s
  -- 14_reservoir_power_and_thermal
  | .reservoirTestOverdue => Sys2Proof.Machine.execReservoirTestOverdue s
  -- 00_scope
  | .nvmeMiMessage via message => Sys2Proof.Machine.execNvmeMiMessage via message s

end Sys2Proof.Machine
end

