-- ==== Sys2Proof/Machine/Idle.lean ====
section
/-! DEFINITION. What the part does while no command waits. -/

namespace Sys2Proof.Machine

/-- One cycle of ACLK, 40 ns (R28, R492): time passes, and the digest engine takes its input buffers (R399, log 16). -/
def Chip.idleTick (c : Chip) : Chip := { c.drainDigest with now := c.now + 40 }

/-- A step with no command waiting (log 9). -/
def idle (s : State) : Outcome := onChip Chip.idleTick s

end Sys2Proof.Machine
end

