-- ==== Sys2Proof/WellFormed.lean ====
section
/-! DEFINITION. Which commands name things the part has: the ranges of their numbers. A meaning answers on any command; one that names something
absent has no effect or the error the manual gives. -/

namespace Sys2Proof

open Sys2Proof.Machine

/-- A host port (R40). -/
def okHostPort (p : Nat) : Bool := decide (p < 4)
/-- A PF (R46). -/
def okPf (p : Nat) : Bool := decide (p < 4)
/-- A Binor port (R1). -/
def okLink (p : Nat) : Bool := decide (p < 36)
/-- A member (R3). -/
def okMember (p : Nat) : Bool := decide (p < 36)
/-- A PCIe function (R46). -/
def okFn (f : Nat) : Bool := decide (f < 1024)
/-- A tag (R84). -/
def okTag (t : Nat) : Bool := decide (t < 65536)
/-- A logical core (R32). -/
def okCore (n : Nat) : Bool := decide (n < 16)
/-- A die, as member, sub-channel and die (SCHED_DIESTAT). -/
def okDie (d : Nat) : Bool := decide (d < 4608)
/-- A DRAM channel (R12). -/
def okChan (n : Nat) : Bool := decide (n < 8)
/-- A power domain (R492). -/
def okDom (d : Nat) : Bool := decide (d ≤ 32)
/-- A namespace identifier (R52). -/
def okNsid (n : Nat) : Bool := decide (1 ≤ n ∧ n ≤ 8192)
/-- A zone record (R144). -/
def okZone (z : Nat) : Bool := decide (z < 655360)
/-- A digest context (R397). -/
def okDigest (x : Nat) : Bool := decide (x < 16)
/-- A lane of a Binor port (R233). -/
def okLane (l : Nat) : Bool := decide (l < 2)
/-- A pool index (STRIPE_PTCMD). -/
def okPool (p : Nat) : Bool := decide (p < 2 ^ 20)
/-- A slice of CONF (R94). -/
def okSlice (n : Nat) : Bool := decide (n < 32)
/-- A link speed (HPn_CTL). -/
def okSpeed (v : Nat) : Bool := decide (1 ≤ v ∧ v ≤ 6)
/-- An assignment entry (R59). -/
def okIndex (n : Nat) : Bool := decide (n < 256)
/-- An IDE stream (R63). -/
def okStream (n : Nat) : Bool := decide (n < 16)
/-- A register of HPn_ANAST. -/
def okAna (k : Nat) : Bool := decide (k < 64)
/-- An LBA format (R126). -/
def okFmt (f : Nat) : Bool := decide (f < 6)
/-- An FDP handle (R139). -/
def okFdp (h : Nat) : Bool := decide (h < 65536)
/-- A key slot (R403). -/
def okSlot (n : Nat) : Bool := decide (n < 1024)
/-- A key handle (R406). -/
def okHandle (h : Nat) : Bool := decide (h < 16384)
/-- An image slot (R543). -/
def okImageSlot (n : Nat) : Bool := decide (n < 4)
/-- An edge source (R498). -/
def okEdge (n : Nat) : Bool := decide (5 ≤ n ∧ n ≤ 7)
/-- A wake source (R498). -/
def okSource (n : Nat) : Bool := decide (n < 8)
/-- A recorder window (R529). -/
def okWindow (n : Nat) : Bool := decide (n ≤ 4)
/-- A path of an NVMe-MI message (R498). -/
def okVia (n : Nat) : Bool := decide (n ≤ 2)
/-- An MSI-X vector (R49). -/
def okVector (v : Nat) : Bool := decide (v < 1024)
/-- A bank of a channel (R442). -/
def okBank (b : Nat) : Bool := decide (b < 1024)
/-- A rank of a channel (R435). -/
def okRank (r : Nat) : Bool := decide (r < 16)
/-- A block index (SEQn_BSTCMD). -/
def okBlock (b : Nat) : Bool := decide (b < 4096)
/-- A queue of BAR0 (R49). -/
def okQueue (q : Nat) : Bool := decide (q < 4096)
/-- A submission entry has sixteen words (R78). -/
def okSqe (e : Sqe) : Bool := decide (e.length = 16)

/-- The target of a register access. -/
def Machine.RegTarget.wf : RegTarget → Bool
  | .csr core _ _ => okCore core
  | .bar2 pf _ _ => okPf pf
  | .nvme fn _ => okFn fn
  | .bar2Data pf off => okPf pf && decide (off < 2 ^ 20)

/-- What a failed DMA read was for. -/
def Machine.DmaRead.wf : DmaRead → Bool
  | .sqFetch fn _ => okFn fn
  | .command tag => okTag tag

/-- A decoder reports a unit of 4,224 bytes where it succeeded (R318). -/
def Machine.DecodeRes.wf (r : DecodeRes) : Bool := decide (r.bytes.length ≤ 4224)

/-- A DRAM request has a length. -/
def Machine.DramReq.wf (q : DramReq) : Bool := decide (0 < q.len)

/-- A command is well-formed: its numbers are in the ranges of the manual. -/
def Instr.wf : Instr → Bool
  | .registerWrite target _ _ _ => target.wf
  | .registerReadClear target => target.wf
  | .powerOnReset => true
  | .clockLoss _ => true
  | .coreAccess req => okCore req.core
  | .perstDeassert port => okHostPort port
  | .perstAssert port => okHostPort port
  | .linkTrainingDone port speed _ _ => okHostPort port && okSpeed speed
  | .retrain port => okHostPort port
  | .linkDisable port => okHostPort port
  | .hotReset port => okHostPort port
  | .linkDown port _ => okHostPort port
  | .configRequest fn _ => okFn fn
  | .l0pNarrow port _ => okHostPort port
  | .l0pWiden port _ => okHostPort port
  | .d3hotEntry fn => okFn fn
  | .d0Return fn => okFn fn
  | .sqTailDoorbell fn qid _ => okFn fn && okQueue qid
  | .cqHeadDoorbell fn qid _ => okFn fn && okQueue qid
  | .assignmentCommit pf index => okPf pf && okIndex index
  | .namespaceAttachment tag list => okTag tag && list.all okFn
  | .mailboxToFw pf => okPf pf
  | .mailboxToHost pf => okPf pf
  | .atsInvalidation port fn _ _ _ => okHostPort port && okFn fn
  | .ideKeyInstall port stream fns => okHostPort port && okStream stream && fns.all okFn
  | .unboundStreamTlp fn _ => okFn fn
  | .ideIntegrityFailure port stream => okHostPort port && okStream stream
  | .anaStateWrite port k _ => okHostPort port && okAna k
  | .reservationRegister tag _ => okTag tag
  | .reservationAcquire tag _ => okTag tag
  | .reservationRelease tag _ => okTag tag
  | .reservationReport tag => okTag tag
  | .dmaReadTimeout rd => rd.wf
  | .poisonedCompletion rd => rd.wf
  | .poisonedWriteTlp fn _ => okFn fn
  | .fetchTurn => true
  | .submissionEntryFetched tag sqe _ => okTag tag && okSqe sqe
  | .createIoSubmissionQueue tag => okTag tag
  | .createIoCompletionQueue tag => okTag tag
  | .setFeatures tag _ => okTag tag
  | .identify tag => okTag tag
  | .asynchronousEventRequest tag => okTag tag
  | .getLbaStatus tag => okTag tag
  | .formatNvm tag => okTag tag
  | .claimGranted slice tag => okSlice slice && okTag tag
  | .hostDataFetched tag _ => okTag tag
  | .energyAdmissionTimeout tag => okTag tag
  | .postCompletion tag => okTag tag
  | .coalescingTimerExpiry fn vec => okFn fn && okVector vec
  | .abort tag => okTag tag
  | .abortDecision tag => okTag tag
  | .flush tag => okTag tag
  | .controllerEnable fn _ => okFn fn
  | .controllerReset fn => okFn fn
  | .resetDrainComplete fn => okFn fn
  | .resetDrainTimeout fn => okFn fn
  | .functionLevelReset fn => okFn fn
  | .normalShutdown fn => okFn fn
  | .shutdownCheckpointDone fn => okFn fn
  | .abruptShutdown fn => okFn fn
  | .firmwareImageDownload tag _ => okTag tag
  | .firmwareCommit tag => okTag tag
  | .drainRequest => true
  | .firmwareDrainComplete => true
  | .drainLimitExpiry => true
  | .fetchResume => true
  | .firmwareActivation slot _ _ => okImageSlot slot
  | .confSeqLock _ => true
  | .namespaceCreate tag _ fmt _ _ handles => okTag tag && okFmt fmt && handles.all okFdp
  | .namespaceDelete tag => okTag tag
  | .zmapNszWrite nsid _ _ => okNsid nsid
  | .write tag => okTag tag
  | .zoneAppend tag => okTag tag
  | .writeZeroes tag => okTag tag
  | .datasetManagement tag _ => okTag tag
  | .read tag => okTag tag
  | .compare tag => okTag tag
  | .verify tag => okTag tag
  | .zoneOpen tag => okTag tag
  | .zoneClose tag => okTag tag
  | .zoneFinish tag => okTag tag
  | .zoneReset tag => okTag tag
  | .zoneOffline tag => okTag tag
  | .setZoneDescriptorExtension tag _ => okTag tag
  | .zoneManagementReceive tag => okTag tag
  | .poolBind _ => true
  | .bindingWaitExpiry tag => okTag tag
  | .openAgeExpiry handle => okFdp handle
  | .controllerFinish zone => okZone zone
  | .fzrAgeExpiry zone => okZone zone
  | .checkpointPassStart => true
  | .rowWaitExpiry _ => true
  | .gatherWindowExpiry _ => true
  | .basinFold => true
  | .journalBatchExpiry => true
  | .ledgerAdmitOperation _ => true
  | .ledgerAdmitCommitment tag => okTag tag
  | .supplyWarning _ => true
  | .brownoutRidden => true
  | .confirmationWindowExpiry => true
  | .supplyResetLevel _ => true
  | .pfJournalFlush => true
  | .pfRecorderFlush => true
  | .pfEndWrite => true
  | .pfPowerOff => true
  | .supplyHoldExpiry => true
  | .schedReadArrival _ => true
  | .d1SuspendAgeExpiry _ => true
  | .minRunExpiry _ => true
  | .suspendHoldExpiry die => okDie die
  | .suspendStallExpiry die => okDie die
  | .spillWindowRollover => true
  | .latencySnapshot => true
  | .hardDecodeDone _ res => res.wf
  | .softDecodeDone _ res => res.wf
  | .dataFlit port _ _ _ _ _ _ => okLink port
  | .linkFlit port _ _ _ _ _ _ => okLink port
  | .skipFlit port _ _ _ => okLink port
  | .skipInsert port => okLink port
  | .ackTimerExpiry port => okLink port
  | .nakRepeatExpiry port => okLink port
  | .replayTimeout port => okLink port
  | .ackStallExpiry port => okLink port
  | .signalDetected port _ _ => okLink port
  | .cdrLock port => okLink port
  | .orderedSetReceived port _ => okLink port
  | .trainingStateTimeout port => okLink port
  | .fullTrain port => okLink port
  | .fastRetrain port => okLink port
  | .laneLoss port lane => okLink port && okLane lane
  | .fecWindowExpiry port => okLink port
  | .dmarkReceived port lane => okLink port && okLane lane
  | .cmpReceived port tag _ _ _ => okLink port && okTag tag
  | .dataRReceived port tag _ _ => okLink port && okTag tag
  | .regRspReceived port tag _ _ => okLink port && okTag tag
  | .hbReceived port _ => okLink port
  | .hbSend port => okLink port
  | .hbTimeout port => okLink port
  | .tempReceived port _ _ _ => okLink port
  | .tempStale port => okLink port
  | .park port => okLink port
  | .parkComplete port => okLink port
  | .fdqTailWrite port _ => okLink port
  | .fdqEntryRead port => okLink port
  | .fcqHeadWrite port _ => okLink port
  | .routineRead _ => true
  | .routineReadRetry _ => true
  | .routineSoftRead _ => true
  | .routineProgramQlc _ => true
  | .routineProgramSlc _ => true
  | .routineErase _ => true
  | .routineSuspend _ => true
  | .routineResume _ => true
  | .routineStatus _ => true
  | .routineParamSet _ => true
  | .routineDieIdentify _ => true
  | .routineBridgeReg _ => true
  | .statusPollTimer _ => true
  | .frameTimeout port tag => okLink port && okTag tag
  | .setOwner die block _ => okDie die && okBlock block
  | .markBad die block => okDie die && okBlock block
  | .dieClear die => okDie die
  | .pinWaitWarning _ => true
  | .patrolReadIssue => true
  | .patrolPaceRecompute => true
  | .patrolLapStart => true
  | .patrolLapOverrun => true
  | .scoreUpdate => true
  | .reclaimVictimSelect => true
  | .reclaimCommand pool => okPool pool
  | .fullScan _ _ => true
  | .poolForm pool => okPool pool
  | .rebuildMember m => okMember m
  | .retireDie die => okDie die
  | .rebuildRow => true
  | .sealAbsorb g _ => okZone g
  | .sealLaneDone g _ => okZone g
  | .sealChainRebuild g => okZone g
  | .sealQuery tag => okTag tag
  | .sealImport tag _ => okTag tag
  | .sealSecretInstall tag _ => okTag tag
  | .digestAllocate core => okCore core
  | .digestStart core x _ => okCore core && okDigest x
  | .digestData core x _ => okCore core && okDigest x
  | .digestFinal core x => okCore core && okDigest x
  | .digestRelease core x => okCore core && okDigest x
  | .digestDone x => okDigest x
  | .keyLoad slot _ _ _ => okSlot slot
  | .keyClear slot => okSlot slot
  | .keyWrap slot handle => okSlot slot && okHandle handle
  | .keyUnwrap slot handle => okSlot slot && okHandle handle
  | .keyGenerate handle _ _ => okHandle handle
  | .keyDrop handle => okHandle handle
  | .xtsNscfgWrite nsid _ handle => okNsid nsid && okHandle handle
  | .xtsKeyCacheFill nsid => okNsid nsid
  | .tenantFncfgWrite fn _ => okFn fn
  | .tenantNscfgWrite nsid _ => okNsid nsid
  | .fence fn => okFn fn
  | .unfence fn => okFn fn
  | .functionFreeze tag => okTag tag
  | .freezeDrained fn => okFn fn
  | .freezeDrainLimit fn => okFn fn
  | .functionSave tag => okTag tag
  | .functionRestore tag _ => okTag tag
  | .functionThaw tag => okTag tag
  | .dramRequest req => req.wf
  | .refreshDue ch rank _ _ => okChan ch && okRank rank
  | .mr4Read ch rank _ => okChan ch && okRank rank
  | .trainingRoundStart ch => okChan ch
  | .sampleWindow ch => okChan ch
  | .operatingPointChange ch _ => okChan ch
  | .caParityAlert ch => okChan ch
  | .scrubRead ch _ _ => okChan ch
  | .retirePage ch _ => okChan ch
  | .retireBank ch _ => okChan ch
  | .bankCopyComplete ch => okChan ch
  | .spareLock _ _ => true
  | .reservoirEnergyUpdate _ => true
  | .reservoirTestStart => true
  | .testNow => true
  | .testV0Sample _ => true
  | .testEsrSample _ _ => true
  | .testIntegrationEnd _ _ => true
  | .bankCharged => true
  | .chargeTimeout => true
  | .bankSag => true
  | .sluiceRequest _ => true
  | .sluiceBudgetWrite _ => true
  | .dieSensorSample _ => true
  | .fanWatchdogExpiry => true
  | .fanDutyWrite _ => true
  | .islandVoltageSample _ => true
  | .islandClampTimeout => true
  | .mainPgFall => true
  | .domainArm dom _ owner _ => okDom dom && okCore owner
  | .wfi core => okCore core
  | .domainEntryComplete dom => okDom dom
  | .wakeEdge source => okEdge source
  | .wakeLevel dom source => okDom dom && okSource source
  | .domainWake dom => okDom dom
  | .pwrTimerExpiry => true
  | .domainExitComplete dom _ _ _ => okDom dom
  | .eventRecord => true
  | .stagingAgeExpiry => true
  | .flushIntervalExpiry => true
  | .counterCheckpoint => true
  | .eventClear tag _ => okTag tag
  | .eventWindowRead win _ _ _ => okWindow win
  | .firmwareEventPost core _ _ => okCore core
  | .logPageC0 tag => okTag tag
  | .logPageC1 tag => okTag tag
  | .logPageC2 tag => okTag tag
  | .logPageC3 tag => okTag tag
  | .logPageC4 tag => okTag tag
  | .logPageC5 tag => okTag tag
  | .romBoot _ => true
  | .replay _ => true
  | .handoff => true
  | .softwareWarmReset => true
  | .deviceWatchdogExpiry => true
  | .watchdogKick => true
  | .coreWatchdogKick core => okCore core
  | .coreWatchdogExpiry core _ => okCore core
  | .lockstepMismatch core _ => okCore core
  | .svnBurn _ => true
  | .degradeNoticeRepeat port => okLink port
  | .alertNRelease ch => okChan ch
  | .openRowTimeout ch bank => okChan ch && okBank bank
  | .supplyReturn => true
  | .mainPgRise => true
  | .porLRelease => true
  | .reservoirTestOverdue => true
  | .nvmeMiMessage via _ => okVia via

end Sys2Proof
end

