-- ==== Sys2Proof/Safety.lean ====
section
/-! DEFINITION. What every step keeps, and the frames that statements about one command use. -/

namespace Sys2Proof.Machine

/-- The invariant of the part's memory: its listed bytes stand in rising order, and none is listed that an unlisted address would read as. -/
def State.Inv (s : State) : Prop := Memory.wf s.mem = true

/-- The commands that wait are all well-formed. -/
def State.queueOk (s : State) : Prop := s.pending.all Instr.wf = true

/-- A command leaves memory and the queue as they were. -/
def Still (s t : State) : Prop := t.mem = s.mem ∧ t.pending = s.pending

/-- Every byte of memory outside a range reads as before. -/
def MemBut (lo n : Nat) (s t : State) : Prop := ∀ a, ¬ (lo ≤ a ∧ a < lo + n) → readByte t a = readByte s a

/-- Every byte of memory reads as before. -/
def MemSame (s t : State) : Prop := ∀ a, readByte t a = readByte s a

/-- Every register but the listed ones holds what it held; `i` runs over the copies of a register. -/
def RegsBut (rs : List (RegId × Nat)) (s t : State) : Prop :=
  ∀ r i, i < 65536 → (r, i) ∉ rs → t.chip.reg r i = s.chip.reg r i

/-- What a command sends out, newest first, before what was sent earlier. -/
def Sends (os : List Out) (s t : State) : Prop := t.chip.out = os ++ s.chip.out

/-- The parts of the chip: one for each field of its state, as Chip names them. -/
inductive Area where
  | regs | fuses | epoch | ports | fns | intake | slices | ev | z | m | xts | keys | macKey | digest | pwr | links | supply | drcs | poison | sys | wr | out | now | fresh
  deriving DecidableEq, Repr

/-- A part of the chip is the same in two states of it. -/
def Area.same (a b : Chip) : Area → Prop
  | .regs => b.regs = a.regs
  | .fuses => b.fuses = a.fuses
  | .epoch => b.epoch = a.epoch
  | .ports => b.ports = a.ports
  | .fns => b.fns = a.fns
  | .intake => b.intake = a.intake
  | .slices => b.slices = a.slices
  | .ev => b.ev = a.ev
  | .z => b.z = a.z
  | .m => b.m = a.m
  | .xts => b.xts = a.xts
  | .keys => b.keys = a.keys
  | .macKey => b.macKey = a.macKey
  | .digest => b.digest = a.digest
  | .pwr => b.pwr = a.pwr
  | .links => b.links = a.links
  | .supply => b.supply = a.supply
  | .drcs => b.drcs = a.drcs
  | .poison => b.poison = a.poison
  | .sys => b.sys = a.sys
  | .wr => b.wr = a.wr
  | .out => b.out = a.out
  | .now => b.now = a.now
  | .fresh => b.fresh = a.fresh

/-- Memory, the queue and every part of the chip but the listed ones are as they were. -/
def Only (ps : List Area) (s t : State) : Prop := Still s t ∧ ∀ p : Area, p ∉ ps → p.same s.chip t.chip

/-- Every part of the chip but the listed ones is as it was, and so is the queue; memory may differ. -/
def OnlyMem (ps : List Area) (s t : State) : Prop := t.pending = s.pending ∧ ∀ p : Area, p ∉ ps → p.same s.chip t.chip

/-- A command completes: it answers a next state, of which something holds. -/
def Gives (i : Instr) (s : State) (P : State → Prop) : Prop := ∃ t, exec i s = .next t ∧ P t

/-- What a 64-bit write leaves in a field (R8): `o` what it held, `n` what is written. -/
def afterWrite (ty : FieldType) (locked : Bool) (o n : Nat) : Nat :=
  match ty with
  | .ro | .rc | .wo => o
  | .rw => n
  | .rw1c => o - (o &&& n)
  | .rw1s => o ||| n
  | .rwl => if locked then o else n

/-- An event is posted (R517): a source that is present takes it at the end of its queue, while that holds fewer than sixteen. -/
def Posts (src id : Nat) (items : List Nat) (s t : State) : Prop :=
  s.chip.sourcePresent src = true → ((pget s.chip.ev.queues src).getD []).length < 16 →
    pget t.chip.ev.queues src = some ((pget s.chip.ev.queues src).getD [] ++ [⟨id, items, src, 0⟩])

/-- Every function but the listed ones keeps its record. -/
def FnsBut (fs : List Nat) (s t : State) : Prop := ∀ g, g ∉ fs → t.chip.fn g = s.chip.fn g

/-- A function with no command in flight and no migration under way. -/
def Chip.quiet (c : Chip) (f : Nat) : Prop := (∀ e ∈ c.intake.tags, e.2.fn ≠ f) ∧ (c.fn f).aers = [] ∧ (c.fn f).mstate = .active

/-- A command with its entry in hand, before its checks: what every command finds of itself as it starts. -/
def Chip.starts (c : Chip) (t : Nat) (x : Ctx) : Prop := c.ctx t = some x ∧ x.st = .check ∧ x.sent = false ∧ x.sqe.isEmpty = false

/-- A command has sent its completion to the post stage, at the end of what waits there (R103). -/
def Completes (tag : Nat) (st : Status) (dw0 : Nat) (s t : State) : Prop :=
  (∃ y, t.chip.ctx tag = some y ∧ y.sent = true ∧ y.st = .post ∧ y.status = st ∧ y.dw0 = dw0) ∧
  t.chip.intake.postQ = s.chip.intake.postQ ++ [.done tag st dw0]

/-- An access fault reaches a core (R33, R39): it is told, event 0x9010 is posted, and SYS_ACCERR takes the access unless it holds an earlier one. -/
def Faults (core cause addr : Nat) (s t : State) : Prop :=
  Sends [.coreFault core] s t ∧ Posts srcSys 0x9010 [core, cause, addr] s t ∧
  (s.chip.flag F.SYS_ACCERR_VALID = true → t.chip.reg .sysAccerr 0 = s.chip.reg .sysAccerr 0) ∧
  (s.chip.flag F.SYS_ACCERR_VALID = false → t.chip.flag F.SYS_ACCERR_VALID = true ∧ t.chip.fld F.SYS_ACCERR_CAUSE = cause ∧
    t.chip.fld F.SYS_ACCERR_CORE = core ∧ t.chip.fld F.SYS_ACCERR_ADDR = addr % 2 ^ 48) ∧
  RegsBut [(.sysAccerr, 0), (.evrecStat, 0)] s t

/-- What the loss of a link leaves (R72, R73): it is down, its status fields are 0, every function behind it is in a reset that began now, and no
other function has changed. -/
def linkLost (s t : State) (port : Nat) : Prop :=
  (t.chip.port (s.chip.lead port)).up = false ∧
  (∀ f ∈ [F.HP_LSTAT_LINK_UP, F.HP_LSTAT_SPEED, F.HP_LSTAT_WIDTH, F.HP_LSTAT_L0P_WIDTH, F.HP_LSTAT_FLIT, F.HP_LSTAT_DEGRADED],
    t.chip.fld f (s.chip.lead port) = 0) ∧
  (∀ f ∈ s.chip.linkFns port, (t.chip.fn f).resetAt = some s.chip.now ∧ (t.chip.fn f).en = false ∧ (t.chip.fn f).d3Held = []) ∧
  FnsBut (s.chip.linkFns port) s t ∧ Only [.ports, .regs, .fns, .ev, .out] s t

/-- A record joins the open frame of the journal with the next JSN, and what waits for it joins the waits (R173, R177). -/
def Journals (nsid seq : Nat) (b : JBody) (ws : List JWait) (s t : State) : Prop :=
  t.chip.z.journal.opened = s.chip.z.journal.opened ++ [⟨nsid, seq, s.chip.z.journal.nextJsn, b⟩] ∧
  t.chip.z.journal.nextJsn = s.chip.z.journal.nextJsn + 1 ∧
  t.chip.z.journal.waits = s.chip.z.journal.waits ++ ws.map fun w => (s.chip.z.journal.nextJsn, w)

/-- An I/O command that starts alone: its entry in hand, its namespace there and not encrypted, no claim in any slice, CONF_SEQ locked, and nothing kept
for it yet. -/
structure StartsAlone (c : Chip) (tag : Nat) (x : Ctx) (n : NsRec) : Prop where
  here : c.starts tag x
  ns : c.ns x.nsid = some n
  free : ∀ j, c.slice j = ⟨[], []⟩
  locked : c.flag F.CONF_CTL_SEQ_LOCK = true
  clear : c.xtsOn x.nsid = false
  fresh : x.slices = [] ∧ x.granted = [] ∧ x.seq = none ∧ x.host = [] ∧ x.dataIn = false ∧ x.admitted = false ∧ x.committed = false ∧
    x.placed = false ∧ x.commit = none ∧ x.status = .success ∧ x.mergeWait = []

/-- A command holds granted claims of a kind over its ranges in every slice they touch, and took the next sequence number (R20, R23, R93, R94). -/
def Claimed (tag : Nat) (ck : ClaimKind) (fmt : Nat) (rs : List LbaRange) (s t : State) : Prop :=
  t.chip.fld F.CONF_SEQ_NEXT = (s.chip.fld F.CONF_SEQ_NEXT + 1) % 2 ^ 64 ∧
  ∃ y, t.chip.ctx tag = some y ∧ y.seq = some (s.chip.fld F.CONF_SEQ_NEXT) ∧ y.claimKind = ck ∧ y.ranges = rs ∧
    y.slices = slicesOf fmt rs ∧ y.granted = y.slices ∧
    ∀ j ∈ y.slices, (t.chip.slice j).claims = [⟨tag, ck, restrictTo fmt j rs, true⟩]

/-- The power-fail sequence is committed (R197 steps 1 to 5): the ledger is frozen, landing has begun, no window is open, and only commands past their
commit point are in flight. -/
def PowerCommitted (s t : State) : Prop :=
  t.chip.z.ledger.pfCommit = true ∧ t.chip.z.ledger.frozen = true ∧ t.chip.z.ledger.step = .landing ∧ t.chip.supply.windowAt = none ∧
  t.chip.supply.commits = s.chip.supply.commits + 1 ∧ (∀ e ∈ t.chip.intake.tags, e.2.committed = true)

/-- A die runs a program that may be suspended for a read that waits there (R210, R211). -/
def Chip.canPause (c : Chip) (die i : Nat) : Prop :=
  (c.die die).st = .program ∧
  ((c.die die).posted.find? fun i => (c.op i).any fun o => o.stage == .running && (o.rt.isProgram || o.rt == .erase)) = some i ∧
  (∃ o, c.op i = some o ∧ c.suspendable o = true) ∧
  ∃ j ∈ (c.die die).queue, ∃ r, c.op j = some r ∧ r.rt.isRead = true ∧ c.entitled r.cls (c.now - r.arrived) = true

/-- A die suspends an operation: its state says so, and a SUSPEND is with its sequencer; no other die has changed (R211). -/
def Paused (die i : Nat) (s t : State) : Prop :=
  t.chip.die die = { s.chip.die die with
    st := .suspending, susp := some i, suspAt := t.chip.now, confAt := none, served := 0, posted := (s.chip.die die).posted ++ [s.chip.m.nextOp] } ∧
  (∃ o, t.chip.op s.chip.m.nextOp = some o ∧ o.rt = .suspend ∧ o.die = die ∧ o.purpose = .suspendOf i ∧ o.stage = .posted) ∧
  (∀ d, d ≠ die → t.chip.die d = s.chip.die d) ∧ Only [.m, .now] s t

/-- A pool of conventional data is in copy: every unit an entry points at is to be read, and event 0x350A says its score (R336, R337). -/
def InCopy (p : Nat) (s t : State) : Prop :=
  (∃ v, pget t.chip.m.victims p = some v ∧ v.zone = none ∧ v.reads = (s.chip.entriesOf p).map (·.2 % 2 ^ 19)) ∧
  (∃ q, t.chip.pool p = some q ∧ q.ptstate = 4) ∧ Posts srcReclaim 0x350A [s.chip.scoreOf p, s.chip.validOf p] s t

/-- The link of a port is as given, and no other link has changed. -/
def LinkIs (p : Nat) (l : Link) (s t : State) : Prop := t.chip.link p = l ∧ ∀ q, q ≠ p → t.chip.link q = s.chip.link q

/-- A port has entered a training state (R241): STATE shows it, the state's time runs from now, and its ordered sets are sent. -/
def Trains (p st : Nat) (l : Link) (s t : State) : Prop :=
  t.chip.linkState p = st ∧ LinkIs p { l with since := t.chip.now, ts2 := [], cfg := [], cfgSeen := 0 } s t ∧ Sends [.link p linkTrain st] s t

/-- A link after a frame of it has ended: its credits are back (R259). -/
def Link.without (l : Link) (f : BFrame) : Link := { l with
  frames := l.frames.filter (·.tag != f.tag)
  cmdq := if f.ftype = 1 then mset 0 l.cmdq (subOf f.die) (mget 0 l.cmdq (subOf f.die) + 1) else l.cmdq
  chunks := if f.ftype = 1 then l.chunks + f.gives else l.chunks
  regFree := if f.ftype = 1 then l.regFree else l.regFree + 1 }

/-- A sequencer takes an operation: it is the first of its die that is posted and not taken, and the checks find nothing (R276, R283). -/
structure Taken (c : Chip) (i : Nat) (o : Op) : Prop where
  op : c.op i = some o
  posted : o.stage = .posted
  first : ((c.die o.die).posted.find? fun x => (c.op x).any fun y => y.stage == .posted) = some i
  checks : c.seqCheck o = none

/-- An operation has become another value of itself, and no other operation has changed. -/
def OpIs (i : Nat) (o : Op) (s t : State) : Prop := t.chip.op i = some o ∧ ∀ j, j ≠ i → t.chip.op j = s.chip.op j

/-- A frame of an operation is with a link: it waits there, or is outstanding. -/
def Framed (p i ftype : Nat) (k : FrameKind) (t : State) : Prop :=
  ∃ f ∈ (t.chip.link p).sendQ ++ (t.chip.link p).frames, f.op = some i ∧ f.ftype = ftype ∧ f.kind = k

/-- The part has been restarted by a WARM reset with the supply present (R9, R535, R536): the cause is recorded and the earlier one kept, the blocks
outside AON are as after reset, and fuses and the boot flash are as they were. -/
def Restarted (code : Nat) (s t : State) : Prop :=
  t.chip.supply.held = false ∧ t.chip.fld F.SYS_RSTCAUSE_CAUSE = code ∧ t.chip.fld F.SYS_RSTCAUSE_PREV = s.chip.fld F.SYS_RSTCAUSE_CAUSE ∧
  t.chip.flag F.SYS_BOOT_HANDOFF = false ∧ t.chip.intake = intakeReset ∧ t.chip.slices = [] ∧ t.chip.links = [] ∧
  t.chip.sys.running = none ∧ t.chip.sys.booted = false ∧ t.chip.sys.romMapped = true ∧ t.chip.fuses = s.chip.fuses ∧ t.chip.sys.flash = s.chip.sys.flash ∧ Still s t

/-- A restart is released at once: the supply is there and RESV holds nothing (R471, R535). -/
def Chip.supplied (c : Chip) : Prop := c.supply.held = false ∧ c.warned = false ∧ c.supply.mainPg = true

/-- A migration command in hand (R419, R420): none is in progress, a PF has issued it, and it names a VF of its family that exists. -/
structure Migrates (c : Chip) (tag : Nat) (x : Ctx) (f : Nat) : Prop where
  here : c.starts tag x
  idle : c.flag F.TENANT_MIGCMD_BUSY = false
  pf : isPf x.fn = true
  target : f = bitsOf (x.dw 10) 9 0
  vf : isPf f = false
  family : portOf f = portOf x.fn
  exists_ : c.fnExists f = true

/-- A migration command is refused with a reason (R420): no function has changed. -/
def MigRefused (tag f opc reason len4 : Nat) (s t : State) : Prop :=
  Completes tag (reasonStatus reason) (reason + 256 * len4) s t ∧ t.chip.fld F.TENANT_MIGCMD_REASON = reason ∧ t.chip.fld F.TENANT_MIGCMD_RESULT = 1 ∧
  t.chip.fld F.TENANT_CNT_REFUSED = satAdd 16 (s.chip.fld F.TENANT_CNT_REFUSED) 1 ∧ Posts srcTenant 0x8006 [f, opc, reason] s t ∧
  RegsBut [(.tenantMigcmd, 0), (.tenantCnt, 0), (.evrecStat, 0)] s t ∧ Only [.intake, .regs, .ev] s t

/-- A DRAM channel with nothing waiting and no refresh owed. -/
structure ChannelIdle (c : Chip) (ch : Nat) : Prop where
  valid : ch < 8
  queue : (c.drc ch).queue = []
  owed : (c.drc ch).owed = []
  stored : c.wr = []

/-- A channel's controller is as given, and no other has changed. -/
def DrcIs (ch : Nat) (d : Drc) (s t : State) : Prop := t.chip.drc ch = d ∧ ∀ k, k ≠ ch → t.chip.drc k = s.chip.drc k

/-- The recorder may write one page of all it has staged: there is some, it fits in one block, the counters and the log are restored, no clear is under way,
no run of drops is open, and the page is not the log's last (R518, R519, R521, R526, R531). -/
structure PageReady (c : Chip) : Prop where
  some_ : c.ev.staging ≠ []
  fits : c.stagedBytes ≤ 4064
  restored : c.ev.restored = true
  clear : c.ev.clear = none
  room : c.ev.logFull = false ∧ c.ev.logPages + 1 < c.logPages
  run : c.ev.dropRun = 0

/-- One page with all staged records has gone to the log, on three copies, and event 0x9030 says what made it go (R520, R521). -/
def PageWritten (trigger : Nat) (s t : State) : Prop :=
  t.chip.ev.staging = [] ∧ t.chip.ev.log = s.chip.ev.log ++ s.chip.ev.staging ∧ t.chip.ev.logPages = s.chip.ev.logPages + 1 ∧
  t.chip.m.nextOp = s.chip.m.nextOp + 3 ∧ Posts srcEvrec 0x9030 [trigger] s t ∧ RegsBut [(.evrecStat, 0)] s t ∧ Only [.ev, .m, .regs, .now] s t

/-- A Get Log Page returns a page from the offset it asks for, or completes with Invalid Field where the offset lies past the page (log 6). -/
def ReturnsPage (i : Instr) (tag : Nat) (x : Ctx) (page : List Byte) (s : State) : Prop :=
  (x.logOff ≤ page.length → Gives i s fun t =>
    Sends [.hostData tag 0 ((page.drop x.logOff).take x.logLen)] s t ∧ Completes tag .success 0 s t ∧ Only [.intake, .out] s t) ∧
  (page.length < x.logOff → Gives i s fun t => Completes tag .invalidField 0 s t ∧ Only [.intake] s t)

/-- A core may be restarted and run again: it runs, is not retired, was not restarted within an operating hour, and nothing of its own is in flight
(R397, R504, R548). -/
structure MayRestart (c : Chip) (n : Nat) (k : Core) (d : RestartData) : Prop where
  valid : n < 16
  core : pget c.sys.cores n = some k
  running : k.running = true
  unretired : bitOf (c.fld F.SYS_LOCKSTEP_RETIRED) n = false
  long : ∀ r ∈ k.restarts, r + 1024 ≤ c.opTime
  digest : ∀ e ∈ c.digest, e.2.owner ≠ n
  tags : ∀ g ∈ d.tags, ∀ x, c.ctx g = some x → x.st ≠ .firmware

/-- A core has been restarted with its TCM kept: it runs from the warm entry of the running image, out of WFI, and the restart is recorded and counted
(R504, R548). -/
def CoreRestarted (n : Nat) (d : RestartData) (s t : State) : Prop :=
  (∃ k, pget t.chip.sys.cores n = some k ∧ k.running = true ∧ k.entry = (s.chip.sys.running.map Running.warm).getD 0 ∧ k.restarts = [t.chip.opTime]) ∧
  (∀ j, j ≠ n → pget t.chip.sys.cores j = pget s.chip.sys.cores j) ∧ t.chip.sys = { s.chip.sys with cores := t.chip.sys.cores } ∧ n ∉ t.chip.pwr.wfi ∧
  Sends [.coreStart n ((s.chip.sys.running.map Running.warm).getD 0)] s t ∧
  t.chip.fld F.SYS_LOCKSTEP_RESTARTS = satAdd 16 (s.chip.fld F.SYS_LOCKSTEP_RESTARTS) 1 ∧
  t.chip.fld F.PWR_RETSTAT_CORRECTED = min d.words 65535 ∧ t.chip.fld F.SYS_LOCKSTEP_RETIRED = s.chip.fld F.SYS_LOCKSTEP_RETIRED ∧
  RegsBut [(.sysLockstep, 0), (.pwrRetstat, 0), (.evrecStat, 0)] s t

/-- Every core that is not retired runs from an entry (R540, R545, R548). -/
def CoresRun (entry : Nat) (s t : State) : Prop :=
  ∀ n, n < 16 → bitOf (s.chip.fld F.SYS_LOCKSTEP_RETIRED) n = false →
    ∃ k, pget t.chip.sys.cores n = some k ∧ k.running = true ∧ k.entry = entry

end Sys2Proof.Machine
end

