-- ==== Sys2Proof/Certificates/Slice0/Obligations.lean ====
section
/-! DEFINITION. The statements about the part: what its commands do, when they complete and what they leave alone. -/

open Sys2Proof Sys2Proof.Machine

/-! The machine -/

/-- A step with a command at the front of the queue is that command's meaning on the state with the queue's rest. -/
def Obligations.StepRunsFrontCommand : Prop :=
  ∀ (s : State) (i : Instr) (rest : List Instr), s.pending = i :: rest → step s = exec i { s with pending := rest }

/-- A step takes one command from the queue and puts none in; well-formed queues stay so. With none waiting a step is one tick of ACLK: 40 ns pass, and only the
digest engine's input buffers move (R28, logs 9 and 16). -/
def Obligations.QueueIsServed : Prop :=
  (∀ s : State, s.pending = [] → ∃ t, step s = .next t ∧ t.chip.now = s.chip.now + 40 ∧ Only [.digest, .now] s t) ∧
  (∀ s t : State, step s = .next t → t.pending = s.pending.tail ∧ (s.queueOk → t.queueOk))

/-- Every command has a meaning in every state: none ends in a fault or a refusal. -/
def Obligations.EveryCommandAnswers : Prop :=
  ∀ (i : Instr) (s : State), ∃ t, exec i s = .next t

/-- Every step keeps memory in its canonical form, from any state that has it. -/
def Obligations.StepKeepsMemoryForm : Prop :=
  ∀ s t : State, s.Inv → step s = .next t → t.Inv

/-- What reset leaves: every register at the reset value of its table, no byte of memory listed, no command waiting, no tag in use, no link up, no
core started, the WARM reset held (R9, R84, R535; the values no rule gives are those of logs 7, 11 and 12). -/
def Obligations.ResetState : Prop :=
  State.reset.Inv ∧ State.reset.queueOk ∧ State.reset.pending = [] ∧ State.reset.mem = [] ∧
  (∀ r i, State.reset.chip.reg r i = regReset r i) ∧
  State.reset.chip.intake.tags = [] ∧ State.reset.chip.links = [] ∧ State.reset.chip.sys.cores = [] ∧ State.reset.chip.supply.held = true

/-- POWER_ON_RESET (R9): every memory and every register of the die is reset, whatever the state was; fuses, the boot flash and what waits in the
queue stay. The level of the balls PERST_L is no register's content, and stays in PWR_PINS. -/
def Obligations.PowerOnResetResetsAll : Prop :=
  ∀ s : State, Gives .powerOnReset s fun t =>
    t.mem = [] ∧ t.pending = s.pending ∧ t.chip.fuses = s.chip.fuses ∧ t.chip.sys.flash = s.chip.sys.flash ∧
    (∀ r i, i < 65536 → (r, i) ≠ (.pwrPins, 0) → t.chip.reg r i = regReset r i) ∧
    t.chip.fld F.PWR_PINS_PERST_L = s.chip.fld F.PWR_PINS_PERST_L ∧
    t.chip.intake = intakeReset ∧ t.chip.slices = [] ∧ t.chip.xts = [] ∧ t.chip.keys = [] ∧ t.chip.digest = [] ∧ t.chip.links = [] ∧
    t.chip.drcs = [] ∧ t.chip.supply.held = true

/-- The assignment in force after POR (R53): each of the 1,024 functions, PF and VF, holds the entry of its kind, and together they use the queue pairs, admin pairs
counted, the vectors and the guaranteed tags the rule gives, which the device limits allow. -/
def Obligations.AssignmentsAfterPor : Prop :=
  (∀ s : State, Gives .powerOnReset s fun t => ∀ f, f < 1024 → (t.chip.fn f).asg =
    if isPf f then { iopq := 64, vec := 65, tagMin := 1024, tagMax := 16384, nsMax := 256, pasidEn := false, pasid := 0 }
    else { iopq := 4, vec := 8, tagMin := 32, tagMax := 1024, nsMax := 16, pasidEn := false, pasid := 0 }) ∧
  (∀ f, isPf f = true ↔ f % 256 = 0) ∧
  ((List.range 1024).map fun f => (State.reset.chip.fn f).asg.iopq + 1).sum = 5360 ∧ 5360 ≤ 16384 ∧
  ((List.range 1024).map fun f => (State.reset.chip.fn f).asg.vec).sum = 8420 ∧ 8420 ≤ 16384 ∧
  ((List.range 1024).map fun f => (State.reset.chip.fn f).asg.tagMin).sum = 36736 ∧ 36736 ≤ 49152

/-! Registers -/

/-- A core's REGISTER_WRITE and REGISTER_READ_CLEAR of a register in a domain that is On, whose write starts nothing (R8, R33): a write leaves each field
as its type says (a write-only field keeps nothing to be read); a read sends the core the value, leaves 0 in RC fields and everything else as it was. No
other register changes. -/
def Obligations.RegistersFollowFieldTypes : Prop :=
  (∀ (s : State) (core i v dur : Nat) (r : RegId) (ext : List Byte),
    (∀ w u, effectE r w (effectD r w (effectC r w (effectB r w (effectA r w u)))) = u) → ownStore r = false → r ≠ .keysStage → r ≠ .pwrTimer →
    core < 16 → (regPlace r).hostOnly = false → bankOf core r i < regCount r →
    s.chip.regAbsent r i = false → s.chip.regAbsent r (bankOf core r i) = false → s.chip.domOn (regDomain r i) = true →
    Gives (.registerWrite (.csr core r i) v ext dur) s fun t =>
      (∀ f ∈ regFields r, bitsOf (t.chip.reg r (bankOf core r i)) f.hi f.lo =
        afterWrite f.ty (s.chip.locked r (bankOf core r i)) (bitsOf (s.chip.reg r (bankOf core r i)) f.hi f.lo) (bitsOf v f.hi f.lo)) ∧
      RegsBut [(r, bankOf core r i)] s t ∧ Only [.regs] s t) ∧
  (∀ (s : State) (core i : Nat) (r : RegId),
    core < 16 → (regPlace r).hostOnly = false → r ≠ .hpLstat → bankOf core r i < regCount r →
    s.chip.regAbsent r i = false → s.chip.regAbsent r (bankOf core r i) = false → s.chip.domOn (regDomain r i) = true →
    Gives (.registerReadClear (.csr core r i)) s fun t =>
      Sends [.coreData core (s.chip.regRead r (bankOf core r i))] s t ∧
      (∀ f ∈ regFields r, bitsOf (t.chip.reg r (bankOf core r i)) f.hi f.lo =
        if f.ty = .rc then 0 else bitsOf (s.chip.reg r (bankOf core r i)) f.hi f.lo) ∧
      RegsBut [(r, bankOf core r i)] s t ∧ Only [.regs, .out] s t)

/-! The cores' accesses and the clocks -/

/-- CORE_ACCESS (R32 to R37). To the SRAM buffer with its banks On, and to the core's own TCM, no word of it uncorrectable: a store leaves its bytes, least
significant first, and no other byte of memory; any other access sends the core what the bytes hold; the core is out of WFI. The core's own 2 MiB of TCM are
those the other cores see at 0xE1_0000_0000 on. Faults: cause 1 where no range of the map holds the access, 4 for a width or an alignment the CSR space does
not take, 3 for a CSR block or an SRAM bank whose domain is not On; memory keeps every byte. -/
def Obligations.CoreAccessReachesOrFaults : Prop :=
  ((∀ (s : State) (q : CoreReq), q.core < 16 → 0 < q.width → q.within 0x10000000000 0x10000000 = true →
    s.chip.domOn (domSb ((q.addr - 0x10000000000) / 2 ^ 25)) = true →
    s.chip.domOn (domSb ((q.addr + q.width - 1 - 0x10000000000) / 2 ^ 25)) = true →
    Gives (.coreAccess q) s fun t =>
      q.core ∉ t.chip.pwr.wfi ∧
      (q.kind = .store → readBytes t q.addr q.width = leBytes q.width q.value ∧ MemBut q.addr q.width s t ∧ OnlyMem [.pwr] s t) ∧
      (q.kind ≠ .store → Sends [.coreData q.core (readNum s q.addr q.width)] s t ∧ Only [.pwr, .out] s t)) ∧
  (∀ (s : State) (q : CoreReq) (a : Nat), q.core < 16 → 0 < q.width → q.within 0xE000000000 0x200000 = true → q.tcm = none →
    a = 0xE100000000 + q.core * 0x200000 + (q.addr - 0xE000000000) →
    Gives (.coreAccess q) s fun t =>
      (q.kind = .store → readBytes t a q.width = leBytes q.width q.value ∧ MemBut a q.width s t ∧ OnlyMem [.pwr] s t) ∧
      (q.kind ≠ .store → Sends [.coreData q.core (readNum s a q.width)] s t ∧ Only [.pwr, .out] s t))) ∧
  (∀ (s : State) (q : CoreReq), q.core < 16 → 0 < q.width →
    (0xFF00040000 ≤ q.addr → q.addr + q.width ≤ 0x10000000000 →
      Gives (.coreAccess q) s fun t => Faults q.core 1 q.addr s t ∧ Only [.regs, .ev, .out, .pwr] s t) ∧
    (∀ d, q.within 0xF000000000 0x3200000 = true → blockDomain q.addr = some d → (q.width ≠ 4 ∧ q.width ≠ 8) ∨ q.addr % q.width ≠ 0 →
      Gives (.coreAccess q) s fun t => Faults q.core 4 q.addr s t ∧ Only [.regs, .ev, .out, .pwr] s t) ∧
    (∀ d, q.within 0xF000000000 0x3200000 = true → blockDomain q.addr = some d → q.width = 8 → q.addr % 8 = 0 → blockPort q.addr = none →
      s.chip.domOn d = false → Gives (.coreAccess q) s fun t => Faults q.core 3 q.addr s t ∧ Only [.regs, .ev, .out, .pwr] s t) ∧
    (q.within 0x10000000000 0x10000000 = true → s.chip.domOn (domSb ((q.addr - 0x10000000000) / 2 ^ 25)) = false →
      Gives (.coreAccess q) s fun t => Faults q.core 3 q.addr s t ∧ Only [.regs, .ev, .out, .pwr] s t))

/-- CLOCK_LOSS (R31, R551), the WARM reset not held: the loss of a watched clock sets its bit of SYS_CLKSTAT beside those set and posts event 0x6001; the standby clock stops
nothing else; without a clock of the cores, the fabric, the crossbar or AON no command is in flight afterwards. SOFTWARE_WARM_RESET and DEVICE_WATCHDOG_EXPIRY (R535,
R549) restart the part, at once while the supply is there; kicks start a count anew; LOCKSTEP_MISMATCH and CORE_WATCHDOG_EXPIRY (R547 to R549) restart a core with
its TCM kept or lost, or retire it at its second within an operating hour; NVME_MI_MESSAGE (R498) reaches firmware. -/
def Obligations.ClocksWatchdogsAndRestarts : Prop :=
  (∀ s : State, s.chip.supply.held = false →
    (s.chip.watched .sclk = true → Gives (.clockLoss .sclk) s fun t =>
      (∀ k, k < 18 → bitOf (t.chip.reg .sysClkstat 0) k = (k == 17 || bitOf (s.chip.reg .sysClkstat 0) k)) ∧
      Posts srcPwr 0x6001 [17] s t ∧ RegsBut [(.sysClkstat, 0), (.evrecStat, 0)] s t ∧ Only [.regs, .ev] s t) ∧
    (∀ k ∈ [Clock.fclk, .xclk, .cclk, .aclk], s.chip.watched k = true → Gives (.clockLoss k) s fun t =>
      t.chip.intake = intakeReset ∧ t.chip.slices = [] ∧ t.chip.links = [] ∧ Still s t)) ∧
  (∀ s : State,
    (s.chip.supplied → Gives .softwareWarmReset s fun t => Restarted 6 s t) ∧
    (s.chip.supply.held = true ∨ s.chip.warned = true ∨ s.chip.supply.mainPg = false → Gives .softwareWarmReset s fun t =>
      t.chip.supply.held = true ∧ t.chip.supply.code = 6 ∧ t.chip.supply.holdFrom = s.chip.now ∧ t.chip.intake = intakeReset ∧ t.chip.sys.running = none ∧
      t.chip.fuses = s.chip.fuses ∧ Still s t) ∧
    (s.chip.supply.held = true → exec .deviceWatchdogExpiry s = .next s) ∧
    (s.chip.supplied → Gives .deviceWatchdogExpiry s fun t => Restarted 5 s t ∧ t.chip.now = max s.chip.now (s.chip.sys.wdogAt + ms s.chip.wdogMs)) ∧
    (Gives .watchdogKick s fun t => t.chip.sys = { s.chip.sys with wdogAt := s.chip.now } ∧ Only [.sys] s t) ∧
    (∀ n, pget s.chip.sys.cores n = none → exec (.coreWatchdogKick n) s = .next s) ∧
    (∀ n k, pget s.chip.sys.cores n = some k → Gives (.coreWatchdogKick n) s fun t =>
      t.chip.sys = { s.chip.sys with cores := pset s.chip.sys.cores n { k with kickAt := s.chip.now } } ∧ Only [.sys] s t) ∧
    (∀ n d, (∀ k, pget s.chip.sys.cores n = some k → k.running = false) →
      exec (.lockstepMismatch n d) s = .next s ∧ exec (.coreWatchdogExpiry n d) s = .next s) ∧
    (∀ n d, s.chip.flag F.SYS_CWDOG_EN n = false ∨ n ∈ s.chip.pwr.wfi → exec (.coreWatchdogExpiry n d) s = .next s) ∧
    (∀ n k d, MayRestart s.chip n k d → d.lost = none →
      (Gives (.lockstepMismatch n d) s fun t =>
        CoreRestarted n d s t ∧ t.chip.fld F.SYS_LOCKSTEP_MISMATCH = satAdd 16 (s.chip.fld F.SYS_LOCKSTEP_MISMATCH) 1 ∧ Posts srcSys 0x9011 [n] s t ∧
        Only [.regs, .ev, .sys, .pwr, .out] s t) ∧
      (s.chip.flag F.SYS_CWDOG_EN n = true → n ∉ s.chip.pwr.wfi → Gives (.coreWatchdogExpiry n d) s fun t =>
        CoreRestarted n d s t ∧ t.chip.fld F.SYS_LOCKSTEP_MISMATCH = s.chip.fld F.SYS_LOCKSTEP_MISMATCH ∧ Posts srcSys 0x9013 [n] s t ∧
        t.chip.now = max s.chip.now (k.kickAt + us (max 100 (s.chip.fld F.SYS_CWDOG_TIMEOUT_US n))) ∧ Only [.regs, .ev, .sys, .pwr, .out, .now] s t)) ∧
    (∀ n k d cause, MayRestart s.chip n k d → d.lost = some cause → Gives (.lockstepMismatch n d) s fun t =>
      (∃ k', pget t.chip.sys.cores n = some k' ∧ k'.running = true ∧ k'.entry = (s.chip.sys.running.map Running.warm).getD 0) ∧
      (∀ a, 0xE100000000 + n * 0x200000 ≤ a → a < 0xE100000000 + (n + 1) * 0x200000 → readByte t a = memUnlisted) ∧
      MemBut (0xE100000000 + n * 0x200000) 0x200000 s t ∧ bitOf (t.chip.reg .pwrRetstat 0) (8 + n / 4) = true ∧
      Posts srcPwr 0x6005 [8 + n / 4, cause, d.bits] s t ∧ OnlyMem [.regs, .ev, .sys, .pwr, .out] s t) ∧
    (∀ n k d, n < 16 → pget s.chip.sys.cores n = some k → k.running = true → (∃ r ∈ k.restarts, s.chip.opTime < r + 1024) → d.tags = [] →
      (∀ e ∈ s.chip.digest, e.2.owner ≠ n) → Gives (.lockstepMismatch n d) s fun t =>
        (∀ j, j < 16 → bitOf (t.chip.fld F.SYS_LOCKSTEP_RETIRED) j = (j == n || bitOf (s.chip.fld F.SYS_LOCKSTEP_RETIRED) j)) ∧
        t.chip.sys = { s.chip.sys with cores := pset s.chip.sys.cores n { k with running := false, restarts := [s.chip.opTime] } } ∧
        RegsBut [(.sysLockstep, 0), (.evrecStat, 0)] s t ∧ Only [.regs, .ev, .sys] s t) ∧
    (∀ via m, 2 < via → exec (.nvmeMiMessage via m) s = .next s) ∧
    (∀ m, Gives (.nvmeMiMessage 2 m) s fun t => Sends [.miMessage 2 m] s t ∧ Only [.out] s t) ∧
    (∀ via m, via < 2 → Gives (.nvmeMiMessage via m) s fun t =>
      t.chip.out.head? = some (.miMessage via m) ∧ (s.chip.pwr.commitAt = none → bitOf (t.chip.reg .pwrEdge 0) 2 = true) ∧ Only [.regs, .pwr, .out] s t))

/-! Host ports and functions -/

/-- LINK_TRAINING_DONE on a link in training (R42, R43): the link is up at the speed and width trained, degraded below its target or its full width, in FLIT mode
at 64 GT/s. RETRAIN starts the training of a link that may train, on the port that leads it. PERST_DEASSERT (R42, R499): PERST# of the port rises, the ball's bit of
PWR_PINS with it, and its link trains where it may. PERST_ASSERT, LINK_DISABLE, HOT_RESET and LINK_DOWN with no command in flight behind the link (R72, R73):
the link is lost, as the cause has it. LINK_DISABLE of the other port of a merged pair sets its bit alone (R41). -/
def Obligations.LinksTrainAndAreLost : Prop :=
  ((∀ (s : State) (port speed width l : Nat) (flit : Bool), port < 4 → l = s.chip.lead port →
    ((s.chip.port l).training = true → speed < 16 → width < 32 → Gives (.linkTrainingDone port speed width flit) s fun t =>
      (t.chip.port l).up = true ∧ (t.chip.port l).training = false ∧ (∀ q, q ≠ l → t.chip.port q = s.chip.port q) ∧
      t.chip.flag F.HP_LSTAT_LINK_UP l = true ∧ t.chip.fld F.HP_LSTAT_SPEED l = speed ∧ t.chip.fld F.HP_LSTAT_WIDTH l = width ∧
      t.chip.fld F.HP_LSTAT_L0P_WIDTH l = width ∧ t.chip.fld F.HP_LSTAT_FLIT l = b2n (flit || speed == 6) ∧
      (t.chip.fld F.HP_LSTAT_DEGRADED l = b2n (decide (width < s.chip.fullWidth l) || decide (speed < s.chip.fld F.HP_CTL_TGT_SPEED l))) ∧
      RegsBut [(.hpLstat, l), (.hpFault, l), (.evrecStat, 0)] s t ∧ Only [.ports, .regs, .ev] s t) ∧
    (l = port → s.chip.mayTrain port = true → Gives (.retrain port) s fun t =>
      (t.chip.port port).training = true ∧ (t.chip.port port).perst = false ∧ (∀ q, q ≠ port → t.chip.port q = s.chip.port q) ∧ Only [.ports] s t) ∧
    (l ≠ port → exec (.retrain port) s = .next s)) ∧
  (∀ (s : State) (port : Nat), port < 4 → (s.chip.port port).perst = true →
    Gives (.perstDeassert port) s fun t =>
      (t.chip.port port).perst = false ∧ (∀ k, k < 4 → bitOf (t.chip.fld F.PWR_PINS_PERST_L) k = (k == port || bitOf (s.chip.fld F.PWR_PINS_PERST_L) k)) ∧
      (t.chip.mayTrain port = true → (t.chip.port (t.chip.lead port)).training = true) ∧
      (∀ q, q ≠ port → q ≠ s.chip.lead port → t.chip.port q = s.chip.port q) ∧ Only [.ports, .regs, .pwr, .out] s t)) ∧
  (∀ (s : State) (port : Nat), port < 4 → (∀ f ∈ s.chip.linkFns port, s.chip.quiet f) →
    ((s.chip.port port).perst = false → Gives (.perstAssert port) s fun t =>
      linkLost s t port ∧ (t.chip.port port).perst = true ∧ bitOf (t.chip.fld F.PWR_PINS_PERST_L) port = false) ∧
    (s.chip.lead port = port → Gives (.linkDisable port) s fun t =>
      linkLost s t port ∧ t.chip.flag F.HP_CTL_LINK_DIS port = true ∧ Sends [.lanesIdle port] s t) ∧
    (s.chip.lead port ≠ port → Gives (.linkDisable port) s fun t =>
      t.chip.flag F.HP_CTL_LINK_DIS port = true ∧ RegsBut [(.hpCtl, port)] s t ∧ Only [.regs] s t) ∧
    (Gives (.hotReset port) s fun t => linkLost s t port ∧ (s.chip.mayTrain port = true → (t.chip.port (s.chip.lead port)).training = true)) ∧
    (∀ ltssm, (s.chip.port (s.chip.lead port)).up = true → Gives (.linkDown port ltssm) s fun t =>
      linkLost s t port ∧ t.chip.flag F.HP_FAULT_LINK_DOWN (s.chip.lead port) = true ∧
      Posts (srcHp (s.chip.lead port)) 0x1002 [s.chip.lead port, ltssm] s t))

/-- CONFIG_REQUEST (R44, R57, R61): Request Retry Status until firmware has set CFG_RDY; afterwards a function that does not exist answers Unsupported
Request, and one that does answers, with VF Enable and the PASID enable taken. Clearing VF Enable of quiet VFs begins a reset of each. -/
def Obligations.ConfigRequestAnswers : Prop :=
  ∀ (s : State) (fn : Nat),
    (∀ act, s.chip.flag F.HP_CTL_CFG_RDY (s.chip.lead (portOf fn)) = false →
      Gives (.configRequest fn act) s fun t => Sends [.cfgReply fn true] s t ∧ Only [.out] s t) ∧
    (∀ act, s.chip.flag F.HP_CTL_CFG_RDY (s.chip.lead (portOf fn)) = true → s.chip.fnExists fn = false →
      Gives (.configRequest fn act) s fun t => Sends [.unsupported fn] s t ∧ Only [.out] s t) ∧
    (s.chip.flag F.HP_CTL_CFG_RDY (s.chip.lead (portOf fn)) = true → s.chip.fnExists fn = true →
      (∀ act, act = .read ∨ (∃ off v, act = .write off v) →
        Gives (.configRequest fn act) s fun t => Sends [.cfgReply fn false] s t ∧ Only [.out] s t) ∧
      (∀ on, Gives (.configRequest fn (.pasidEnable on)) s fun t =>
        Sends [.cfgReply fn false] s t ∧ t.chip.fn fn = { s.chip.fn fn with pasidCap := on } ∧ FnsBut [fn] s t ∧ Only [.fns, .out] s t) ∧
      (isPf fn = true → Gives (.configRequest fn (.vfEnable true)) s fun t =>
        Sends [.cfgReply fn false] s t ∧ t.chip.fn fn = { s.chip.fn fn with vfe := true } ∧ FnsBut [fn] s t ∧ Only [.fns, .out] s t) ∧
      (isPf fn = true → (∀ f ∈ s.chip.portFns (portOf fn), s.chip.quiet f) → Gives (.configRequest fn (.vfEnable false)) s fun t =>
        Sends [.cfgReply fn false] s t ∧ (t.chip.fn fn).vfe = false ∧
        (∀ f ∈ s.chip.portFns (portOf fn), isPf f = false → (t.chip.fn f).resetAt = some s.chip.now) ∧
        FnsBut (s.chip.portFns (portOf fn)) s t ∧ Only [.fns, .out] s t))

/-- L0P_NARROW and L0P_WIDEN (R45): the L0p width of a link that is up changes where R45 lets it, and nothing else does; otherwise the state stays.
D3HOT_ENTRY and D0_RETURN (R48): the function is in D3hot, and in D0 again; with no completion held and no vector pending that is all. -/
def Obligations.LinkAndFunctionPower : Prop :=
  (∀ (s : State) (port width l : Nat), port < 4 → width < 32 → l = s.chip.lead port → s.chip.flag F.HP_LSTAT_LINK_UP l = true →
    (s.chip.flag F.HP_LSTAT_FLIT l = true → (∃ n, s.chip.l0pMin l = some n ∧ n ≤ width) → width < s.chip.fld F.HP_LSTAT_L0P_WIDTH l →
      Gives (.l0pNarrow port width) s fun t => t.chip.fld F.HP_LSTAT_L0P_WIDTH l = width ∧ RegsBut [(.hpLstat, l)] s t ∧ Only [.regs] s t) ∧
    (s.chip.flag F.HP_LSTAT_FLIT l = false ∨ s.chip.l0pMin l = none ∨ s.chip.fld F.HP_LSTAT_L0P_WIDTH l ≤ width →
      exec (.l0pNarrow port width) s = .next s) ∧
    (s.chip.fld F.HP_LSTAT_L0P_WIDTH l < width → width ≤ s.chip.fld F.HP_LSTAT_WIDTH l →
      Gives (.l0pWiden port width) s fun t => t.chip.fld F.HP_LSTAT_L0P_WIDTH l = width ∧ RegsBut [(.hpLstat, l)] s t ∧ Only [.regs] s t) ∧
    (s.chip.fld F.HP_LSTAT_WIDTH l < width → exec (.l0pWiden port width) s = .next s)) ∧
  (∀ (s : State) (fn : Nat),
    (s.chip.fnExists fn = true → Gives (.d3hotEntry fn) s fun t =>
      t.chip.fn fn = { s.chip.fn fn with d3hot := true } ∧ FnsBut [fn] s t ∧ Only [.fns] s t) ∧
    ((s.chip.fn fn).d3hot = true → (s.chip.fn fn).d3Held = [] → (s.chip.fn fn).pba = [] → Gives (.d0Return fn) s fun t =>
      t.chip.fn fn = { s.chip.fn fn with d3hot := false } ∧ FnsBut [fn] s t ∧ Only [.fns] s t))

/-- The queue doorbells of a function that is not fenced, MX On (R50, R80, R423): a value within the queue is its new tail or head; one beyond it, or for a
queue that does not exist, raises the invalid-doorbell event; a fenced function's doorbell does nothing (R75). The mailbox doorbell (R60): TO_FW is set and
firmware interrupted; TO_HOST raises vector 0 of the PF as it rises, or its pending bit where the vector is masked, and does nothing more while it is set. -/
def Obligations.Doorbells : Prop :=
  (∀ (s : State) (fn qid v : Nat), s.chip.fnExists fn = true →
    ((s.chip.fn fn).fence.isSome = true → exec (.sqTailDoorbell fn qid v) s = .next s ∧ exec (.cqHeadDoorbell fn qid v) s = .next s) ∧
    ((s.chip.fn fn).fence = none → s.chip.domOn domMx = true →
      (∀ q, pget (s.chip.fn fn).sqs qid = some q → v < q.size → Gives (.sqTailDoorbell fn qid v) s fun t =>
        t.chip.fn fn = { s.chip.fn fn with sqs := pset (s.chip.fn fn).sqs qid { q with tail := v } } ∧ FnsBut [fn] s t ∧ Only [.fns] s t) ∧
      (∀ q, pget (s.chip.fn fn).cqs qid = some q → v < q.size → q.held = [] → q.stalled = false → Gives (.cqHeadDoorbell fn qid v) s fun t =>
        t.chip.fn fn = { s.chip.fn fn with cqs := pset (s.chip.fn fn).cqs qid { q with head := v } } ∧ FnsBut [fn] s t ∧ Only [.fns] s t) ∧
      ((∀ q, pget (s.chip.fn fn).sqs qid = some q → q.size ≤ v) → (s.chip.fn fn).aers = [] → Gives (.sqTailDoorbell fn qid v) s fun t =>
        AsyncEvent.invalidDoorbell ∈ (t.chip.fn fn).pendEv ∧ (t.chip.fn fn).sqs = (s.chip.fn fn).sqs ∧ FnsBut [fn] s t ∧ Only [.fns] s t) ∧
      ((∀ q, pget (s.chip.fn fn).cqs qid = some q → q.size ≤ v) → (s.chip.fn fn).aers = [] → Gives (.cqHeadDoorbell fn qid v) s fun t =>
        AsyncEvent.invalidDoorbell ∈ (t.chip.fn fn).pendEv ∧ (t.chip.fn fn).cqs = (s.chip.fn fn).cqs ∧ FnsBut [fn] s t ∧ Only [.fns] s t))) ∧
  (∀ (s : State) (pf : Nat), pf < 4 →
    (Gives (.mailboxToFw pf) s fun t =>
      t.chip.flag F.BAR2_MBX_DB_TO_FW pf = true ∧ t.chip.fld F.BAR2_MBX_DB_TO_HOST pf = s.chip.fld F.BAR2_MBX_DB_TO_HOST pf ∧
      Sends [.fwIrq (srcHp pf)] s t ∧ RegsBut [(.bar2MbxDb, pf)] s t ∧ Only [.regs, .out] s t) ∧
    (s.chip.flag F.BAR2_MBX_DB_TO_HOST pf = true → exec (.mailboxToHost pf) s = .next s) ∧
    (s.chip.flag F.BAR2_MBX_DB_TO_HOST pf = false → (s.chip.fn (pf * 256)).silent = false → Gives (.mailboxToHost pf) s fun t =>
      t.chip.flag F.BAR2_MBX_DB_TO_HOST pf = true ∧ RegsBut [(.bar2MbxDb, pf)] s t ∧
      (((pget (s.chip.fn (pf * 256)).msix 0).map MsixEntry.mask).getD false = false →
        Sends [.msix (pf * 256) 0] s t ∧ FnsBut [] s t) ∧
      (((pget (s.chip.fn (pf * 256)).msix 0).map MsixEntry.mask).getD false = true →
        0 ∈ (t.chip.fn (pf * 256)).pba ∧ FnsBut [pf * 256] s t ∧ Sends [] s t) ∧ Only [.regs, .fns, .out] s t))

/-- ASSIGNMENT_COMMIT (R55, R56): the code of the first check that fails, or 0, stands in BAR2_ASG_STAT beside the index; with code 0 the entry the host
wrote is in force, otherwise the one in force stays and event 0x1009 says so. NAMESPACE_ATTACHMENT (R58): the whole list is attached, or detached, or the
command ends with the status of the first check that fails and no function has changed. -/
def Obligations.AssignmentsAndAttachments : Prop :=
  (∀ (s : State) (pf index f code : Nat), pf < 4 → f = pf * 256 + index % 256 → code = s.chip.asgCode pf f (s.chip.entry f) →
    Gives (.assignmentCommit pf index) s fun t =>
      t.chip.fld F.BAR2_ASG_STAT_CODE pf = code ∧ t.chip.fld F.BAR2_ASG_STAT_INDEX pf = index % 256 ∧ code ≤ 4 ∧
      (code = 0 → t.chip.fn f = { s.chip.fn f with asg := s.chip.entry f } ∧ FnsBut [f] s t) ∧
      (code ≠ 0 → FnsBut [] s t ∧ Posts (srcHp pf) 0x1009 [pf, index % 256, code] s t) ∧
      RegsBut [(.bar2AsgCmd, pf), (.bar2AsgStat, pf), (.evrecStat, 0)] s t ∧ Only [.regs, .fns, .ev] s t) ∧
  (∀ (s : State) (tag : Nat) (x : Ctx) (list : List Nat) (on : Bool), s.chip.starts tag x → on = decide (bitsOf (x.dw 10) 3 0 = 0) →
    (∀ st, s.chip.attachCheck x.nsid on list = some st → Gives (.namespaceAttachment tag list) s fun t =>
      Completes tag st 0 s t ∧ FnsBut [] s t ∧ Only [.intake] s t) ∧
    (s.chip.attachCheck x.nsid on list = none → (∀ f ∈ list, (s.chip.fn f).aers = []) → Gives (.namespaceAttachment tag list) s fun t =>
      Completes tag .success 0 s t ∧ FnsBut list s t ∧
      (∀ f ∈ list, (t.chip.fn f).nsids = if on then (s.chip.fn f).nsids ++ [x.nsid] else (s.chip.fn f).nsids.filter (· != x.nsid)) ∧
      Only [.fns, .intake] s t))

/-- ATS_INVALIDATION (R62): every cached translation of the function and PASID in the range is gone, no other is, and the completion is sent. IDE (R63 to R65): keys
installed make a stream Secure and bind functions to it; a TLP on another stream than its function is bound to answers Unsupported Request; a failed integrity
check makes the stream Insecure and fences the functions bound to it. ANA_STATE_WRITE (R66, R67): the sixteen states are stored, each that changed is recorded
as event 0x100A in the order of its group, and the port's ready functions that are not fenced hold the asynchronous event. -/
def Obligations.TranslationsStreamsAndAnaStates : Prop :=
  (∀ (s : State) (port fn pasid page count : Nat), Gives (.atsInvalidation port fn pasid page count) s fun t =>
    (∀ p f i a d, (p, f, i, a, d) ∈ t.chip.intake.atc ↔
      (p, f, i, a, d) ∈ s.chip.intake.atc ∧ ¬ (p = port ∧ f = fn ∧ i = pasid ∧ page ≤ a ∧ a < page + count)) ∧
    t.chip.intake = { s.chip.intake with atc := t.chip.intake.atc } ∧ Sends [.atsDone port] s t ∧ Only [.intake, .out] s t) ∧
  (∀ (s : State) (port stream l : Nat), port < 4 → l = s.chip.lead port →
    (∀ fns, stream < (if s.chip.merged l then 16 else 8) → Gives (.ideKeyInstall port stream fns) s fun t =>
      stream ∈ (t.chip.port l).secure ∧ stream ∉ (t.chip.port l).insecure ∧ (∀ f ∈ fns, (t.chip.fn f).stream = some stream) ∧
      bitOf (t.chip.fld F.HP_IDESTAT_SECURE l) stream = true ∧ (∀ q, q ≠ l → t.chip.port q = s.chip.port q) ∧
      FnsBut fns s t ∧ RegsBut [(.hpIdestat, l)] s t ∧ Only [.ports, .fns, .regs] s t) ∧
    (∀ fns, (if s.chip.merged l then 16 else 8) ≤ stream → exec (.ideKeyInstall port stream fns) s = .next s) ∧
    (∀ fn on, (∃ k, (s.chip.fn fn).stream = some k ∧ on ≠ some k) → Gives (.unboundStreamTlp fn on) s fun t =>
      Sends [.unsupported fn] s t ∧ Only [.out] s t) ∧
    (∀ fn on, (s.chip.fn fn).stream = none ∨ (s.chip.fn fn).stream = on → exec (.unboundStreamTlp fn on) s = .next s) ∧
    (stream ∈ (s.chip.port l).secure → (∀ f ∈ s.chip.linkFns l, s.chip.quiet f) → Gives (.ideIntegrityFailure port stream) s fun t =>
      stream ∈ (t.chip.port l).insecure ∧ stream ∉ (t.chip.port l).secure ∧ t.chip.flag F.HP_FAULT_IDE_FAIL l = true ∧
      (∀ f ∈ s.chip.linkFns l, (s.chip.fn f).stream = some stream → (t.chip.fn f).fence = some ((s.chip.fn f).fence.getD 1)) ∧
      FnsBut ((s.chip.linkFns l).filter fun f => (s.chip.fn f).stream == some stream) s t ∧ Only [.ports, .fns, .regs, .ev, .out] s t) ∧
    (stream ∉ (s.chip.port l).secure → exec (.ideIntegrityFailure port stream) s = .next s)) ∧
  (∀ (s : State) (port k value : Nat), port < 4 → k < 64 → ((pget s.chip.ev.queues (srcHp port)).getD []) = [] →
    (∀ f ∈ s.chip.portFns port, (s.chip.fn f).rdy = true → (s.chip.fn f).aers = []) →
    Gives (.anaStateWrite port k value) s fun t =>
      t.chip.reg .hpAnast (port * 64 + k) = value % 2 ^ 64 ∧
      (pget t.chip.ev.queues (srcHp port)).getD [] =
        ((List.range 16).filter fun j => bitsOf (s.chip.reg .hpAnast (port * 64 + k)) (4 * j + 3) (4 * j) != bitsOf value (4 * j + 3) (4 * j)).map
          (fun j => ⟨0x100A, [16 * k + j + 1, port, bitsOf value (4 * j + 3) (4 * j)], srcHp port, 0⟩) ∧
      (value % 2 ^ 64 ≠ s.chip.reg .hpAnast (port * 64 + k) → ∀ f ∈ s.chip.portFns port, (s.chip.fn f).rdy = true → (s.chip.fn f).fence = none →
        AsyncEvent.anaChange ∈ (t.chip.fn f).pendEv) ∧
      FnsBut (s.chip.portFns port) s t ∧ RegsBut [(.hpAnast, port * 64 + k), (.evrecStat, 0)] s t ∧ Only [.regs, .ev, .fns] s t)

/-- The reservation commands as they start, with room in the open frame of the journal (R69, R70): a new registrant, a reservation acquired by a
registrant where none is held, released by its holder, or cleared, is the namespace's new state and a journal record, and the command waits for it to be
durable. One that conflicts changes nothing and completes with Reservation Conflict; the report returns the state. -/
def Obligations.ReservationCommands : Prop :=
  ∀ (s : State) (tag : Nat) (x : Ctx) (n : NsRec) (r : Resv) (h key nk : Nat),
    s.chip.starts tag x → s.chip.ns x.nsid = some n → s.chip.scanned n = false → r = s.chip.resvOf x.nsid → h = (s.chip.fn x.fn).hostId →
    (s.chip.intake.tags.any fun e => e.2.kind == .reservation && e.2.st == .media && e.2.nsid == x.nsid) = false →
    s.chip.z.journal.used + 8400 ≤ 0x4000 → r.regs.length < 256 →
    (bitsOf (x.dw 10) 2 0 = 0 → bitsOf (x.dw 10) 31 30 = 0 → r.keyOf h = none → Gives (.reservationRegister tag [key, nk]) s fun t =>
      t.chip.resvOf x.nsid = { r with regs := r.regs ++ [⟨h, nk⟩], gen := r.gen + 1 } ∧
      Journals x.nsid 0 (.resv x.nsid (t.chip.resvOf x.nsid).nums) [.resv tag] s t ∧ Only [.intake, .z] s t) ∧
    (bitsOf (x.dw 10) 2 0 = 1 → r.keyOf h = none → Gives (.reservationRegister tag [key, nk]) s fun t =>
      Completes tag .reservationConflict 0 s t ∧ Only [.intake] s t) ∧
    (bitsOf (x.dw 10) 2 0 = 0 → r.keyOf h = some key → 1 ≤ bitsOf (x.dw 10) 15 8 → bitsOf (x.dw 10) 15 8 ≤ 6 → r.rtype = 0 →
      Gives (.reservationAcquire tag [key, nk]) s fun t =>
        t.chip.resvOf x.nsid = { r with rtype := bitsOf (x.dw 10) 15 8, holder := h } ∧
        Journals x.nsid 0 (.resv x.nsid (t.chip.resvOf x.nsid).nums) [.resv tag] s t ∧ Only [.intake, .z] s t) ∧
    (bitsOf (x.dw 10) 2 0 = 0 → r.keyOf h = some key → 1 ≤ bitsOf (x.dw 10) 15 8 → bitsOf (x.dw 10) 15 8 ≤ 6 → r.rtype ≠ 0 → r.holds h = false →
      Gives (.reservationAcquire tag [key, nk]) s fun t => Completes tag .reservationConflict 0 s t ∧ Only [.intake] s t) ∧
    (bitsOf (x.dw 10) 2 0 = 0 → r.keyOf h = some key → r.rtype ≠ 0 → r.holds h = true → r.rtype = bitsOf (x.dw 10) 15 8 →
      Gives (.reservationRelease tag [key]) s fun t =>
        t.chip.resvOf x.nsid = { r with rtype := 0, holder := 0 } ∧
        Journals x.nsid 0 (.resv x.nsid (t.chip.resvOf x.nsid).nums) [.resv tag] s t ∧ Only [.intake, .z] s t) ∧
    (bitsOf (x.dw 10) 2 0 = 1 → r.keyOf h = some key → Gives (.reservationRelease tag [key]) s fun t =>
        t.chip.resvOf x.nsid = { r with rtype := 0, holder := 0, regs := [], gen := r.gen + 1 } ∧
        Journals x.nsid 0 (.resv x.nsid (t.chip.resvOf x.nsid).nums) [.resv tag] s t ∧ Only [.intake, .z] s t) ∧
    (Gives (.reservationReport tag) s fun t =>
      Sends [.hostValues tag ([r.gen, r.rtype, r.regs.length, b2n r.ptpl] ++ r.regs.flatMap fun g => [g.host, g.key, b2n (r.holds g.host)])] s t ∧
      Completes tag .success 0 s t ∧ Only [.intake, .out] s t)

/-- The errors of DMA and of host writes (R74): a failed read of a command's data sets the port's fault bit and posts its event; a command before its
commit point ends with Data Transfer Error and holds no claim, one after it goes on. A poisoned write is discarded, and says so. -/
def Obligations.DmaErrors : Prop :=
  ∀ (s : State) (tag p : Nat) (x : Ctx), s.chip.ctx tag = some x → p = portOf x.fn → p < 4 →
    (x.committed = true ∨ x.sent = true →
      (Gives (.dmaReadTimeout (.command tag)) s fun t => t.chip.flag F.HP_FAULT_CPL_TIMEOUT p = true ∧ Posts (srcHp p) 0x1007 [x.fn, tag] s t ∧
        RegsBut [(.hpFault, p), (.evrecStat, 0)] s t ∧ Only [.regs, .ev] s t) ∧
      (Gives (.poisonedCompletion (.command tag)) s fun t => t.chip.flag F.HP_FAULT_POISON_RX p = true ∧ Posts (srcHp p) 0x1008 [x.fn, tag] s t ∧
        RegsBut [(.hpFault, p), (.evrecStat, 0)] s t ∧ Only [.regs, .ev] s t)) ∧
    (x.committed = false → x.sent = false → x.placed = false → x.commit = none →
      (Gives (.dmaReadTimeout (.command tag)) s fun t => t.chip.flag F.HP_FAULT_CPL_TIMEOUT p = true ∧ Posts (srcHp p) 0x1007 [x.fn, tag] s t ∧
        Completes tag .dataTransferError 0 s t ∧ (∀ k, ∀ m ∈ (t.chip.slice k).claims, m.tag ≠ tag) ∧
        Only [.regs, .ev, .intake, .slices, .z, .m, .fns] s t) ∧
      (Gives (.poisonedCompletion (.command tag)) s fun t => t.chip.flag F.HP_FAULT_POISON_RX p = true ∧ Posts (srcHp p) 0x1008 [x.fn, tag] s t ∧
        Completes tag .dataTransferError 0 s t ∧ (∀ k, ∀ m ∈ (t.chip.slice k).claims, m.tag ≠ tag) ∧
        Only [.regs, .ev, .intake, .slices, .z, .m, .fns] s t)) ∧
    (∀ off, Gives (.poisonedWriteTlp x.fn off) s fun t => t.chip.flag F.HP_FAULT_POISON_RX p = true ∧ Posts (srcHp p) 0x1008 [x.fn, off] s t ∧
      RegsBut [(.hpFault, p), (.evrecStat, 0)] s t ∧ Only [.regs, .ev] s t)

/-! Intake: fetch, checks, queues, the post stage -/

/-- FETCH_TURN with MX On (R81, R85): where the function whose turn it is has one entry in its admin queue and none in others, the entry's command takes the lowest
free tag, the queue's head moves on, and 64 bytes are read at the entry's address; lacking a tag it is skipped, counted and reported. SUBMISSION_ENTRY_FETCHED
(R87 to R92): a command that passes its checks keeps its entry, lengths and segments and nothing else has happened; one with an unknown opcode, with a namespace
check or a data pointer check that fails, completes with the status, the last counted and reported as event 0x1011. -/
def Obligations.EntriesAreFetchedAndChecked : Prop :=
  (∀ (s : State) (f : Nat) (rest : List Nat) (q : SqRec), s.chip.fld F.PWR_DOM_STATE 31 = 0 →
    (s.chip.fetchRing = [] → exec .fetchTurn s = .next s) ∧
    (s.chip.fetchRing = f :: rest → pget (s.chip.fn f).sqs 0 = some q →
      (∀ p k, s.chip.tagPart f 0 = some p → plowest s.chip.intake.tags 65536 0 = some k → q.waiting = 1 → q.head < q.size →
        (s.chip.fn f).round = [] → Gives .fetchTurn s fun t =>
          t.chip.ctx k = some (ctxNew f 0 q.cqid p s.chip.now) ∧ (∀ j, j ≠ k → t.chip.ctx j = s.chip.ctx j) ∧
          t.chip.fn f = { s.chip.fn f with sqs := pset (s.chip.fn f).sqs 0 { q with head := (q.head + 1) % q.size } } ∧ FnsBut [f] s t ∧
          Sends [.dmaRead f (q.base + 64 * q.head) 64] s t ∧ t.chip.intake.nextFn = (f + 1) % 1024 ∧ Only [.intake, .fns, .out] s t) ∧
      (s.chip.tagPart f 0 = none → q.waiting ≠ 0 → Gives .fetchTurn s fun t =>
        t.chip.fld F.INTAKE_TAGSTAT_STARVE = satAdd 16 (s.chip.fld F.INTAKE_TAGSTAT_STARVE) 1 ∧ Posts srcIntake 0x1010 [f] s t ∧
        t.chip.intake = { s.chip.intake with nextFn := (f + 1) % 1024 } ∧ RegsBut [(.intakeTagstat, 0), (.evrecStat, 0)] s t ∧
        Only [.intake, .regs, .ev] s t))) ∧
  (∀ (s : State) (tag : Nat) (x : Ctx) (e : Sqe) (p : DataPtr), e.length = 16 →
    s.chip.ctx tag = some x → x.st = .check → x.sqe = [] → x.sent = false →
    (x.sqid ≠ 0 → opIo.contains (sqeOpc e) = false → Gives (.submissionEntryFetched tag e p) s fun t =>
      Completes tag .invalidOpcode 0 s t ∧ Only [.intake] s t) ∧
    ((x.sqid ≠ 0 → opIo.contains (sqeOpc e) = true ∧ s.chip.tenantOk x.fn (sqeNsid e) = true) →
      (∀ st, x.sqid ≠ 0 → s.chip.nsCheck x.fn e = some st → Gives (.submissionEntryFetched tag e p) s fun t =>
        Completes tag st 0 s t ∧ Only [.intake] s t) ∧
      ((x.sqid ≠ 0 → s.chip.nsCheck x.fn e = none) →
        (s.chip.pointerCheck x.fn x.sqid e p = none → Gives (.submissionEntryFetched tag e p) s fun t =>
          t.chip.ctx tag = some { x with
            sqe := e, dlen := (s.chip.declared x.sqid e).1, mlen := (s.chip.declared x.sqid e).2,
            xlat := xlatOf (s.chip.fn x.fn).pageSize (s.chip.declared x.sqid e).1 p } ∧
          (∀ j, j ≠ tag → t.chip.ctx j = s.chip.ctx j) ∧ t.chip.intake.postQ = s.chip.intake.postQ ∧ Only [.intake] s t) ∧
        (∀ st, s.chip.pointerCheck x.fn x.sqid e p = some st → Gives (.submissionEntryFetched tag e p) s fun t =>
          Completes tag st 0 s t ∧ Posts srcIntake 0x1011 [x.fn, sqeCid e, statusCode st] s t ∧
          RegsBut [(.intakeErrcnt, 0), (.evrecStat, 0)] s t ∧ Only [.intake, .regs, .ev] s t))))

/-- The queue numbers of a function follow its assignment (R79; zero-based counts in dword 0 of the completion: log 6): a Create of either kind whose queue
identifier exceeds IOQP completes with Invalid Queue Identifier and creates nothing; Set Features Number of Queues reports IOQP for both counts, whatever the host
asked for. The identifier 0 is refused in the same way. -/
def Obligations.QueueNumbersFollowTheAssignment : Prop :=
  ∀ (s : State) (tag : Nat) (x : Ctx) (r : FnRec) (qid : Nat), s.chip.starts tag x → r = s.chip.fn x.fn → qid = bitsOf (x.dw 10) 15 0 →
    (qid = 0 ∨ r.asg.iopq < qid →
      (Gives (.createIoSubmissionQueue tag) s fun t => Completes tag .invalidQueueId 0 s t ∧ Only [.intake] s t) ∧
      (Gives (.createIoCompletionQueue tag) s fun t => Completes tag .invalidQueueId 0 s t ∧ Only [.intake] s t)) ∧
    (∀ data, bitsOf (x.dw 10) 7 0 = 7 → Gives (.setFeatures tag data) s fun t =>
      Completes tag .success ((r.asg.iopq - 1) + (r.asg.iopq - 1) * 65536) s t ∧ Only [.intake] s t)

/-- CREATE_IO_SUBMISSION_QUEUE and CREATE_IO_COMPLETION_QUEUE (R78): a queue with a number in the assignment, of two entries at least, is created empty where the entry
says. SET_FEATURES, IDENTIFY, ASYNCHRONOUS_EVENT_REQUEST, GET_LBA_STATUS and FLUSH (R67, R105, R111, R155): what they return, what they hold, and the status
they complete with; no block beyond intake and the function changes. -/
def Obligations.QueuesAndAdminReports : Prop :=
  (∀ (s : State) (tag : Nat) (x : Ctx) (r : FnRec) (qid size cqid iv : Nat), s.chip.starts tag x → r = s.chip.fn x.fn →
    qid = bitsOf (x.dw 10) 15 0 → size = bitsOf (x.dw 10) 31 16 + 1 → cqid = bitsOf (x.dw 11) 31 16 → iv = bitsOf (x.dw 11) 31 16 →
    (qid ≠ 0 → qid ≤ r.asg.iopq → pget r.sqs qid = none → 2 ≤ size → cqid ≠ 0 → (pget r.cqs cqid).isSome = true →
      Gives (.createIoSubmissionQueue tag) s fun t =>
        Completes tag .success 0 s t ∧ FnsBut [x.fn] s t ∧
        t.chip.fn x.fn = { r with sqs := pset r.sqs qid ⟨sqeDw x.sqe 6 + sqeDw x.sqe 7 * 2 ^ 32, size, 0, 0, cqid, bitsOf (x.dw 11) 2 1⟩ } ∧ Only [.intake, .fns] s t) ∧
    (qid ≠ 0 → qid ≤ r.asg.iopq → pget r.cqs qid = none → 2 ≤ size → iv < r.asg.vec → Gives (.createIoCompletionQueue tag) s fun t =>
      Completes tag .success 0 s t ∧ FnsBut [x.fn] s t ∧
      t.chip.fn x.fn = { r with cqs := pset r.cqs qid ⟨sqeDw x.sqe 6 + sqeDw x.sqe 7 * 2 ^ 32, size, 0, 0, true, bitOf (x.dw 11) 1, iv, [], false⟩ } ∧ Only [.intake, .fns] s t)) ∧
  (∀ (s : State) (tag : Nat) (x : Ctx) (r : FnRec), s.chip.starts tag x → r = s.chip.fn x.fn →
    (∀ data, bitsOf (x.dw 10) 7 0 = 8 → Gives (.setFeatures tag data) s fun t =>
      Completes tag .success 0 s t ∧ t.chip.fn x.fn = { r with feats := pset r.feats 8 (x.dw 11) } ∧ FnsBut [x.fn] s t ∧ Only [.intake, .fns] s t) ∧
    (∀ data, bitsOf (x.dw 10) 7 0 = 9 → bitsOf (x.dw 11) 15 0 < r.asg.vec → Gives (.setFeatures tag data) s fun t =>
      Completes tag .success 0 s t ∧ (bitsOf (x.dw 11) 15 0 ∈ (t.chip.fn x.fn).coalDis ↔ bitOf (x.dw 11) 16 = true) ∧
      FnsBut [x.fn] s t ∧ Only [.intake, .fns] s t) ∧
    (∀ data, bitsOf (x.dw 10) 7 0 = 0x1D → (s.chip.z.nss.any fun n => !n.2.zoned) = true → Gives (.setFeatures tag data) s fun t =>
      Completes tag .commandSequenceError 0 s t ∧ Only [.intake] s t) ∧
    (bitsOf (x.dw 10) 7 0 = 1 → Gives (.identify tag) s fun t =>
      Sends [.hostValues tag [x.fn, 9, 9, 63, 3, 0, 0, 2, 1024]] s t ∧ Completes tag .success 0 s t ∧ Only [.intake, .out] s t) ∧
    (r.pendEv = [] → r.aers.length < 8 → Gives (.asynchronousEventRequest tag) s fun t =>
      t.chip.ctx tag = some { x with st := .firmware, kind := .admin } ∧ t.chip.fn x.fn = { r with aers := r.aers ++ [tag] } ∧
      t.chip.intake.postQ = s.chip.intake.postQ ∧ FnsBut [x.fn] s t ∧ Only [.intake, .fns] s t) ∧
    (∀ e rest, r.pendEv = e :: rest → Gives (.asynchronousEventRequest tag) s fun t =>
      Completes tag .success (asyncCode e) s t ∧ t.chip.fn x.fn = { r with pendEv := rest } ∧ FnsBut [x.fn] s t ∧ Only [.intake, .fns] s t) ∧
    (∀ n rs, s.chip.ns x.nsid = some n → rs = (s.chip.lostRanges n x.nsid).filter (fun l => decide (l.1 + l.2 > sqeSlba x.sqe)) →
      Gives (.getLbaStatus tag) s fun t =>
        Sends [.hostValues tag (rs.length :: rs.flatMap fun l => [l.1, l.2])] s t ∧ Completes tag .success 0 s t ∧ Only [.intake, .out] s t) ∧
    (Gives (.flush tag) s fun t => Completes tag .success 0 s t ∧ Only [.intake] s t))

/-- HOST_DATA_FETCHED for a write of a format of 4 KiB blocks without metadata (R99, R101): the data waits for the claims, or, claims granted and the retry region with
room, is complete and the wait for energy begins. ENERGY_ADMISSION_TIMEOUT (R101): a write with no energy after ADMIT_MS that holds neither positions nor a request
at the ledger completes with the status of R120 and no claim; event 0x1016 says how long it waited. LEDGER_ADMIT_OPERATION and LEDGER_ADMIT_COMMITMENT with nothing
waiting (R187 to R190): a request that fits is admitted and holds its charge or its reservation; one that does not waits at the ledger, counted. -/
def Obligations.EnergyIsAdmitted : Prop :=
  ((∀ (s : State) (tag : Nat) (x : Ctx) (n : NsRec) (us : List (List Byte)), s.chip.ctx tag = some x → x.kind = .write →
    x.sent = false → x.dataIn = false → x.committed = false → x.admitted = false → x.mergeWait = [] →
    s.chip.ns x.nsid = some n → n.fmt = 0 → us ≠ [] →
    (x.seq = none → Gives (.hostDataFetched tag us) s fun t =>
      t.chip.ctx tag = some { x with host := us.zipIdx.map fun u => (u.2, trimZeros u.1) } ∧ Only [.intake] s t) ∧
    (x.seq.isSome = true → s.chip.retryBytes + x.dlen ≤ s.chip.retrySize → Gives (.hostDataFetched tag us) s fun t =>
      ∃ y, t.chip.ctx tag = some y ∧ y.dataIn = true ∧ y.st = .admission ∧ y.admitAt = some s.chip.now ∧
        (∀ j, j < sqeNlb x.sqe → pget y.units j = some (trimZeros (us.getD j []))) ∧ Only [.intake, .z] s t)) ∧
  (∀ (s : State) (tag t0 : Nat) (x : Ctx), s.chip.ctx tag = some x → x.admitAt = some t0 → x.committed = false → x.admitted = false →
    x.sent = false → x.placed = false → x.commit = none → Gives (.energyAdmissionTimeout tag) s fun t =>
      Completes tag .energyTimeout 0 s t ∧ (∀ k, ∀ m ∈ (t.chip.slice k).claims, m.tag ≠ tag) ∧
      t.chip.now = max s.chip.now (t0 + ms (s.chip.clampFld F.INTAKE_TMO_ADMIT_MS 10 10000)) ∧
      Posts srcIntake 0x1016 [x.fn, x.cid, (t.chip.now - t0) / 1000000] s t ∧
      RegsBut [(.evrecStat, 0)] s t ∧ Only [.regs, .ev, .intake, .slices, .z, .m, .fns, .now] s t)) ∧
  (∀ s : State, s.chip.z.ledger.opQ = [] → s.chip.z.ledger.commitQ = [] →
    (∀ i o, s.chip.op i = some o → o.stage = .created → o.rt.charged = true →
      (s.chip.opFits ⟨i, 0, s.chip.charge o, 0⟩ = true → Gives (.ledgerAdmitOperation i) s fun t =>
        t.chip.op i = some { o with stage := .admitted, charge := s.chip.charge o } ∧ (∀ j, j ≠ i → t.chip.op j = s.chip.op j) ∧
        pget t.chip.z.ledger.charges i = some (s.chip.charge o) ∧ t.chip.z.ledger.opQ = [] ∧ Only [.z, .m] s t) ∧
      (s.chip.opFits ⟨i, 0, s.chip.charge o, 0⟩ = false → Gives (.ledgerAdmitOperation i) s fun t =>
        t.chip.op i = some { o with stage := .ledger } ∧ t.chip.z.ledger.opQ = [⟨i, 0, s.chip.charge o, 0⟩] ∧
        t.chip.z.ledger.charges = s.chip.z.ledger.charges ∧
        t.chip.fld F.LEDGER_WAIT_OP_WAITS = satAdd 32 (s.chip.fld F.LEDGER_WAIT_OP_WAITS) 1 ∧
        RegsBut [(.ledgerWait, 0)] s t ∧ Only [.z, .m, .regs] s t)) ∧
    (∀ tag x n r, s.chip.ctx tag = some x → s.chip.ns x.nsid = some n → x.kind.commits = true → x.commit = none → x.committed = false →
      x.sent = false → x.seq = none → r = ⟨s.chip.z.nextCommit, tag, s.chip.reserveUj (x.energyLen n), x.energyLen n⟩ →
      (s.chip.commitFits r = true → Gives (.ledgerAdmitCommitment tag) s fun t =>
        t.chip.ctx tag = some { x with commit := some s.chip.z.nextCommit, admitted := true } ∧ pget t.chip.z.ledger.resv s.chip.z.nextCommit = some r ∧
        t.chip.z.ledger.commitQ = [] ∧ t.chip.z.nextCommit = s.chip.z.nextCommit + 1 ∧ Only [.z, .intake] s t) ∧
      (s.chip.commitFits r = false → Gives (.ledgerAdmitCommitment tag) s fun t =>
        t.chip.ctx tag = some { x with commit := some s.chip.z.nextCommit } ∧ t.chip.z.ledger.commitQ = [r] ∧
        t.chip.z.ledger.resv = s.chip.z.ledger.resv ∧
        t.chip.fld F.LEDGER_WAIT_COMMIT_WAITS = satAdd 32 (s.chip.fld F.LEDGER_WAIT_COMMIT_WAITS) 1 ∧
        RegsBut [(.ledgerWait, 0)] s t ∧ Only [.z, .intake, .regs] s t)))

/-- POST_COMPLETION of a command whose function takes completions, no power-fail sequence under way (R86, R97, R103, R104): with room in its queue, whose interrupt is
off, the entry is written at the queue's tail, and the command has no tag and no claim; with the queue full it is held and event 0x1015 reports the stall.
COALESCING_TIMER_EXPIRY (R105): entries not yet signalled on an unmasked vector are signalled. ABORT and ABORT_DECISION (R106 to R109): with fewer than 64 Aborts
outstanding an abort event follows what waits at the post stage; decided for a command past its commit point or with none, the Abort completes with result 1; for
one before it, with room for its completion, the command is posted with Command Abort Requested and the Abort completes with result 0. Event 0x1012 records either. -/
def Obligations.CompletionsAndAborts : Prop :=
  ((∀ (s : State) (tag dw0 : Nat) (st : Status) (x : Ctx) (q : CqRec), s.chip.ctx tag = some x → s.chip.firstEvent tag = some (.done tag st dw0) →
    s.chip.z.ledger.pfCommit = false → s.chip.trailOf tag = none → (s.chip.fn x.fn).drops = false → (s.chip.fn x.fn).d3hot = false →
    pget (s.chip.fn x.fn).cqs x.cqid = some q → q.held = [] →
    (q.full = false → q.ien = false → x.deadline = none → Gives (.postCompletion tag) s fun t =>
      Sends [.cqe x.fn x.cqid q.tail ⟨dw0, s.chip.genFor x.fn x.sqid, ((pget (s.chip.fn x.fn).sqs x.sqid).map SqRec.head).getD 0, x.sqid, x.cid, q.phase, st⟩] s t ∧
      t.chip.fn x.fn = { s.chip.fn x.fn with cqs := pset (s.chip.fn x.fn).cqs x.cqid { q with
        tail := (q.tail + 1) % q.size, phase := if (q.tail + 1) % q.size = 0 then !q.phase else q.phase } } ∧ FnsBut [x.fn] s t ∧
      t.chip.ctx tag = none ∧ (∀ k, ∀ m ∈ (t.chip.slice k).claims, m.tag ≠ tag) ∧ Only [.intake, .fns, .out, .slices, .m, .xts] s t) ∧
    (q.full = true → q.stalled = false → Gives (.postCompletion tag) s fun t =>
      t.chip.fn x.fn = { s.chip.fn x.fn with cqs := pset (s.chip.fn x.fn).cqs x.cqid { q with
        held := [⟨tag, x.sqid, x.cqid, x.cid, st, dw0, s.chip.genFor x.fn x.sqid⟩], stalled := true } } ∧ FnsBut [x.fn] s t ∧
      Posts srcIntake 0x1015 [x.fn, x.cqid] s t ∧ t.chip.ctx tag = some x ∧ Sends [] s t ∧ RegsBut [(.evrecStat, 0)] s t ∧
      Only [.intake, .fns, .regs, .ev] s t)) ∧
  (∀ (s : State) (fn vec : Nat), (s.chip.fn fn).silent = false → ((pget (s.chip.fn fn).msix vec).map MsixEntry.mask).getD false = false →
    (0 < mget 0 (s.chip.fn fn).coal vec → Gives (.coalescingTimerExpiry fn vec) s fun t =>
      Sends [.msix fn vec] s t ∧ mget 0 (t.chip.fn fn).coal vec = 0 ∧ (∀ v, v ≠ vec → mget 0 (t.chip.fn fn).coal v = mget 0 (s.chip.fn fn).coal v) ∧
      FnsBut [fn] s t ∧ Only [.fns, .out] s t) ∧
    (mget 0 (s.chip.fn fn).coal vec = 0 → exec (.coalescingTimerExpiry fn vec) s = .next s))) ∧
  (∀ (s : State) (tag : Nat) (x : Ctx), keysRise s.chip.intake.tags = true →
    (s.chip.starts tag x → 64 ≤ s.chip.abortsOut x.fn → Gives (.abort tag) s fun t => Completes tag .abortLimit 0 s t ∧ Only [.intake] s t) ∧
    (s.chip.starts tag x → s.chip.abortsOut x.fn < 64 → Gives (.abort tag) s fun t =>
      ∃ target, t.chip.intake.postQ = s.chip.intake.postQ ++ [.abort target (some tag) (bitsOf (x.dw 10) 31 16) x.fn] ∧
        (∀ k, target = some k → ∃ y z, s.chip.ctx k = some y ∧ y.fn = x.fn ∧ y.sqid = bitsOf (x.dw 10) 15 0 ∧ t.chip.ctx k = some z ∧ z.abortReq = true) ∧
        Only [.intake] s t) ∧
    (∀ target cid fn rest, s.chip.ctx tag = some x → x.sent = false → s.chip.z.ledger.pfCommit = false →
      s.chip.intake.postQ = .abort target (some tag) cid fn :: rest →
      (target = none ∨ (∃ k y, target = some k ∧ s.chip.ctx k = some y ∧ y.committed = true) → Gives (.abortDecision tag) s fun t =>
        t.chip.intake.postQ = rest ++ [.done tag .success 1] ∧ (∃ y, t.chip.ctx tag = some y ∧ y.sent = true ∧ y.status = .success ∧ y.dw0 = 1) ∧
        t.chip.fld F.INTAKE_ABORTCNT_NOT_ABORTED = satAdd 16 (s.chip.fld F.INTAKE_ABORTCNT_NOT_ABORTED) 1 ∧
        Posts srcIntake 0x1012 [fn, cid, 1] s t ∧ RegsBut [(.intakeAbortcnt, 0), (.evrecStat, 0)] s t ∧ Only [.intake, .regs, .ev] s t) ∧
      (∀ k y q, target = some k → k ≠ tag → s.chip.ctx k = some y → y.committed = false → y.st ≠ .firmware → y.sent = false →
        y.placed = false → y.commit = none → (s.chip.fn y.fn).drops = false → (s.chip.fn y.fn).d3hot = false → y.deadline = none →
        pget (s.chip.fn y.fn).cqs y.cqid = some q → q.held = [] → q.full = false → q.ien = false → Gives (.abortDecision tag) s fun t =>
          Sends [.cqe y.fn y.cqid q.tail ⟨0, s.chip.genFor y.fn y.sqid, ((pget (s.chip.fn y.fn).sqs y.sqid).map SqRec.head).getD 0, y.sqid, y.cid, q.phase,
            .abortRequested⟩] s t ∧ t.chip.ctx k = none ∧
          (∃ y, t.chip.ctx tag = some y ∧ y.sent = true ∧ y.status = .success ∧ y.dw0 = 0) ∧ Posts srcIntake 0x1012 [fn, cid, 0] s t)))

/-! Enabling, resetting and shutting down functions -/

/-- CONTROLLER_ENABLE (R51, R83): CC is stored with EN set, CSTS.RDY rises and the admin queues stand, empty, where AQA, ASQ and ACQ say. A function in a
migration or fenced only stores CC (R75, R423); during a reset, or enabled already, the write does nothing. Shutdowns (R115): NORMAL_SHUTDOWN and
ABRUPT_SHUTDOWN of an enabled function stop fetch and show SHST 01; with the work drained and every segment checkpointed SHST is 10. -/
def Obligations.ControllersEnableAndShutDown : Prop :=
  (∀ (s : State) (fn cc : Nat) (r : FnRec), r = s.chip.fn fn → s.chip.fnExists fn = true → bitOf cc 0 = true →
    (r.resetAt.isSome = true ∨ r.en = true → exec (.controllerEnable fn cc) s = .next s) ∧
    (r.resetAt = none → r.en = false →
      (r.fence.isSome = true ∨ r.mstate ≠ .active → Gives (.controllerEnable fn cc) s fun t =>
        t.chip.fn fn = { r with cc := cc } ∧ FnsBut [fn] s t ∧ Only [.fns] s t) ∧
      (r.fence = none → r.mstate = .active → Gives (.controllerEnable fn cc) s fun t =>
        t.chip.fn fn = { r with
          cc := cc, rdy := true, sqs := pset r.sqs 0 ⟨r.asq, bitsOf r.aqa 11 0 + 1, 0, 0, 0, 0⟩,
          cqs := pset r.cqs 0 ⟨r.acq, bitsOf r.aqa 27 16 + 1, 0, 0, true, true, 0, [], false⟩ } ∧ FnsBut [fn] s t ∧ Only [.fns] s t))) ∧
  (∀ (s : State) (fn : Nat),
    (s.chip.fnExists fn = true → (s.chip.fn fn).en = true → Gives (.normalShutdown fn) s fun t =>
      t.chip.fn fn = { s.chip.fn fn with cc := putBits (s.chip.fn fn).cc 15 14 1, shst := 1, shutdown := true } ∧ t.chip.fetchable fn = false ∧
      FnsBut [fn] s t ∧ Only [.fns] s t) ∧
    (s.chip.fnExists fn = true → (s.chip.fn fn).en = true → s.chip.quiet fn → Gives (.abruptShutdown fn) s fun t =>
      t.chip.fn fn = { s.chip.fn fn with cc := putBits (s.chip.fn fn).cc 15 14 2, shst := 1, shutdown := true, abrupt := true } ∧
      t.chip.fetchable fn = false ∧ FnsBut [fn] s t ∧ Only [.fns] s t) ∧
    ((s.chip.fn fn).shst = 1 → s.chip.drained fn = true → s.chip.z.passSegs = [] → (s.chip.z.segs.any fun e => e.2.changed) = false →
      Gives (.shutdownCheckpointDone fn) s fun t =>
        t.chip.fn fn = { s.chip.fn fn with shst := 2 } ∧ FnsBut [fn] s t ∧ Only [.fns] s t))

/-- The resets of a function with no command in flight (R112, R114): CONTROLLER_RESET and FUNCTION_LEVEL_RESET begin one; RESET_DRAIN_COMPLETE ends it once
no tag is in use: queues, features and status are at reset, and what outlives a reset stays. RESET_DRAIN_TIMEOUT (R113): committed commands that still
hold tags RESET_MS after the reset began leave the function fenced with cause 0x2, RDY cleared, and event 0x1013 names how many. -/
def Obligations.FunctionResets : Prop :=
  (∀ (s : State) (fn : Nat), s.chip.fnExists fn = true → s.chip.quiet fn →
    ((s.chip.fn fn).en = true → Gives (.controllerReset fn) s fun t =>
      (t.chip.fn fn).en = false ∧ (t.chip.fn fn).resetAt = some s.chip.now ∧ (t.chip.fn fn).pendEv = [] ∧ FnsBut [fn] s t ∧ Only [.fns] s t) ∧
    (isPf fn = false → Gives (.functionLevelReset fn) s fun t =>
      (t.chip.fn fn).en = false ∧ (t.chip.fn fn).resetAt = some s.chip.now ∧ (t.chip.fn fn).d3hot = false ∧ (t.chip.fn fn).pasidCap = false ∧
      FnsBut [fn] s t ∧ Only [.fns] s t) ∧
    (isPf fn = true → (∀ g ∈ s.chip.portFns (portOf fn), s.chip.quiet g) → Gives (.functionLevelReset fn) s fun t =>
      (t.chip.fn fn).vfe = false ∧ (∀ g ∈ s.chip.portFns (portOf fn), (t.chip.fn g).resetAt = some s.chip.now ∧ (t.chip.fn g).en = false) ∧
      FnsBut (s.chip.portFns (portOf fn)) s t ∧ Only [.fns] s t) ∧
    ((s.chip.fn fn).resetAt.isSome = true → (s.chip.fn fn).fence = none → Gives (.resetDrainComplete fn) s fun t =>
      t.chip.fn fn = (s.chip.fn fn).afterReset fn ∧ (t.chip.fn fn).rdy = false ∧ (t.chip.fn fn).sqs = [] ∧ (t.chip.fn fn).cqs = [] ∧ FnsBut [fn] s t ∧
      (isPf fn = false → Only [.fns] s t) ∧
      (isPf fn = true → RegsBut [(.bar2AsgCmd, portOf fn), (.bar2AsgStat, portOf fn), (.bar2MbxDb, portOf fn)] s t ∧
        t.chip.reg .bar2MbxDb (portOf fn) = 0 ∧ Only [.fns, .regs] s t))) ∧
  (∀ (s : State) (fn t0 : Nat), fn < 1024 → (s.chip.fn fn).resetAt = some t0 → (s.chip.fn fn).fence = none → s.chip.inUse fn ≠ 0 →
    (∀ e ∈ s.chip.intake.tags, e.2.fn = fn → e.2.committed = true) → Gives (.resetDrainTimeout fn) s fun t =>
      t.chip.fn fn = { s.chip.fn fn with resetAt := none, rdy := false, fence := some 2, aers := [] } ∧ FnsBut [fn] s t ∧
      t.chip.now = max s.chip.now (t0 + ms (s.chip.clampFld F.INTAKE_TMO_RESET_MS 100 10000)) ∧
      Posts (srcHp (portOf fn)) 0x1006 [fn, 2] s t ∧ Posts srcIntake 0x1013 [fn, s.chip.inUse fn] s t ∧ Sends [.aer fn true false] s t ∧
      RegsBut [(.tenantCnt, 0), (.evrecStat, 0)] s t ∧ Only [.fns, .regs, .ev, .out, .now] s t)

/-- The pause for a firmware activation (R116, R117): DRAIN_REQUEST stops fetch on every function from now; the drain is complete once no tag but those of firmware is in
use; past its limit it has expired; FETCH_RESUME clears the three bits, keeps the length of the pause and records it. FIRMWARE_ACTIVATION (R545), nothing put down for
memory: nothing is activated before the drain; afterwards every core runs from the activation entry of the slot's image, or of the running one where the slot's
fails its checks. SVN_BURN (R546): the fuse rises to at most the SVN of the running image. -/
def Obligations.FirmwareActivations : Prop :=
  (∀ s : State,
    (s.chip.flag F.INTAKE_FWACT_DRAIN_REQ = false → Gives .drainRequest s fun t =>
      t.chip.flag F.INTAKE_FWACT_DRAIN_REQ = true ∧ t.chip.flag F.INTAKE_FWACT_DRAINED = false ∧
      t.chip.intake = { s.chip.intake with drainAt := some s.chip.now } ∧ (∀ f, t.chip.fetchable f = false) ∧
      RegsBut [(.intakeFwact, 0)] s t ∧ Only [.intake, .regs] s t) ∧
    (s.chip.flag F.INTAKE_FWACT_DRAIN_REQ = true → exec .drainRequest s = .next s) ∧
    (s.chip.flag F.INTAKE_FWACT_DRAIN_REQ = true → s.chip.flag F.INTAKE_FWACT_EXPIRED = false →
      (∀ e ∈ s.chip.intake.tags, e.2.st = .firmware) → Gives .firmwareDrainComplete s fun t =>
        t.chip.flag F.INTAKE_FWACT_DRAINED = true ∧ t.chip.flag F.INTAKE_FWACT_DRAIN_REQ = true ∧ RegsBut [(.intakeFwact, 0)] s t ∧ Only [.regs] s t) ∧
    ((∃ e ∈ s.chip.intake.tags, e.2.st ≠ .firmware) → exec .firmwareDrainComplete s = .next s) ∧
    (∀ t0, s.chip.intake.drainAt = some t0 → s.chip.flag F.INTAKE_FWACT_DRAIN_REQ = true → s.chip.flag F.INTAKE_FWACT_DRAINED = false →
      Gives .drainLimitExpiry s fun t =>
        t.chip.flag F.INTAKE_FWACT_EXPIRED = true ∧ t.chip.now = max s.chip.now (t0 + ms s.chip.drainLimit) ∧
        RegsBut [(.intakeFwact, 0)] s t ∧ Only [.regs, .now] s t) ∧
    (∀ t0, s.chip.intake.drainAt = some t0 → s.chip.sys.commit = none → Gives .fetchResume s fun t =>
      t.chip.flag F.INTAKE_FWACT_DRAIN_REQ = false ∧ t.chip.flag F.INTAKE_FWACT_EXPIRED = false ∧ t.chip.flag F.INTAKE_FWACT_DRAINED = false ∧
      t.chip.fld F.INTAKE_FWACT_LAST_PAUSE_US = min ((s.chip.now - t0) / 1000) (2 ^ 32 - 1) ∧ t.chip.intake = { s.chip.intake with drainAt := none } ∧
      Posts srcIntake 0x1014 [(s.chip.now - t0) / 1000, s.chip.fld F.INTAKE_FWACT_EXPIRED] s t ∧
      RegsBut [(.intakeFwact, 0), (.evrecStat, 0)] s t ∧ Only [.regs, .ev, .intake] s t)) ∧
  ((∀ (s : State) (slot stage dur base : Nat), slot < 4 → stage < 2 ^ 48 → base = stage / 4096 * 4096 →
    (s.chip.flag F.INTAKE_FWACT_DRAINED = false ∨ s.chip.sys.running = none → exec (.firmwareActivation slot stage dur) s = .next s) ∧
    (∀ r, s.chip.flag F.INTAKE_FWACT_DRAINED = true → s.chip.sys.running = some r → s.chip.wr = [] →
      (s.chip.imageFails (s.chip.slotBytes slot) ≠ none → Gives (.firmwareActivation slot stage dur) s fun t =>
        t.chip.fld F.SYS_FWACT_RESULT = 2 ∧ t.chip.fld F.SYS_FWACT_SLOT = slot ∧ t.chip.sys.running = some r ∧ CoresRun r.act s t ∧
        t.chip.sys.romMapped = false ∧ t.chip.sys.flash = s.chip.sys.flash ∧ MemBut base 0x400000 s t ∧
        RegsBut [(.sysFwact, 0), (.evrecStat, 0)] s t ∧ OnlyMem [.regs, .sys, .pwr, .ev, .out] s t) ∧
      (∀ n, n = runningOf slot (s.chip.slotBytes slot) → s.chip.imageFails (s.chip.slotBytes slot) = none →
        Gives (.firmwareActivation slot stage dur) s fun t =>
          t.chip.fld F.SYS_FWACT_RESULT = 1 ∧ t.chip.fld F.SYS_FWACT_SLOT = slot ∧ t.chip.fld F.SYS_BOOT_SLOT = slot ∧ t.chip.sys.running = some n ∧
          CoresRun n.act s t ∧ t.chip.sys.romMapped = false ∧ t.chip.sys.flash = s.chip.sys.flash ∧ Posts srcSys 0x9004 [slot, 1, dur] s t ∧
          (∀ a, ¬ (base ≤ a ∧ a < base + 0x400000) → ¬ (0xE100000000 ≤ a ∧ a < 0xE102000000) → readByte t a = readByte s a) ∧
          RegsBut [(.sysFwact, 0), (.sysBoot, 0), (.evrecStat, 0)] s t ∧ OnlyMem [.regs, .sys, .pwr, .ev, .out] s t))) ∧
  (∀ (s : State) (v : Nat), v < 256 →
    ((∀ r, s.chip.sys.running = some r → r.svn < v) ∨ s.chip.sys.running = none ∨ v ≤ s.chip.fuses.svn → Gives (.svnBurn v) s fun t =>
      t.chip.fld F.SYS_SVN_VALUE = v ∧ RegsBut [(.sysSvn, 0)] s t ∧ Only [.regs] s t) ∧
    (∀ r, s.chip.sys.running = some r → v ≤ r.svn → s.chip.fuses.svn < v → Gives (.svnBurn v) s fun t =>
      t.chip.fuses = { s.chip.fuses with svn := v } ∧ t.chip.fld F.SYS_SVN_VALUE = v ∧ Posts srcSys 0x9016 [s.chip.fuses.svn, v] s t ∧
      RegsBut [(.sysSvn, 0), (.evrecStat, 0)] s t ∧ Only [.regs, .fuses, .ev] s t)))

/-! Namespaces, claims, zones -/

/-- CONF_SEQ_LOCK with no command in flight, before replay (R122): the lock is set, and the value given first stands in CONF_SEQ; once it is set the
command does nothing. CLAIM_GRANTED for a command that has claimed all its slices (R23, R94): a claim that waits for no earlier one is granted; with the last, a
write takes the next sequence number and waits for its data. A claim that still waits stays as it is. -/
def Obligations.SequenceLockAndClaims : Prop :=
  (∀ (s : State) (next : Option Nat),
    (s.chip.flag F.CONF_CTL_SEQ_LOCK = true → exec (.confSeqLock next) s = .next s) ∧
    (s.chip.flag F.CONF_CTL_SEQ_LOCK = false → s.chip.intake.tags = [] → s.chip.sys.replayed = none → Gives (.confSeqLock next) s fun t =>
      t.chip.flag F.CONF_CTL_SEQ_LOCK = true ∧
      t.chip.fld F.CONF_SEQ_NEXT = (next.map (· % 2 ^ 64)).getD (s.chip.fld F.CONF_SEQ_NEXT) ∧
      RegsBut [(.confCtl, 0), (.confSeq, 0)] s t ∧ Only [.regs] s t)) ∧
  (∀ (s : State) (sl tag : Nat) (x : Ctx) (k : Claim), s.chip.ctx tag = some x → x.slices ≠ [] → x.st = .claim → x.seq = none →
    s.chip.allClaimed tag = true → s.chip.claimOf sl tag = some k → k.granted = false → x.kind = .write →
    (s.chip.blockers sl tag = [] →
      (x.granted.length + 1 < x.slices.length → Gives (.claimGranted sl tag) s fun t =>
        t.chip.claimOf sl tag = some { k with granted := true } ∧ t.chip.ctx tag = some { x with granted := x.granted ++ [sl] } ∧
        (∀ j, j ≠ sl → t.chip.slice j = s.chip.slice j) ∧ Only [.intake, .slices] s t) ∧
      (x.granted.length + 1 = x.slices.length → s.chip.flag F.CONF_CTL_SEQ_LOCK = true → x.host = [] → x.dataIn = false →
        (s.chip.ns x.nsid).isSome = true → Gives (.claimGranted sl tag) s fun t =>
          t.chip.ctx tag = some { x with granted := x.granted ++ [sl], seq := some (s.chip.fld F.CONF_SEQ_NEXT), st := .data } ∧
          t.chip.fld F.CONF_SEQ_NEXT = (s.chip.fld F.CONF_SEQ_NEXT + 1) % 2 ^ 64 ∧ RegsBut [(.confSeq, 0)] s t ∧
          Only [.intake, .slices, .regs] s t)) ∧
    (s.chip.blockers sl tag ≠ [] → x.granted.length < x.slices.length → exec (.claimGranted sl tag) s = .next s))

/-- NAMESPACE_CREATE, NAMESPACE_DELETE and FORMAT_NVM (R123 to R126, R154): the namespace of the lowest free number joins and its number is the result, or
the status of the check that fails and no namespace changes; a deleted conventional namespace is gone with its reservation and attachments; a
formatted one has its new format and every entry of it reads deallocated. -/
def Obligations.NamespaceManagement : Prop :=
  ∀ (s : State) (tag : Nat) (x : Ctx), s.chip.starts tag x →
    (∀ size fmt ext group handles st, s.chip.createNs (decide (bitsOf (x.dw 11) 31 24 = 2)) size fmt ext group handles = .error st →
      Gives (.namespaceCreate tag size fmt ext group handles) s fun t => Completes tag st 0 s t ∧ Only [.intake] s t) ∧
    (∀ size fmt ext group handles c i, s.chip.createNs (decide (bitsOf (x.dw 11) 31 24 = 2)) size fmt ext group handles = .ok (c, i) →
      Gives (.namespaceCreate tag size fmt ext group handles) s fun t =>
        Completes tag .success i s t ∧ s.chip.ns i = none ∧ 1 ≤ i ∧ (∀ j, 1 ≤ j → j < i → (s.chip.ns j).isSome = true) ∧
        (∃ n, t.chip.ns i = some n ∧ n.size = size ∧ n.fmt = fmt ∧ n.ext = ext ∧ n.group = group ∧ n.handles = handles) ∧
        (∀ j, j ≠ i → t.chip.ns j = s.chip.ns j) ∧ Only [.intake, .z] s t) ∧
    (∀ n, s.chip.ns x.nsid = some n → n.zoned = false → keysRise s.chip.fns = true → 1 ≤ x.nsid → x.nsid < 65536 →
      (∀ e ∈ s.chip.fns, e.2.mstate = .active ∧ e.2.aers = []) → Gives (.namespaceDelete tag) s fun t =>
        Completes tag .success 0 s t ∧ t.chip.ns x.nsid = none ∧ (∀ j, j ≠ x.nsid → t.chip.ns j = s.chip.ns j) ∧
        pget t.chip.z.resvs x.nsid = none ∧ (∀ f, x.nsid ∉ (t.chip.fn f).nsids) ∧ t.chip.reg .zmapNsz (x.nsid - 1) = 0 ∧
        RegsBut [(.zmapNsz, x.nsid - 1)] s t ∧ Only [.intake, .z, .fns, .regs] s t) ∧
    (s.chip.ns x.nsid = none → Gives (.namespaceDelete tag) s fun t => Completes tag .invalidNamespaceOrFormat 0 s t ∧ Only [.intake] s t) ∧
    (∀ n, s.chip.ns x.nsid = some n → n.zoned = false → bitsOf (x.dw 10) 3 0 ≤ 5 → Gives (.formatNvm tag) s fun t =>
      Completes tag .success 0 s t ∧
      t.chip.ns x.nsid = some { n with
        fmt := bitsOf (x.dw 10) 3 0, ext := bitOf (x.dw 10) 4, size := n.size * lbaBytes n.fmt / lbaBytes (bitsOf (x.dw 10) 3 0) } ∧
      (∀ j, j ≠ x.nsid → t.chip.ns j = s.chip.ns j) ∧
      (∀ i, t.chip.mapAt i = if n.base ≤ i ∧ i < n.base + (n.size + lbasPerUnit n.fmt - 1) / lbasPerUnit n.fmt then mapDealloc else s.chip.mapAt i) ∧
      Only [.intake, .z] s t)

/-- Commands on a conventional namespace that start alone, within it and not turned away (R23, R93, R99): a Write claims its blocks, takes a sequence number and
waits for its data; a Write Zeroes and a Deallocate claim theirs and wait for energy from now. Beyond the namespace a command completes with LBA Out of Range and
claims nothing. Reading commands on deallocated blocks that start alone (R98, R154): claims of kind R; a Read returns the unit of deallocated blocks for each
unit and completes, a Verify completes, a Compare waits for the host's data. -/
def Obligations.ConventionalReadsAndWrites : Prop :=
  (∀ (s : State) (tag : Nat) (x : Ctx) (n : NsRec), StartsAlone s.chip tag x n → n.zoned = false → s.chip.gate x n true = none →
    (x.inRange n = true → Gives (.write tag) s fun t =>
      Claimed tag .w n.fmt [x.range (lbasPerUnit n.fmt)] s t ∧ (∃ y, t.chip.ctx tag = some y ∧ y.kind = .write ∧ y.st = .data) ∧
      Only [.intake, .slices, .regs, .xts] s t) ∧
    (x.inRange n = true → Gives (.writeZeroes tag) s fun t =>
      Claimed tag .w n.fmt [x.range (lbasPerUnit n.fmt)] s t ∧
      (∃ y, t.chip.ctx tag = some y ∧ y.kind = .writeZeroes ∧ y.st = .admission ∧ y.admitAt = some s.chip.now) ∧
      Only [.intake, .slices, .regs, .xts] s t) ∧
    (∀ first count, 0 < count → first + count ≤ n.size → bitOf (x.dw 11) 2 = true → Gives (.datasetManagement tag [(first, count)]) s fun t =>
      Claimed tag .w n.fmt [⟨x.nsid, first, first + count - 1⟩] s t ∧
      (∃ y, t.chip.ctx tag = some y ∧ y.kind = .dealloc ∧ y.st = .admission ∧ y.admitAt = some s.chip.now) ∧
      Only [.intake, .slices, .regs, .xts] s t) ∧
    (∀ ranges, bitOf (x.dw 11) 2 = false → (∀ r ∈ ranges, r.1 + r.2 ≤ n.size) → Gives (.datasetManagement tag ranges) s fun t =>
      Completes tag .success 0 s t ∧ Only [.intake] s t) ∧
    (x.inRange n = false → ∀ i ∈ [Instr.write tag, .writeZeroes tag, .read tag, .compare tag, .verify tag], Gives i s fun t =>
      Completes tag .lbaOutOfRange 0 s t ∧ Only [.intake] s t) ∧
    (Gives (.zoneAppend tag) s fun t => Completes tag .invalidOpcode 0 s t ∧ Only [.intake] s t)) ∧
  (∀ (s : State) (tag m k0 : Nat) (x : Ctx) (n : NsRec), StartsAlone s.chip tag x n → n.zoned = false → s.chip.gate x n false = none → x.inRange n = true →
    k0 = firstUnit (lbasPerUnit n.fmt) (sqeSlba x.sqe) → m = unitCount (lbasPerUnit n.fmt) (sqeSlba x.sqe) (sqeNlb x.sqe) →
    (∀ j, j < m → s.chip.look x.nsid n (k0 + j) = .dealloc) →
    (Gives (.read tag) s fun t =>
      Claimed tag .r n.fmt [⟨x.nsid, sqeSlba x.sqe, sqeSlba x.sqe + sqeNlb x.sqe - 1⟩] s t ∧ Completes tag .success 0 s t ∧
      Sends (((List.range m).map fun j => .hostData tag j (deallocUnit n.fmt)).reverse) s t ∧ Only [.intake, .slices, .regs, .xts, .out] s t) ∧
    (Gives (.verify tag) s fun t =>
      Claimed tag .r n.fmt [⟨x.nsid, sqeSlba x.sqe, sqeSlba x.sqe + sqeNlb x.sqe - 1⟩] s t ∧ Completes tag .success 0 s t ∧ Sends [] s t ∧
      Only [.intake, .slices, .regs, .xts] s t) ∧
    (Gives (.compare tag) s fun t =>
      Claimed tag .r n.fmt [⟨x.nsid, sqeSlba x.sqe, sqeSlba x.sqe + sqeNlb x.sqe - 1⟩] s t ∧
      (∃ y, t.chip.ctx tag = some y ∧ y.kind = .compare ∧ y.st = .media ∧ y.waiting = [] ∧ y.sent = false) ∧
      Only [.intake, .slices, .regs, .xts] s t))

/-- Writes of a zoned namespace that start alone, in a zone that is open and has its pool's seal key (R132, R133): the checks of R132 passed, Write and Zone
Append take the positions at the write pointer, which moves on, and claim them; a Write elsewhere completes with Zone Invalid Write, holding nothing. -/
def Obligations.ZonedWritesTakePositions : Prop :=
  ∀ (s : State) (tag g first : Nat) (x : Ctx) (n : NsRec), StartsAlone s.chip tag x n → n.zoned = true → s.chip.gate x n true = none →
    g = n.zoneOf (sqeSlba x.sqe) → first = (g - n.zbase) * 0x80000 + (s.chip.zone g).wpOff → (s.chip.zone g).st.isOpen = true →
    s.chip.sealKeyOk x.nsid = true → (∀ b ∈ s.chip.z.bindQ, b.2.1 ≠ g) →
    (x.inRange n = true → s.chip.zoneCheck g (sqeSlba x.sqe % 0x80000) (sqeNlb x.sqe) false = none → Gives (.write tag) s fun t =>
      Claimed tag .w n.fmt [⟨x.nsid, first, first + sqeNlb x.sqe - 1⟩] s t ∧
      (∃ y, t.chip.ctx tag = some y ∧ y.kind = .write ∧ y.st = .data ∧ y.placed = true) ∧
      (t.chip.zone g).wpOff = (s.chip.zone g).wpOff + sqeNlb x.sqe ∧
      (t.chip.zone g).st = (if (s.chip.zone g).wpOff + sqeNlb x.sqe ≥ 0x60000 then .zsf else (s.chip.zone g).st) ∧
      (∀ h, h ≠ g → pget t.chip.z.zones h = pget s.chip.z.zones h) ∧ Only [.intake, .slices, .regs, .xts, .z] s t) ∧
    (sqeSlba x.sqe < n.size → sqeSlba x.sqe % 0x80000 = 0 → s.chip.zoneCheck g 0 (sqeNlb x.sqe) true = none → Gives (.zoneAppend tag) s fun t =>
      Claimed tag .w n.fmt [⟨x.nsid, first, first + sqeNlb x.sqe - 1⟩] s t ∧
      (∃ y, t.chip.ctx tag = some y ∧ y.kind = .append ∧ y.st = .data ∧ y.placed = true) ∧
      (t.chip.zone g).wpOff = (s.chip.zone g).wpOff + sqeNlb x.sqe ∧ (∀ h, h ≠ g → pget t.chip.z.zones h = pget s.chip.z.zones h) ∧
      Only [.intake, .slices, .regs, .xts, .z] s t) ∧
    (x.inRange n = true → sqeSlba x.sqe % 0x80000 ≠ (s.chip.zone g).wpOff → Gives (.write tag) s fun t =>
      Completes tag .zoneInvalidWrite 0 s t ∧ (t.chip.zone g) = (s.chip.zone g) ∧ (∀ k, t.chip.slice k = ⟨[], []⟩) ∧
      Only [.intake, .slices, .xts, .z, .m, .fns] s t)

/-- Zone Management Send on one zone, alone, with room in the open frame of the journal (R130, R140, R384): Close and Open change an implicitly open zone and
complete; Finish of an empty zone makes it full and stores the seal of nothing; Reset and Offline wait for their journal record. What else acts on zones (R129,
R142, R143, R160): the descriptor extension of an empty zone is stored and no other part of it; a report returns what the zones hold and changes none; MAR and
MOR within their limits are stored, others ignored with event 0x200B; an aged zone gets FZR. -/
def Obligations.ZoneActionsAndDescriptors : Prop :=
  (∀ (s : State) (tag g : Nat) (x : Ctx) (n : NsRec), StartsAlone s.chip tag x n → n.zoned = true → s.chip.gate x n true = none →
    sqeSlba x.sqe < n.size → bitOf (x.dw 13) 8 = false → g = n.zoneOf (sqeSlba x.sqe) → s.chip.z.journal.used + 64 ≤ 0x4000 →
    ((s.chip.zone g).st = .zsio → Gives (.zoneClose tag) s fun t =>
      Completes tag .success 0 s t ∧ t.chip.zone g = { s.chip.zone g with st := .zsc } ∧ (∀ h, h ≠ g → pget t.chip.z.zones h = pget s.chip.z.zones h) ∧
      Only [.intake, .slices, .regs, .xts, .z] s t) ∧
    ((s.chip.zone g).st = .zsio → Gives (.zoneOpen tag) s fun t =>
      Completes tag .success 0 s t ∧ t.chip.zone g = { s.chip.zone g with st := .zseo } ∧ (∀ h, h ≠ g → pget t.chip.z.zones h = pget s.chip.z.zones h) ∧
      Only [.intake, .slices, .regs, .xts, .z] s t) ∧
    ((s.chip.zone g).st = .zse → (s.chip.zone g).wpOff = 0 → (s.chip.zone g).sealState ≤ 1 → pget s.chip.z.chains g = none →
      s.chip.sealKeyOk (s.chip.zone g).nsid = true → Gives (.zoneFinish tag) s fun t =>
        Completes tag .success 0 s t ∧ (t.chip.zone g).st = .zsf ∧ (t.chip.zone g).sealState = 2 ∧ (t.chip.zone g).finishTag = none ∧
        (t.chip.zone g).wpOff = 0 ∧ Posts srcDigest 0x7001 [] s t ∧ (∀ h, h ≠ g → pget t.chip.z.zones h = pget s.chip.z.zones h) ∧
        Only [.intake, .slices, .regs, .xts, .z, .ev] s t) ∧
    ((s.chip.zone g).st = .zsio → Gives (.zoneReset tag) s fun t =>
      Journals x.nsid (s.chip.fld F.CONF_SEQ_NEXT) (.zreset (s.chip.zone g).zidx ((s.chip.zone g).pool.getD 0xFFFFFF)
        (s.chip.genOf ((s.chip.zone g).pool.getD 0xFFFFFF))) [.zoneReset tag g false] s t ∧
      (∃ y, t.chip.ctx tag = some y ∧ y.st = .media ∧ y.waiting = [g] ∧ y.sent = false) ∧ t.chip.z.zones = s.chip.z.zones ∧
      Only [.intake, .slices, .regs, .xts, .z] s t) ∧
    ((s.chip.zone g).st = .zsro → Gives (.zoneOffline tag) s fun t =>
      Journals x.nsid (s.chip.fld F.CONF_SEQ_NEXT) (.zreset (s.chip.zone g).zidx ((s.chip.zone g).pool.getD 0xFFFFFF)
        (s.chip.genOf ((s.chip.zone g).pool.getD 0xFFFFFF))) [.zoneReset tag g true] s t ∧
      (∃ y, t.chip.ctx tag = some y ∧ y.st = .media ∧ y.waiting = [g] ∧ y.sent = false) ∧ t.chip.z.zones = s.chip.z.zones ∧
      Only [.intake, .slices, .regs, .xts, .z] s t)) ∧
  (∀ (s : State) (tag : Nat) (x : Ctx) (n : NsRec), s.chip.starts tag x → s.chip.ns x.nsid = some n →
    (∀ data, n.zoned = true → s.chip.gate x n true = none → (∀ b ∈ padTo 48 data, b = 0) → (s.chip.zone (n.zoneOf (sqeSlba x.sqe))).st = .zse →
      Gives (.setZoneDescriptorExtension tag data) s fun t =>
        Completes tag .success 0 s t ∧
        t.chip.zone (n.zoneOf (sqeSlba x.sqe)) = { s.chip.zone (n.zoneOf (sqeSlba x.sqe)) with label := numAt data 48 16 } ∧
        (∀ h, h ≠ n.zoneOf (sqeSlba x.sqe) → pget t.chip.z.zones h = pget s.chip.z.zones h) ∧ Only [.intake, .z] s t) ∧
    (n.zoned = true → Gives (.zoneManagementReceive tag) s fun t =>
      (∃ vals, Sends [.hostValues tag vals] s t) ∧ Completes tag .success 0 s t ∧ Only [.intake, .out] s t) ∧
    (n.zoned = false → Gives (.zoneManagementReceive tag) s fun t => Completes tag .invalidField 0 s t ∧ Only [.intake] s t) ∧
    (∀ nsid mar mor, 1 ≤ nsid → nsid ≤ 8192 → mor ≤ mar → mar < 2 ^ 14 →
      s.chip.marSum - (if (s.chip.ns nsid).any (·.zoned) then s.chip.mar nsid else 0) + mar ≤ 8192 → Gives (.zmapNszWrite nsid mar mor) s fun t =>
        t.chip.mar nsid = mar ∧ t.chip.mor nsid = mor ∧ RegsBut [(.zmapNsz, nsid - 1)] s t ∧ Only [.regs] s t) ∧
    (∀ nsid mar mor, 1 ≤ nsid → nsid ≤ 8192 → mar < mor → mor < 2 ^ 14 → Gives (.zmapNszWrite nsid mar mor) s fun t =>
      Posts srcZmap 0x200B [nsid, mar, mor] s t ∧ RegsBut [(.evrecStat, 0)] s t ∧ Only [.regs, .ev] s t) ∧
    (∀ g, (s.chip.zone g).st.isActive = true → (s.chip.zone g).openTime ≠ (0, 0) → (s.chip.zone g).fzr = false →
      (∀ e ∈ s.chip.fns, e.2.aers = []) → Gives (.fzrAgeExpiry g) s fun t =>
        t.chip.zone g = { s.chip.zone g with fzr := true } ∧ (∀ h, h ≠ g → pget t.chip.z.zones h = pget s.chip.z.zones h) ∧ Only [.z, .fns] s t))


/-! Pools, rows, the basin, the journal and checkpoints -/

/-- POOL_BIND, BINDING_WAIT_EXPIRY, OPEN_AGE_EXPIRY and CONTROLLER_FINISH (R136, R141, R148, R159): an explicit open that waits for a pool takes the oldest erased one
and completes; one that waits too long fails; a handle's pool of age is closed; an open zone of age whose rows are whole is full. Reclaim, no pool being empty of
valid data or marked (R334 to R337): scores are those of R335; while the erased reserve is below its target one victim is taken; RECLAIM_COMMAND takes the pool
named, or says why not. -/
def Obligations.PoolsAndVictims : Prop :=
  (∀ s : State,
    (∀ g p rest tag t0 x, g < 2 ^ 20 → s.chip.z.reserve = p :: rest → s.chip.fld F.ZMAP_POOLRES_LOW ≤ rest.length →
      (s.chip.z.bindQ.filter fun b => b.2.1 == g) = [(tag, g, true, t0)] → s.chip.ctx tag = some x → x.waiting = [g] → x.sent = false →
      (s.chip.ns x.nsid).isSome = true → (s.chip.zone g).st = .zse → Gives (.poolBind g) s fun t =>
        t.chip.zone g = { s.chip.zone g with pool := some p, openTime := (0, 0), rowsPad := 0, st := .zseo } ∧ t.chip.z.reserve = rest ∧
        (∀ h, h ≠ g → pget t.chip.z.zones h = pget s.chip.z.zones h) ∧ (∀ b ∈ t.chip.z.bindQ, b.2.1 ≠ g) ∧ Completes tag .success 0 s t ∧
        Posts srcZmap 0x2001 [(s.chip.now - t0) / 1000] s t ∧ RegsBut [(.evrecStat, 0)] s t ∧ Only [.z, .m, .ev, .regs, .intake] s t) ∧
    (∀ g, s.chip.z.reserve = [] → s.chip.noPool = false → exec (.poolBind g) s = .next s) ∧
    (∀ tag g w t0 x, s.chip.z.bindQ.find? (·.1 == tag) = some (tag, g, w, t0) → s.chip.ctx tag = some x → x.committed = false → x.sent = false →
      x.placed = false → x.commit = none → Gives (.bindingWaitExpiry tag) s fun t =>
        Completes tag .namespaceNotReady 0 s t ∧ (∀ b ∈ t.chip.z.bindQ, b.1 ≠ tag) ∧ (∀ k, ∀ m ∈ (t.chip.slice k).claims, m.tag ≠ tag) ∧
        t.chip.now = max s.chip.now (t0 + ms (max 10 (s.chip.fld F.ZMAP_CTL_BIND_MS))) ∧
        Posts srcZmap 0x2002 [x.nsid, if g < 2 ^ 20 then (s.chip.zone g).zidx else g - 2 ^ 20] s t ∧ RegsBut [(.evrecStat, 0)] s t ∧
        Only [.regs, .ev, .intake, .slices, .z, .m, .fns, .now] s t) ∧
    (∀ h op t0, h < 64 → pget s.chip.z.handles h = some op → op.rowId = none → op.firstAt = some t0 → Gives (.openAgeExpiry h) s fun t =>
      pget t.chip.z.handles h = none ∧ (∀ k, k ≠ h → pget t.chip.z.handles k = pget s.chip.z.handles k) ∧
      t.chip.z.fdpEvents = s.chip.z.fdpEvents ++ [(1, h)] ∧ t.chip.now = max s.chip.now (t0 + hours s.chip.openAge) ∧
      (∀ q, s.chip.pool op.pool = some q → t.chip.pool op.pool = some { q with fullAt := some t.chip.now }) ∧ Only [.z, .m, .now] s t) ∧
    (∀ g, (s.chip.zone g).st.isActive = true → s.chip.writesIn g = false → (s.chip.zone g).wpOff % 1024 = 0 → Gives (.controllerFinish g) s fun t =>
      (t.chip.zone g).st = .zsf ∧ (t.chip.zone g).zfc = true ∧ (t.chip.zone g).wpOff = (s.chip.zone g).wpOff ∧
      (∀ h, h ≠ g → pget t.chip.z.zones h = pget s.chip.z.zones h) ∧ Posts srcZmap 0x2003 [(s.chip.zone g).nsid, (s.chip.zone g).zidx, 0] s t ∧
      Only [.z, .ev, .regs, .intake, .fns] s t)) ∧
  (∀ s : State, (∀ p, s.chip.isCandidate p = true → s.chip.validOf p ≠ 0) → s.chip.m.marks = [] →
    (Gives .scoreUpdate s fun t =>
      (∀ p, s.chip.isCandidate p = true → pget t.chip.m.scores p = some (s.chip.scoreOf p, s.chip.validOf p)) ∧
      (∀ p, s.chip.isCandidate p = false → pget t.chip.m.scores p = pget s.chip.m.scores p) ∧ t.chip.m = { s.chip.m with scores := t.chip.m.scores } ∧
      Only [.m] s t) ∧
    (s.chip.flag F.RECLAIM_CTL_AUTO = true → s.chip.z.reserve.length < s.chip.fld F.ZMAP_POOLRES_TARGET → s.chip.m.victims = [] →
      (∃ p, s.chip.isCandidate p = true) → Gives .reclaimVictimSelect s fun t =>
        ∃ p, s.chip.isCandidate p = true ∧ InCopy p s t ∧ RegsBut [(.evrecStat, 0)] s t ∧ Only [.m, .z, .regs, .ev] s t) ∧
    (s.chip.flag F.RECLAIM_CTL_AUTO = false → Gives .reclaimVictimSelect s fun t => t.chip.m = { s.chip.m with scores := t.chip.m.scores } ∧ Only [.m] s t) ∧
    (∀ p, p < 2 ^ 20 →
      (s.chip.isCandidate p = true → s.chip.m.victims.length < s.chip.reclaimPar → Gives (.reclaimCommand p) s fun t =>
        t.chip.fld F.RECLAIM_CMD_RESULT = 0 ∧ t.chip.fld F.RECLAIM_CMD_POOL = p ∧ InCopy p s t ∧
        RegsBut [(.reclaimCmd, 0), (.evrecStat, 0)] s t ∧ Only [.m, .z, .regs, .ev] s t) ∧
      (s.chip.isCandidate p = false → pget s.chip.m.victims p = none → Gives (.reclaimCommand p) s fun t =>
        t.chip.fld F.RECLAIM_CMD_RESULT = 2 ∧ t.chip.fld F.RECLAIM_CMD_POOL = p ∧ RegsBut [(.reclaimCmd, 0)] s t ∧ Only [.regs] s t)))

/-- ROW_WAIT_EXPIRY, GATHER_WINDOW_EXPIRY, BASIN_FOLD, JOURNAL_BATCH_EXPIRY and CHECKPOINT_PASS_START (R157, R165, R168, R170, R177): a part whose row
is not open lands in its handle's pair, a gathered page is programmed on both cisterns, the next pair is read for its fold, the open frame is closed, and a
pass takes every segment that changed. -/
def Obligations.BasinJournalAndPasses : Prop :=
  ∀ s : State,
    (∀ pid i p r ri q, s.chip.part pid = some p → p.row = some ri → s.chip.row ri = some r → r.openJsn = none → p.onMedium = false → p.pair = none →
      p.zone = none → s.chip.z.landStop = false → s.chip.fld F.ZMAP_BASIN_FREE_LOW_PCT ≤ s.chip.basinFreePct →
      pget s.chip.z.hPairs p.handle = some i → s.chip.pair i = some q → q.closed = false → q.next + p.len ≤ 6144 → q.next + p.len < q.gathered + 16 →
      s.chip.z.journal.used + 64 ≤ 0x4000 → Gives (.rowWaitExpiry pid) s fun t =>
        (∃ u, t.chip.pair i = some u ∧ u.next = q.next + p.len ∧ u.gathered = q.gathered ∧ u.a = q.a ∧ u.b = q.b) ∧
        t.chip.part pid = some { p with route := .basin, pair := some i, pairOff := q.next, jsns := p.jsns ++ [s.chip.z.journal.nextJsn] } ∧
        Journals p.nsid p.seq (.land i q.next false p.len 0 p.first p.handle) [.part pid] s t ∧ Posts srcZmap 0x2101 [1] s t ∧
        t.chip.now = max s.chip.now (p.committedAt + us (s.chip.clampFld F.ZMAP_LAND_ROW_WAIT_US 50 10000)) ∧
        RegsBut [(.evrecStat, 0)] s t ∧ Only [.z, .ev, .regs, .intake, .now] s t) ∧
    (∀ i q t0, s.chip.pair i = some q → q.gatherAt = some t0 → q.zone = none → (q.next + 15) / 16 * 16 = q.gathered + 16 →
      Gives (.gatherWindowExpiry i) s fun t =>
        (∃ u, t.chip.pair i = some u ∧ u.next = q.gathered + 16 ∧ u.gathered = q.gathered + 16 ∧ u.gatherAt = none) ∧
        t.chip.m.nextOp = s.chip.m.nextOp + 2 ∧
        (∀ k x, (k, x) ∈ [(0, q.a), (1, q.b)] → ∃ o, t.chip.op (s.chip.m.nextOp + k) = some o ∧ o.rt = .programSlc ∧ o.die = x / 4096 ∧
          o.block = x % 4096 ∧ o.wl = q.gathered / 16 ∧ o.pslc = true ∧ o.stage = .created) ∧
        t.chip.now = max s.chip.now (t0 + us (min 100 (s.chip.fld F.ZMAP_BASIN_GATHER_US))) ∧ Only [.z, .m, .now] s t) ∧
    (∀ i q, s.chip.nextFold = some i → s.chip.pair i = some q → q.zone = none → q.landing = false → pget s.chip.m.folds i = none →
      s.chip.pairEntries i ≠ [] → (∀ e ∈ s.chip.m.folds, e.2 ≠ []) → Gives .basinFold s fun t =>
        (∃ u, t.chip.pair i = some u ∧ u.closed = true) ∧ (∀ e ∈ t.chip.z.hPairs, e.2 ≠ i) ∧ pget t.chip.m.folds i = some (s.chip.pairEntries i) ∧
        t.chip.m.nextRd = s.chip.m.nextRd + (s.chip.pairEntries i).length ∧ Only [.m, .z] s t) ∧
    (s.chip.nextFold = none → (∀ e ∈ s.chip.m.folds, e.2 ≠ []) → exec .basinFold s = .next s) ∧
    (s.chip.z.journal.opened ≠ [] → Gives .journalBatchExpiry s fun t =>
      t.chip.z.journal.opened = [] ∧ t.chip.z.journal.nextFrame = s.chip.z.journal.nextFrame + 1 ∧
      (∃ f ∈ t.chip.z.journal.flying, f.no = s.chip.z.journal.nextFrame ∧ f.recs = s.chip.z.journal.opened) ∧
      t.chip.now = max s.chip.now (s.chip.z.journal.openAt + us (s.chip.clampFld F.STRIPE_JCFG_BATCH_US 1 500)) ∧
      RegsBut [(.stripeJmir, 0)] s t ∧ Only [.now, .z, .m, .regs] s t) ∧
    (s.chip.z.journal.opened = [] → exec .journalBatchExpiry s = .next s) ∧
    (s.chip.z.passSegs = [] → (∀ e ∈ s.chip.z.segs, e.2.changed = false) → s.chip.z.pass + 1 < 2 ^ 32 → Gives .checkpointPassStart s fun t =>
      t.chip.z.pass = s.chip.z.pass + 1 ∧ t.chip.z.passSegs = [] ∧ t.chip.fld F.ZMAP_CKPT_PASS = s.chip.z.pass + 1 ∧
      Posts srcZmap 0x2007 [s.chip.z.pass + 1, 0] s t ∧ RegsBut [(.zmapCkpt, 0), (.evrecStat, 0)] s t ∧ Only [.z, .regs, .ev, .intake, .now] s t) ∧
    (s.chip.z.passSegs = [] → (s.chip.z.segs.any fun e => e.2.changed) = true → Gives .checkpointPassStart s fun t =>
      t.chip.z.pass = s.chip.z.pass + 1 ∧ t.chip.z.passSegs = (s.chip.z.segs.filter fun e => e.2.changed).map (·.1) ∧
      t.chip.z.lastPassAt = t.chip.now ∧ Only [.m, .z, .now] s t)

/-! Energy and the power-fail sequence -/

/-- A warning of the supply (R195, R196, R197, R469 to R472): it freezes the ledger, switches the reservoir in and opens the window; a supply that is back
thaws the ledger; the window's end, or the reset level, commits the power-fail sequence. Inside a warning a dip only lowers MIN_MV. -/
def Obligations.SupplyWarnings : Prop :=
  ∀ s : State,
    (∀ mv, mv < 65536 → s.chip.supply.porLow = false → s.chip.warned = true → Gives (.supplyWarning mv) s fun t =>
      t.chip.fld F.RESV_PFSTAT_MIN_MV = min mv (s.chip.fld F.RESV_PFSTAT_MIN_MV) ∧ RegsBut [(.resvPfstat, 0)] s t ∧ Only [.regs] s t) ∧
    (∀ mv, mv < 65536 → s.chip.supply.porLow = false → s.chip.warned = false → s.chip.supply.held = false → s.chip.z.ledger.pfCommit = false →
      s.chip.supply.test = none → Gives (.supplyWarning mv) s fun t =>
        t.chip.warned = true ∧ t.chip.flag F.RESV_PFSTAT_WINDOW = true ∧ t.chip.fld F.RESV_PFSTAT_MIN_MV = mv ∧
        t.chip.fld F.RESV_PFSTAT_WARNINGS = satAdd 16 (s.chip.fld F.RESV_PFSTAT_WARNINGS) 1 ∧ t.chip.flag F.RESV_RSTAT_SWITCHED_IN = true ∧
        t.chip.supply = { s.chip.supply with windowAt := some s.chip.now, crossed := false, posted := false } ∧
        t.chip.z = { s.chip.z with ledger := { s.chip.z.ledger with frozen := true } } ∧ Only [.z, .regs, .pwr, .out, .supply] s t) ∧
    (∀ t0, s.chip.supply.windowAt = some t0 → s.chip.z.ledger.opQ = [] → s.chip.z.ledger.commitQ = [] → Gives .brownoutRidden s fun t =>
      t.chip.warned = false ∧ t.chip.flag F.RESV_PFSTAT_WINDOW = false ∧ t.chip.flag F.RESV_RSTAT_SWITCHED_IN = false ∧
      t.chip.fld F.RESV_PFSTAT_RIDDEN = satAdd 16 (s.chip.fld F.RESV_PFSTAT_RIDDEN) 1 ∧ t.chip.supply.windowAt = none ∧ t.chip.supply.resChg = true ∧
      t.chip.z = { s.chip.z with ledger := { s.chip.z.ledger with frozen := false } } ∧ Posts srcLedger 0xA102 [(s.chip.now - t0) / 1000] s t ∧
      RegsBut [(.resvPfstat, 0), (.resvRstat, 0), (.evrecStat, 0)] s t ∧ Only [.z, .regs, .ev, .supply] s t) ∧
    (s.chip.supply.windowAt = none → exec .brownoutRidden s = .next s ∧ exec .confirmationWindowExpiry s = .next s) ∧
    (∀ t0, s.chip.supply.windowAt = some t0 → s.chip.z.ledger.pfCommit = false → Gives .confirmationWindowExpiry s fun t =>
      PowerCommitted s t ∧ t.chip.now = max s.chip.now (t0 + us 500) ∧ t.chip.z.ledger.pfAt = t.chip.now ∧
      Only [.now, .supply, .fns, .m, .z, .regs, .out, .ev, .intake, .slices, .xts, .ports] s t) ∧
    (∀ mv, s.chip.warned = true → s.chip.supply.windowAt.isSome = true → s.chip.z.ledger.pfCommit = false → Gives (.supplyResetLevel mv) s fun t =>
      PowerCommitted s t ∧ t.chip.supply.crossed = true ∧ t.chip.z.ledger.pfAt = s.chip.now ∧
      Only [.supply, .fns, .m, .z, .regs, .out, .ev, .intake, .slices, .xts, .ports] s t) ∧
    (∀ mv, s.chip.warned = false → exec (.supplyResetLevel mv) s = .next s)

/-- The steps of the power-fail sequence after landing (R197 steps 7 to 10), each once the one before has ended and otherwise nothing: journal, recorder, the
PF_END record with its free energy value, power off; and the supply's return (R200, R471, R535), which releases the WARM reset. -/
def Obligations.PowerFailSteps : Prop :=
  ∀ s : State,
    (s.chip.z.ledger.step = .landing → s.chip.landingDone = true → Gives .pfJournalFlush s fun t =>
      t.chip.z.ledger = { s.chip.z.ledger with step := .journal } ∧ t.chip.z.journal.opened = [] ∧ RegsBut [(.stripeJmir, 0)] s t ∧
      Only [.z, .m, .regs] s t) ∧
    (s.chip.z.ledger.step ≠ .landing ∨ s.chip.landingDone = false → exec .pfJournalFlush s = .next s) ∧
    (s.chip.z.ledger.step = .journal → s.chip.journalDone = true → Gives .pfRecorderFlush s fun t =>
      t.chip.z.ledger = { s.chip.z.ledger with step := .recorder } ∧ RegsBut [(.evrecStat, 0)] s t ∧ Only [.ev, .regs, .m, .z] s t) ∧
    (s.chip.z.ledger.step ≠ .journal ∨ s.chip.journalDone = false → exec .pfRecorderFlush s = .next s) ∧
    (s.chip.z.ledger.step = .recorder → s.chip.recorderDone = true → Gives .pfEndWrite s fun t =>
      t.chip.z.ledger = { s.chip.z.ledger with step := .pfEnd, pfEnergy := (Config.freeValue s.chip.fresh).toNat % 65536 } ∧
      t.chip.z.journal.opened = [] ∧ t.chip.fresh = s.chip.fresh + 1 ∧
      (∃ f ∈ t.chip.z.journal.flying, ∃ r ∈ f.recs, r.body =
        .pfEnd ((s.chip.now - s.chip.z.ledger.pfAt) / 1000) t.chip.z.ledger.pfEnergy s.chip.z.ledger.landed) ∧
      RegsBut [(.stripeJmir, 0)] s t ∧ Only [.z, .m, .regs, .fresh] s t) ∧
    (s.chip.z.ledger.step ≠ .recorder ∨ s.chip.recorderDone = false → exec .pfEndWrite s = .next s) ∧
    (s.chip.z.ledger.step = .off → Gives .pfPowerOff s fun t =>
      t.chip.supply = { s.chip.supply with held := true, cycle := true } ∧ (∀ d, 1 ≤ d → d ≤ 32 → t.chip.fld F.PWR_DOM_STATE d = 2) ∧
      t.chip.flag F.RESV_RSTAT_SWITCHED_IN = false ∧ t.chip.intake = intakeReset ∧ t.chip.slices = [] ∧ t.chip.links = [] ∧
      t.chip.fuses = s.chip.fuses ∧ t.chip.sys.flash = s.chip.sys.flash ∧ Still s t) ∧
    (s.chip.z.ledger.step ≠ .off → exec .pfPowerOff s = .next s) ∧
    (s.chip.supply.held = true → s.chip.supply.porLow = false → s.chip.supply.mainPg = true → s.chip.warned = false → s.chip.supply.code ≠ 3 →
      s.chip.supply.code < 16 → Gives .supplyHoldExpiry s fun t =>
        t.chip.supply.held = false ∧ t.chip.supply.code = 2 ∧ t.chip.fld F.SYS_RSTCAUSE_CAUSE = s.chip.supply.code ∧
        t.chip.fld F.SYS_RSTCAUSE_PREV = s.chip.fld F.SYS_RSTCAUSE_CAUSE ∧
        (∀ d, d < 33 → t.chip.fld F.PWR_DOM_STATE d = if s.chip.domFused d then 2 else 0) ∧
        t.chip.now = max s.chip.now (s.chip.supply.holdFrom + s.chip.holdNs) ∧ Only [.supply, .now, .ev, .regs, .m, .ports, .z, .sys] s t) ∧
    (s.chip.supply.held = false ∨ s.chip.warned = true → exec .supplyHoldExpiry s = .next s)

/-! Scheduling and the decoders -/

/-- SCHED's timers and arrivals (R203, R206, R210 to R212, R215, R223, R227): a background read is queued on its die; a program is suspended for an
entitled read as the read's age or the minimum run is reached, and resumed at the end of the hold; a suspend that stalls blocks its die; the histograms are
copied; the spillway's window rolls over. -/
def Obligations.DiesAreScheduled : Prop :=
  ∀ s : State,
    (∀ i r p, s.chip.rd i = some r → r.here = false → r.for_ = .patrol p → r.place = none → r.other = none → r.degraded = false →
      s.chip.domOn (domFg (memberOf r.at_.die / 6)) = true → (s.chip.die r.at_.die).st = .read → Gives (.schedReadArrival i) s fun t =>
        t.chip.rd i = some { r with here := true, cls := .b, deadline := none, arrived := s.chip.now, op := some s.chip.m.nextOp } ∧
        t.chip.die r.at_.die = { s.chip.die r.at_.die with queue := (s.chip.die r.at_.die).queue ++ [s.chip.m.nextOp] } ∧
        (∃ o, t.chip.op s.chip.m.nextOp = some o ∧ o.rt = .read ∧ o.die = r.at_.die ∧ o.purpose = .read i ∧ o.cls = .b ∧ o.stage = .queued) ∧
        (∀ d, d ≠ r.at_.die → t.chip.die d = s.chip.die d) ∧ Only [.m] s t) ∧
    (∀ i o k, s.chip.op i = some o → o.cls = .d1 → o.stage = .queued →
      (s.chip.advanceTo (o.arrived + us (s.chip.fld F.SCHED_DL_D1_SUSP_AGE_US))).canPause o.die k → Gives (.d1SuspendAgeExpiry i) s fun t =>
        Paused o.die k s t ∧ t.chip.now = max s.chip.now (o.arrived + us (s.chip.fld F.SCHED_DL_D1_SUSP_AGE_US))) ∧
    (∀ i o, s.chip.op i = some o → o.started = true → o.stage = .running → o.rt = .programQlc →
      (s.chip.advanceTo (o.runAt + s.chip.minRun o)).canPause o.die i → Gives (.minRunExpiry i) s fun t =>
        Paused o.die i s t ∧ t.chip.now = max s.chip.now (o.runAt + s.chip.minRun o)) ∧
    (∀ die i o t0, (s.chip.die die).susp = some i → s.chip.op i = some o → o.stage = .suspended → (s.chip.die die).confAt = some t0 → o.rt = .programQlc →
      (s.chip.die die).st = .prgSusp → (s.chip.die die).posted.length ≤ 1 → Gives (.suspendHoldExpiry die) s fun t =>
        t.chip.die die = { s.chip.die die with
          st := .program, susp := none, confAt := none, posted := (s.chip.die die).posted ++ [s.chip.m.nextOp] } ∧
        (∃ x, t.chip.op s.chip.m.nextOp = some x ∧ x.rt = .resume ∧ x.die = die ∧ x.purpose = .resumeOf i) ∧
        t.chip.now = max s.chip.now (t0 + s.chip.hold o) ∧ Only [.m, .now] s t) ∧
    (∀ die i, (s.chip.die die).susp = some i → (s.chip.die die).st = .suspending → (s.chip.die die).queue = [] →
      Gives (.suspendStallExpiry die) s fun t =>
        t.chip.die die = { s.chip.die die with st := .blocked } ∧ Posts srcSched 0x3403 [die, i] s t ∧
        t.chip.now = max s.chip.now ((s.chip.die die).suspAt + us (max 30 (s.chip.fld F.SCHED_SPILL_STALL_US))) ∧
        RegsBut [(.evrecStat, 0)] s t ∧ Only [.m, .regs, .ev, .now] s t) ∧
    (Gives .latencySnapshot s fun t =>
      (∀ i, i < 192 → t.chip.fld F.SCHED_LATBIN_COUNT i = mget 0 s.chip.m.hist i % 2 ^ 48) ∧ t.chip.m = { s.chip.m with hist := [] } ∧
      t.chip.fld F.SCHED_LATCTL_SNAP = 0 ∧
      RegsBut ((.schedLatctl, 0) :: (List.range 192).map fun i => (.schedLatbin, i)) s t ∧ Only [.m, .regs] s t) ∧
    (Gives .spillWindowRollover s fun t =>
      t.chip.m = { s.chip.m with spillStarted := 0, spillNoted := 0, prevReads := s.chip.m.winReads, winReads := 0 } ∧
      (s.chip.m.spillNoted = 0 → Only [.m] s t) ∧
      (s.chip.m.spillNoted ≠ 0 → Posts srcSched 0x3402 [s.chip.m.spillNoted] s t ∧ RegsBut [(.evrecStat, 0)] s t ∧ Only [.m, .regs, .ev] s t))

/-- HARD_DECODE_DONE and SOFT_DECODE_DONE for a read of patrol's, nothing put down for memory (R318 to R321, R324, R348): a success is counted and its
bits are gathered for its page; a success of a soft read is recorded and marks its cistern urgently; a failure is counted and the retry is read next. -/
def Obligations.DecodersReport : Prop :=
  ∀ (s : State) (i page : Nat) (r : Rd) (d : DecodeRes) (e : Nat × Nat),
    s.chip.rd i = some r → r.for_ = .patrol page → r.await = true → r.op = none → r.parts = [] → r.place = none → s.chip.wr = [] →
    pget s.chip.m.patrol.open_ page = some e → e.2 < 3 → s.chip.flag F.LDPC_CTL_HINT_EN = false →
    (d.ok = true → miscorrected r d.bytes = false →
      (r.level = 0 → d.bits < max 1 (s.chip.fld F.LDPC_THR_REFRESH_BITS) → Gives (.hardDecodeDone i d) s fun t =>
        t.chip.rd i = none ∧ t.chip.fld F.LDPC_CNT2_DECODED = satAdd 32 (s.chip.fld F.LDPC_CNT2_DECODED) 1 ∧
        pget t.chip.m.patrol.open_ page = some (max e.1 d.bits, e.2 + 1) ∧ t.chip.m.marks = s.chip.m.marks ∧
        RegsBut [(.ldpcCnt2, 0)] s t ∧ Only [.m, .regs] s t) ∧
      (3 ≤ r.level → pget s.chip.m.marks r.key = none → (pget s.chip.ev.queues srcLdpc).getD [] = [] → Gives (.softDecodeDone i d) s fun t =>
        t.chip.rd i = none ∧ t.chip.fld F.LDPC_CNT_SOFT_OK = satAdd 16 (s.chip.fld F.LDPC_CNT_SOFT_OK) 1 ∧ pget t.chip.m.marks r.key = some true ∧
        pget t.chip.ev.queues srcLdpc = some [⟨0x3502, [r.at_.die, r.at_.block, r.at_.wl, r.at_.cu, r.level], srcLdpc, 0⟩,
          ⟨0x3506, [r.key, 1, 1, d.bits], srcLdpc, 0⟩] ∧
        RegsBut [(.ldpcCnt2, 0), (.ldpcCnt, 0), (.patrolCnt, 0)] s t ∧ Only [.m, .regs, .ev] s t)) ∧
    (d.ok = false → r.level = 0 → r.cls = .b → 2 ≤ s.chip.fld F.LDPC_ESC_B_MAX → (s.chip.die r.at_.die).st = .read →
      Gives (.hardDecodeDone i d) s fun t =>
        t.chip.fld F.LDPC_CNT_HARD_FAIL = satAdd 16 (s.chip.fld F.LDPC_CNT_HARD_FAIL) 1 ∧ Posts srcLdpc 0x3501 [2, 3] s t ∧
        (∃ y, t.chip.rd i = some y ∧ y.level = 2 ∧ y.op = some s.chip.m.nextOp ∧ y.await = false) ∧
        (∃ o, t.chip.op s.chip.m.nextOp = some o ∧ o.rt = .readRetry ∧ o.retryIdx = 1 ∧ o.param = s.chip.sweep ∧ o.die = r.at_.die) ∧
        RegsBut [(.ldpcCnt, 0), (.evrecStat, 0)] s t ∧ Only [.m, .regs, .ev] s t) ∧
    (r.level = 0 → exec (.softDecodeDone i d) s = .next s) ∧ (3 ≤ r.level → exec (.hardDecodeDone i d) s = .next s)

/-! Patrol and reclaim -/

/-- The patrol (R326 to R331, R348): a page of the lap is read as four code units; the pace is pages left over time left; a lap starts with every
page to do; a late one is recorded. PIN_WAIT_WARNING: an erase that waits on a pin is recorded once. FULL_SCAN (R343, R345): a found unit is mapped again. -/
def Obligations.PatrolAndScan : Prop :=
  ∀ s : State,
    (s.chip.flag F.PATROL_CTL_EN = true → s.chip.m.patrol.done = false → ∀ k lo hi rest, s.chip.m.patrol.todo = (k, lo, hi) :: rest →
      (∀ wl, s.chip.placeOf (k / 4096) (k % 4096) wl = none) → hi ≤ (s.chip.bst (k / 4096) (k % 4096)).ptr → s.chip.memberLost (memberOf (k / 4096)) = false →
      (∀ e ∈ s.chip.m.ops, e.2.rt.isProgram = false) → s.chip.m.patrol.page + 1 < s.chip.itemPages (k, lo, hi) → Gives .patrolReadIssue s fun t =>
        t.chip.m.nextRd = s.chip.m.nextRd + 4 ∧ t.chip.m.patrol.page = s.chip.m.patrol.page + 1 ∧ t.chip.m.patrol.pages = s.chip.m.patrol.pages + 1 ∧
        t.chip.m.patrol.todo = s.chip.m.patrol.todo ∧ (∀ j, j < 4 → ∃ r, t.chip.rd (s.chip.m.nextRd + j) = some r ∧
          r.for_ = .patrol s.chip.m.patrol.pages ∧ r.at_.die = k / 4096 ∧ r.at_.block = k % 4096) ∧
        t.chip.fld F.PATROL_CNT_PAGES = satAdd 32 (s.chip.fld F.PATROL_CNT_PAGES) 1 ∧
        RegsBut [(.patrolCnt, 0), (.patrolLap, 0)] s t ∧ Only [.m, .regs] s t) ∧
    (s.chip.flag F.PATROL_CTL_EN = false ∨ s.chip.m.patrol.done = true → exec .patrolReadIssue s = .next s) ∧
    (s.chip.m.patrol.done = false → Gives .patrolPaceRecompute s fun t =>
      t.chip.m = { s.chip.m with patrol := { s.chip.m.patrol with
        pace := (s.chip.m.patrol.total - s.chip.m.patrol.pages, s.chip.m.patrol.nextNs - s.chip.now) } } ∧ Only [.m] s t) ∧
    (s.chip.flag F.PATROL_CTL_EN = true → s.chip.m.patrol.done = true → s.chip.m.patrol.fresh = false → Gives .patrolLapStart s fun t =>
      t.chip.m.patrol.done = false ∧ t.chip.m.patrol.todo = s.chip.lapItems false ∧ t.chip.m.patrol.pages = 0 ∧
      t.chip.m.patrol.total = ((s.chip.lapItems false).map s.chip.itemPages).sum ∧ t.chip.now = max s.chip.now s.chip.m.patrol.nextNs ∧
      t.chip.fld F.PATROL_LAP_LAP = (s.chip.fld F.PATROL_LAP_LAP + 1) % 2 ^ 32 ∧ t.chip.fld F.PATROL_LAP_PROGRESS = 0 ∧
      t.chip.flag F.PATROL_STAT_BEHIND = false ∧ RegsBut [(.patrolLap, 0), (.patrolStat, 0)] s t ∧ Only [.m, .regs, .now] s t) ∧
    (s.chip.m.patrol.done = false → s.chip.flag F.PATROL_STAT_BEHIND = false → Gives .patrolLapOverrun s fun t =>
      t.chip.flag F.PATROL_STAT_BEHIND = true ∧ t.chip.now = max s.chip.now s.chip.m.patrol.nextNs ∧
      Posts srcPatrol 0x3509 [s.chip.fld F.PATROL_LAP_LAP, s.chip.fld F.PATROL_LAP_PROGRESS] s t ∧
      RegsBut [(.patrolStat, 0), (.evrecStat, 0)] s t ∧ Only [.regs, .ev, .now] s t) ∧
    (∀ i o key, s.chip.op i = some o → key = s.chip.pinKey o.die o.block → o.rt = .erase → o.stage = .queued → 0 < s.chip.pinned key →
      (i ∉ s.chip.m.warned → Gives (.pinWaitWarning i) s fun t =>
        t.chip.m = { s.chip.m with warned := i :: s.chip.m.warned } ∧ Posts srcReclaim 0x350D [key, (t.chip.now - o.arrived) / ms 1] s t ∧
        t.chip.now = max s.chip.now (o.arrived + ms (max 1 (s.chip.fld F.RECLAIM_CTL_PIN_WARN_MS))) ∧
        RegsBut [(.evrecStat, 0)] s t ∧ Only [.m, .regs, .ev, .now] s t) ∧
      (i ∈ s.chip.m.warned → exec (.pinWaitWarning i) s = .next s)) ∧
    (∀ seg scan x n, s.chip.z.scanning = [seg] → seg < segZones → scan.chunks = [x] → s.chip.ns x.nsid = some n → n.seq0 ≤ x.seq →
      s.chip.z.journal.durable = [] → s.chip.z.journal.flying = [] → s.chip.z.journal.opened = [] → Gives (.fullScan seg scan) s fun t =>
        t.chip.mapAt (n.base + x.unit) = x.entry ∧ (∀ i, i ≠ n.base + x.unit → t.chip.mapAt i = s.chip.mapAt i) ∧ t.chip.z.scanning = [] ∧
        Posts srcPatrol 0x3508 [seg, seg % 0x10000000 * 2 ^ 20, scan.seconds] s t ∧ t.chip.flag F.PATROL_SCAN_ACTIVE = false ∧
        t.chip.fld F.PATROL_SCAN_PROGRESS = 1000 ∧ RegsBut [(.patrolScan, 0), (.evrecStat, 0)] s t ∧ Only [.z, .regs, .ev] s t) ∧
    (∀ seg scan, s.chip.z.scanning = [] → exec (.fullScan seg scan) s = .next s)


/-! Binor links -/

/-- The flits of an active Binor link (R234 to R240, R243, R246, R247), no codeword failure in its history: what was received in order moves the sequence on
and is acknowledged, a bad one asks for a replay; timers repeat ACK and NAK and replay what is held; a stall retrains the link; a lane that fails is given
up with a DEGRADE notice, which the DMARK block ends. A link that is not active takes no flit. -/
def Obligations.LinkFlits : Prop :=
  ∀ (s : State) (p : Nat) (l : Link), p < 36 → l = s.chip.link p →
    (s.chip.linkActive p = false → (∀ q k a b ok fs, exec (.dataFlit p q k a b ok fs) s = .next s) ∧
      (∀ a b ok x y z, exec (.linkFlit p a b ok x y z) s = .next s) ∧ exec (.fastRetrain p) s = .next s ∧ exec (.skipInsert p) s = .next s) ∧
    (s.chip.linkActive p = true →
      (∀ a b k, l.hist = [] →
        (∀ fs, l.resync = false → (∀ f ∈ fs, bframeOk f.1 f.2.1 = true) → l.unacked + 1 < 16 → Gives (.dataFlit p l.rxSeq k (some a) (some b) true fs) s fun t =>
          LinkIs p { l with
            rxSeq := seqAdd l.rxSeq 1, discarding := false, unacked := l.unacked + 1, hist := [(false, false)], corr0 := l.corr0 + a, corr1 := l.corr1 + b } s t ∧
          t.chip.fld F.BINOR_ERR_FEC_CORR0 p = satAdd 16 (s.chip.fld F.BINOR_ERR_FEC_CORR0 p) a ∧
          t.chip.fld F.BINOR_ERR_FEC_CORR1 p = satAdd 16 (s.chip.fld F.BINOR_ERR_FEC_CORR1 p) b ∧
          RegsBut [(.binorErr, p)] s t ∧ Only [.regs, .links] s t) ∧
        (∀ q fs, Gives (.dataFlit p q k (some a) (some b) false fs) s fun t =>
          LinkIs p { l with discarding := true, hist := [(false, false)], corr0 := l.corr0 + a, corr1 := l.corr1 + b } s t ∧
          t.chip.fld F.BINOR_ERR_CRC_FAIL p = satAdd 16 (s.chip.fld F.BINOR_ERR_CRC_FAIL p) 1 ∧ Sends [.link p linkNak l.rxSeq] s t ∧
          RegsBut [(.binorErr, p)] s t ∧ Only [.regs, .links, .out] s t) ∧
        (∀ h rest, l.held = h :: rest → l.sendQ = [] → Gives (.linkFlit p (some a) (some b) true (some h.seq) none none) s fun t =>
          LinkIs p { l with held := rest, ackAt := s.chip.now, hist := [(false, false)], corr0 := l.corr0 + a, corr1 := l.corr1 + b } s t ∧
          RegsBut [(.binorErr, p)] s t ∧ Only [.regs, .links] s t) ∧
        (∀ lane, s.chip.flag F.BINOR_STAT_TX_X1 p = false → Gives (.linkFlit p (some a) (some b) true none none (some lane)) s fun t =>
          t.chip.flag F.BINOR_STAT_TX_X1 p = true ∧ t.chip.fld F.BINOR_STAT_TX_LANE p = 1 - lane % 2 ∧
          Sends [.link p linkDmark (1 - lane % 2)] s t ∧ Posts (srcBinor p) 0xB002 [p, 1, lane, 0] s t ∧
          RegsBut [(.binorErr, p), (.binorStat, p), (.evrecStat, 0)] s t ∧ Only [.regs, .links, .out, .ev] s t) ∧
        (Gives (.skipFlit p (some a) (some b) true) s fun t =>
          LinkIs p { l with hist := [(false, false)], corr0 := l.corr0 + a, corr1 := l.corr1 + b } s t ∧ RegsBut [(.binorErr, p)] s t ∧
          Only [.regs, .links] s t)) ∧
      (Gives (.skipInsert p) s fun t => LinkIs p { l with sinceSkip := 0 } s t ∧ Sends [.link p linkSkip 0] s t ∧ Only [.links, .out] s t) ∧
      (0 < l.unacked → Gives (.ackTimerExpiry p) s fun t =>
        LinkIs p { l with unacked := 0 } s t ∧ Sends [.link p linkAck l.lastRx] s t ∧ Only [.links, .out] s t) ∧
      (l.discarding = true → Gives (.nakRepeatExpiry p) s fun t => Sends [.link p linkNak l.rxSeq] s t ∧ Only [.out] s t) ∧
      (∀ h rest, l.held = h :: rest → h.replays + 1 < 8 → Gives (.replayTimeout p) s fun t =>
        LinkIs p { l with
          held := l.held.map fun x => { x with replays := if x.seq = h.seq then x.replays + 1 else x.replays, sentAt := t.chip.now } } s t ∧
        t.chip.now = max s.chip.now (h.sentAt + us 10) ∧ t.chip.fld F.BINOR_ERR_REPLAYS p = satAdd 16 (s.chip.fld F.BINOR_ERR_REPLAYS p) 1 ∧
        Posts (srcBinor p) 0xB003 [p, l.held.length] s t ∧ Sends [.link p linkReplay h.seq] s t ∧
        RegsBut [(.binorErr, p), (.evrecStat, 0)] s t ∧ Only [.regs, .links, .out, .ev, .now] s t) ∧
      (l.held ≠ [] → Gives (.ackStallExpiry p) s fun t =>
        Trains p 2 { l with full := false, attempts := 1, cause := 2 } s t ∧ t.chip.now = max s.chip.now (l.ackAt + us 20) ∧
        t.chip.fld F.BINOR_ERR2_FAST_RETRAINS p = satAdd 16 (s.chip.fld F.BINOR_ERR2_FAST_RETRAINS p) 1 ∧
        RegsBut [(.binorErr2, p), (.binorStat, p)] s t ∧ Only [.regs, .links, .out, .now] s t) ∧
      (Gives (.fastRetrain p) s fun t =>
        Trains p 2 { l with full := false, attempts := 1, cause := 0 } s t ∧ RegsBut [(.binorErr2, p), (.binorStat, p)] s t ∧
        Only [.regs, .links, .out] s t) ∧
      (∀ lane, l.notice = none → s.chip.flag F.BINOR_STAT_RX_X1 p = false → Gives (.laneLoss p lane) s fun t =>
        LinkIs p { l with notice := some (lane % 2) } s t ∧ t.chip.fld F.BINOR_ERR2_DEGRADES p = satAdd 16 (s.chip.fld F.BINOR_ERR2_DEGRADES p) 1 ∧
        Posts (srcBinor p) 0xB002 [p, 0, lane % 2, 0] s t ∧ Sends [.link p linkDegrade (lane % 2)] s t ∧
        RegsBut [(.binorErr2, p), (.evrecStat, 0)] s t ∧ Only [.regs, .links, .out, .ev] s t) ∧
      (∀ d lane, l.notice = some d → lane % 2 ≠ d → Gives (.dmarkReceived p lane) s fun t =>
        LinkIs p { l with notice := none, hist := [] } s t ∧ t.chip.flag F.BINOR_STAT_RX_X1 p = true ∧
        t.chip.fld F.BINOR_STAT_RX_LANE p = lane % 2 ∧ RegsBut [(.binorStat, p)] s t ∧ Only [.regs, .links] s t) ∧
      (∀ d, l.notice = some d → Gives (.degradeNoticeRepeat p) s fun t => Sends [.link p linkDegrade d] s t ∧ Only [.out] s t)) ∧
    (l.corr0 ≤ max 1 (s.chip.fld F.BINOR_CTL_FEC_THR p) → l.corr1 ≤ max 1 (s.chip.fld F.BINOR_CTL_FEC_THR p) → Gives (.fecWindowExpiry p) s fun t =>
      LinkIs p { l with corr0 := 0, corr1 := 0 } s t ∧ Only [.links] s t)

/-- The training of a Binor port (R241 to R245): each state follows as its condition is met, from DETECT to ACTIVE; a state that lasts too long ends the
attempt, and the third of a full training leaves the port DOWN. A port that is not enabled, or not DOWN or LOST, ignores FULL_TRAIN; a block whose OSCRC
fails is not taken. PARK and PARK_COMPLETE (R270): an idle active port parks once every flit is acknowledged. -/
def Obligations.LinksTrainAndPark : Prop :=
  ∀ (s : State) (p : Nat) (l : Link), p < 36 → l = s.chip.link p → s.chip.wr = [] →
    ((s.chip.linkState p = 0 ∨ s.chip.linkState p = 7) → s.chip.flag F.BINOR_CTL_EN p = true → s.chip.portIn p = true → Gives (.fullTrain p) s fun t =>
      Trains p 1 { l with
        full := true, attempts := 1, txSeq := 0, rxSeq := 0, held := [], unacked := 0, discarding := false, resync := false, notice := none, hist := [] } s t ∧
      RegsBut [(.binorStat, p)] s t ∧ Only [.regs, .links, .out] s t) ∧
    (s.chip.flag F.BINOR_CTL_EN p = false ∨ (s.chip.linkState p ≠ 0 ∧ s.chip.linkState p ≠ 7) → exec (.fullTrain p) s = .next s) ∧
    (∀ rx tx r rs u us, s.chip.linkState p = 1 → s.chip.flag F.BINOR_CTL_FORCE_X1 p = false → (rx.filter (· < 2)).eraseDups = r :: rs →
      (tx.filter (· < 2)).eraseDups = u :: us → Gives (.signalDetected p rx tx) s fun t =>
        Trains p 2 { l with lanes := r :: rs } s t ∧ t.chip.flag F.BINOR_STAT_RX_X1 p = rs.isEmpty ∧ t.chip.flag F.BINOR_STAT_TX_X1 p = us.isEmpty ∧
        RegsBut [(.binorStat, p)] s t ∧ Only [.regs, .links, .out] s t) ∧
    (s.chip.linkState p = 2 → Gives (.cdrLock p) s fun t =>
      Trains p (if l.full then 3 else 4) { l with eqLocal := [], eqRemote := [] } s t ∧ RegsBut [(.binorStat, p)] s t ∧ Only [.regs, .links, .out] s t) ∧
    (∀ os, os.crcOk = false → exec (.orderedSetReceived p os) s = .next s) ∧
    (∀ os lane, os.crcOk = true → s.chip.portIn p = true → s.chip.linkState p = 4 → os.kind = 2 → os.lane = lane → lane < 2 →
      s.chip.flag F.BINOR_STAT_RX_X1 p = true → s.chip.fld F.BINOR_STAT_RX_LANE p = lane → mget 0 l.ts2 lane = 7 → Gives (.orderedSetReceived p os) s fun t =>
        Trains p 5 l s t ∧ RegsBut [(.binorStat, p)] s t ∧ Only [.regs, .links, .out] s t) ∧
    (∀ os, os.crcOk = true → s.chip.portIn p = true → s.chip.linkState p = 5 → os.kind = 3 → l.cfg = [os.brId, os.brCap, os.brInc, os.nextRx, os.chunkLen] →
      l.cfgSeen = 3 → bitsOf os.brId 15 8 = 1 → l.full = false → os.brInc = s.chip.fld F.BINOR_BRID_INC p → os.nextRx = l.txSeq → l.sendQ = [] →
      Gives (.orderedSetReceived p os) s fun t =>
        t.chip.linkActive p = true ∧ LinkIs p { l with
          cfgSeen := 4, held := [], ackAt := s.chip.now, discarding := false, notice := none, hist := [], since := s.chip.now } s t ∧
        t.chip.fld F.BINOR_BRCAP_CAP p = os.brCap % 2 ^ 32 ∧
        RegsBut [(.binorStat, p), (.binorBrid, p), (.binorBrcap, p), (.evrecStat, 0)] s t ∧ Only [.regs, .links, .ev] s t) ∧
    (1 ≤ s.chip.linkState p → s.chip.linkState p ≤ 5 → l.full = true →
      (l.attempts < 3 → Gives (.trainingStateTimeout p) s fun t =>
        Trains p 1 { l with attempts := l.attempts + 1 } s t ∧ t.chip.fld F.BINOR_STAT_FAIL_STATE p = s.chip.linkState p ∧
        t.chip.now = max s.chip.now (l.since + trainLimit (s.chip.linkState p) true) ∧
        RegsBut [(.binorStat, p)] s t ∧ Only [.regs, .links, .out, .now] s t) ∧
      (3 ≤ l.attempts → Gives (.trainingStateTimeout p) s fun t =>
        t.chip.linkState p = 0 ∧ t.chip.fld F.BINOR_STAT_FAIL_STATE p = s.chip.linkState p ∧ Posts (srcBinor p) 0xB006 [p, s.chip.linkState p] s t ∧
        t.chip.now = max s.chip.now (l.since + trainLimit (s.chip.linkState p) true) ∧
        RegsBut [(.binorStat, p), (.evrecStat, 0)] s t ∧ Only [.regs, .ev, .now] s t)) ∧
    (s.chip.linkActive p = true → (∀ e ∈ s.chip.m.dies, memberOf e.1 = p → e.2.susp = none ∧ e.2.queue = [] ∧ e.2.posted = []) → Gives (.park p) s fun t =>
      LinkIs p { l with parking := true } s t ∧ Only [.links] s t) ∧
    (s.chip.linkActive p = false → exec (.park p) s = .next s) ∧
    (l.parking = true → l.held = [] → Gives (.parkComplete p) s fun t =>
      LinkIs p { l with parking := false, timers := false } s t ∧ t.chip.linkState p = 0 ∧ t.chip.flag F.BINOR_STAT_PARKED p = true ∧
      Sends [.link p linkIdle 0] s t ∧ Posts (srcBinor p) 0xB00A [p] s t ∧
      RegsBut [(.binorStat, p), (.evrecStat, 0)] s t ∧ Only [.regs, .links, .out, .ev] s t)

/-- What a bridge answers, nothing put down for memory (R254 to R257, R264, R267, R282, R311): CMP OK goes on with the operation and returns its credits, a
captured cycle is kept, a BRIDGE_REG read ends with its completion in firmware's queue; a heartbeat sets its time, one is sent with its count; 1,500 µs
without one lose the member. -/
def Obligations.BridgesAnswer : Prop :=
  ∀ (s : State) (p : Nat) (l : Link), p < 36 → l = s.chip.link p → s.chip.wr = [] →
    (∀ tag f i o cycles, (l.frames.find? fun f => f.tag == tag && f.ftype == 1) = some f → (l.frames.find? (·.tag == tag)) = some f → f.op = some i →
      s.chip.op i = some o → o.rt = .read →
      (f.kind = .sense → cycles ≠ 0 → l.sendQ = [] → Gives (.cmpReceived p tag 0 [] cycles) s fun t =>
        t.chip.op i = some { o with phase := .poll } ∧ (∀ j, j ≠ i → t.chip.op j = s.chip.op j) ∧ LinkIs p (l.without f) s t ∧ Only [.m, .links] s t) ∧
      (∀ idx bytes, Gives (.dataRReceived p tag idx bytes) s fun t =>
        t.chip.op i = some { o with raw := pset o.raw idx bytes } ∧ (∀ j, j ≠ i → t.chip.op j = s.chip.op j) ∧ Only [.m] s t)) ∧
    (∀ tag f i o data desc flags a, (l.frames.find? fun f => f.tag == tag && (f.ftype == 3 || f.ftype == 4)) = some f →
      (l.frames.find? (·.tag == tag)) = some f → f.op = some i → s.chip.op i = some o → o.rt = .bridgeReg → o.param = 0 →
      o.purpose = .firmware p desc flags → memberOf o.die = p → bitOf flags 0 = false → l.sendQ = [] → s.chip.z.ledger.opQ = [] →
      s.chip.z.ledger.commitQ = [] → s.chip.m.sluice.q1 = [] → s.chip.m.sluice.qb = [] → (s.chip.die o.die).queue = [] → (s.chip.die o.die).susp = none →
      a = s.chip.fld F.SEQ_FCQ_BASE p * 4096 + 32 * s.chip.fld F.SEQ_FCQ_PTR_TAIL p → Gives (.regRspReceived p tag 0 data) s fun t =>
        t.chip.op i = none ∧ LinkIs p (l.without f) s t ∧ readNum t a 4 = desc % 2 ^ 32 ∧ readNum t (a + 20) 4 = data % 2 ^ 32 ∧ MemBut a 32 s t ∧
        t.chip.fld F.SEQ_FCQ_PTR_TAIL p = (s.chip.fld F.SEQ_FCQ_PTR_TAIL p + 1) % s.chip.fdqSize p ∧
        RegsBut [(.seqFcqPtr, p), (.seqStat, p)] s t ∧ OnlyMem [.m, .z, .regs, .links] s t) ∧
    (s.chip.linkActive p = true →
      (∀ status, bitOf status 10 = false → Gives (.hbReceived p status) s fun t =>
        LinkIs p { l with hbAt := s.chip.now } s t ∧
        t.chip.fld F.BINOR_ERR2_HB_GAP_MAX p = max (min 255 ((s.chip.now - l.hbAt) / us 100)) (s.chip.fld F.BINOR_ERR2_HB_GAP_MAX p) ∧
        RegsBut [(.binorErr2, p)] s t ∧ Only [.regs, .links] s t) ∧
      (l.timers = true → l.parking = false → l.sendQ = [] → l.held.length + 1 ≤ 512 → Gives (.hbSend p) s fun t =>
        (∃ tag, Sends [.frame p 5 tag [l.hbOut, 0]] s t) ∧ (t.chip.link p).hbOut = (l.hbOut + 1) % 2 ^ 32 ∧ (t.chip.link p).sendQ = [] ∧
        (t.chip.link p).held = l.held ++ [⟨seqAdd l.txSeq 0, 0, s.chip.now⟩] ∧ (t.chip.link p).frames = l.frames ∧
        (∀ q, q ≠ p → t.chip.link q = s.chip.link q) ∧ Only [.links, .out] s t)) ∧
    (l.timers = true → s.chip.linkState p ≠ 7 → Gives (.hbTimeout p) s fun t =>
      t.chip.linkState p = 7 ∧ t.chip.flag F.BINOR_STAT_LOST p = true ∧ t.chip.fld F.BINOR_STAT_LOST_CAUSE p = 1 ∧ (t.chip.link p).timers = false ∧
      t.chip.now = max s.chip.now (l.hbAt + us 1500) ∧ Posts (srcBinor p) 0xB005 [p, 1] s t ∧
      OnlyMem [.now, .m, .z, .ev, .regs, .intake, .out, .fns, .slices, .pwr, .links, .xts] s t) ∧
    (l.timers = false → exec (.hbTimeout p) s = .next s)

/-! Sequencers -/

/-- The routines (R276, R281, R285 to R288, R298, R303 to R306), for an operation the checks of R283 let through: its first frame is with the link of its
member; a program takes its wordline with it, an erase waits for its ERASE_START record, a new one or the last one where its items have room. An operation that is not posted is not taken. -/
def Obligations.RoutinesStart : Prop :=
  ∀ (s : State) (i : Nat) (o : Op), s.chip.wr = [] → (s.chip.link (memberOf o.die)).sendQ = [] →
    (∀ c ∈ [Instr.routineRead i, .routineReadRetry i, .routineSoftRead i, .routineProgramQlc i, .routineProgramSlc i, .routineErase i, .routineSuspend i,
      .routineResume i, .routineStatus i, .routineParamSet i, .routineDieIdentify i, .routineBridgeReg i],
      s.chip.op i = some o → o.stage ≠ .posted → exec c s = .next s) ∧
    (Taken s.chip i o →
      (∀ c rt, (c, rt) ∈ [(Instr.routineRead i, Routine.read), (.routineReadRetry i, .readRetry), (.routineSoftRead i, .softRead)] → o.rt = rt →
        Gives c s fun t =>
          OpIs i { o with stage := .running, phase := .start, started := true, runAt := s.chip.now } s t ∧ Framed (memberOf o.die) i 1 .sense t ∧
          Only [.m, .links, .out] s t) ∧
      (∀ c rt k, (c, rt, k) ∈ [(Instr.routineSuspend i, Routine.suspend, FrameKind.sense), (.routineResume i, .resume, .sense),
        (.routineParamSet i, .paramSet, .sense)] → o.rt = rt → Gives c s fun t =>
          OpIs i { o with stage := .running, phase := .start } s t ∧ Framed (memberOf o.die) i 1 k t ∧ Only [.m, .links, .out] s t) ∧
      (o.rt = .status → Gives (.routineStatus i) s fun t =>
        OpIs i { o with stage := .running, phase := .poll } s t ∧ Framed (memberOf o.die) i 1 .poll t ∧ Only [.m, .links, .out] s t) ∧
      (o.rt = .dieIdentify → Gives (.routineDieIdentify i) s fun t =>
        OpIs i { o with stage := .running, phase := .poll, runAt := s.chip.now } s t ∧ Framed (memberOf o.die) i 1 .poll t ∧
        Only [.m, .links, .out] s t) ∧
      (o.rt = .bridgeReg → Gives (.routineBridgeReg i) s fun t =>
        OpIs i { o with stage := .running, phase := .start } s t ∧ Framed (memberOf o.die) i (if o.param = 0 then 3 else 4) .reg t ∧
        Only [.m, .links, .out] s t) ∧
      (∀ c rt, (c, rt) ∈ [(Instr.routineProgramQlc i, Routine.programQlc), (.routineProgramSlc i, .programSlc)] → o.rt = rt → Gives c s fun t =>
        OpIs i { o with
          stage := .running, phase := if rt = .programSlc then .start else .data 1, started := o.started || decide (rt = .programSlc),
          runAt := if rt = .programSlc then s.chip.now else o.runAt } s t ∧
        Framed (memberOf o.die) i 1 (if rt = .programSlc then .start else .din) t ∧
        t.chip.bst o.die o.block = { s.chip.bst o.die o.block with ptr := o.wl + 1, st := if o.wl + 1 ≥ 384 then .full else .opened } ∧
        Only [.m, .z, .links, .out] s t) ∧
      (∀ r, o.rt = .erase → s.chip.z.journal.used + 64 ≤ 0x4000 →
        (o.purpose = .blockErase r ∨ ∃ p k, o.purpose = .poolErase p k ∧ r = if (s.chip.bst o.die o.block).st = .incomplete then 3 else 1) →
        Gives (.routineErase i) s fun t =>
          OpIs i { o with stage := .journal } s t ∧ t.chip.bst o.die o.block = s.chip.bst o.die o.block ∧
          ((∀ x ∈ s.chip.z.journal.opened.getLast?, ∀ is, x.body ≠ .eraseStart is) →
            Journals 0 (s.chip.fld F.CONF_SEQ_NEXT) (.eraseStart [⟨o.die, o.block, (s.chip.bst o.die o.block).count + 1, o.pslc, r⟩]) [.erase i] s t ∧
            t.chip.fld F.CONF_SEQ_NEXT = (s.chip.fld F.CONF_SEQ_NEXT + 1) % 2 ^ 64) ∧
          (∀ x is, s.chip.z.journal.opened.getLast? = some x → x.body = .eraseStart is → x.nsid = 0 → is.length < 32 →
            t.chip.z.journal = { s.chip.z.journal with
              opened := s.chip.z.journal.opened.dropLast ++
                [{ x with body := .eraseStart (is ++ [⟨o.die, o.block, (s.chip.bst o.die o.block).count + 1, o.pslc, r⟩]) }]
              waits := s.chip.z.journal.waits ++ [(x.jsn, .erase i)] } ∧
            t.chip.fld F.CONF_SEQ_NEXT = s.chip.fld F.CONF_SEQ_NEXT) ∧
          RegsBut [(.seqCnt2, memberOf o.die), (.confSeq, 0)] s t ∧ Only [.m, .z, .regs] s t))

/-- Firmware's queues (R273 to R275, R277, R283), nothing put down for memory: the pointers firmware writes; an entry is read only while the FDQ holds one
and the FCQ has room; one of an unknown routine is refused into the FCQ, one that passes the checks becomes an operation of its die. -/
def Obligations.FirmwareQueues : Prop :=
  ∀ (s : State) (p : Nat), p < 36 → s.chip.wr = [] →
    (∀ v, Gives (.fdqTailWrite p v) s fun t => t.chip.fld F.SEQ_FDQ_PTR_TAIL p = v % 4096 ∧
      t.chip.fld F.SEQ_FDQ_PTR_HEAD p = s.chip.fld F.SEQ_FDQ_PTR_HEAD p ∧ RegsBut [(.seqFdqPtr, p)] s t ∧ Only [.regs] s t) ∧
    (∀ v, Gives (.fcqHeadWrite p v) s fun t => t.chip.fld F.SEQ_FCQ_PTR_HEAD p = v % 4096 ∧
      t.chip.fld F.SEQ_FCQ_PTR_TAIL p = s.chip.fld F.SEQ_FCQ_PTR_TAIL p ∧ t.chip.flag F.SEQ_STAT_FCQ_FULL p = t.chip.fcqFull p ∧
      RegsBut [(.seqFcqPtr, p), (.seqStat, p)] s t ∧ Only [.regs] s t) ∧
    (∀ head, head = s.chip.fld F.SEQ_FDQ_PTR_HEAD p % s.chip.fdqSize p →
      (s.chip.flag F.SEQ_CTL_FDQ_EN p = false ∨ head = s.chip.fld F.SEQ_FDQ_PTR_TAIL p % s.chip.fdqSize p ∨ s.chip.fcqFull p = true →
        exec (.fdqEntryRead p) s = .next s) ∧
      (∀ b, s.chip.flag F.SEQ_CTL_FDQ_EN p = true → s.chip.flag F.SEQ_CTL_EN p = true → head ≠ s.chip.fld F.SEQ_FDQ_PTR_TAIL p % s.chip.fdqSize p →
        s.chip.fcqFull p = false → b = readBytes s (s.chip.fld F.SEQ_FDQ_BASE p * 4096 + 64 * head) 64 →
        (∀ a, routineOf (numAt b 0 1) = none → bitOf (numAt b 2 2) 0 = false →
          a = s.chip.fld F.SEQ_FCQ_BASE p * 4096 + 32 * s.chip.fld F.SEQ_FCQ_PTR_TAIL p → Gives (.fdqEntryRead p) s fun t =>
            t.chip.fld F.SEQ_FDQ_PTR_HEAD p = (head + 1) % s.chip.fdqSize p ∧ readNum t a 4 = numAt b 4 4 ∧ readNum t (a + 5) 1 = 0x10 ∧
            MemBut a 32 s t ∧ t.chip.fld F.SEQ_FCQ_PTR_TAIL p = (s.chip.fld F.SEQ_FCQ_PTR_TAIL p + 1) % s.chip.fdqSize p ∧
            t.chip.fld F.SEQ_CNT_REJECT p = satAdd 16 (s.chip.fld F.SEQ_CNT_REJECT p) 1 ∧ Posts (srcSeq p) 0x300B [p, 1, 0x10] s t ∧
            RegsBut [(.seqFdqPtr, p), (.seqFcqPtr, p), (.seqStat, p), (.seqCnt, p), (.evrecStat, 0)] s t ∧ OnlyMem [.regs, .ev, .m] s t) ∧
        (∀ rt, routineOf (numAt b 0 1) = some rt → rt.charged = true → s.chip.descOk p (descOp p rt b) b = true →
          s.chip.descPermitted (descOp p rt b) = true → s.chip.memberLost p = false → (s.chip.die (descOp p rt b).die).faulted = false →
          Gives (.fdqEntryRead p) s fun t =>
            t.chip.fld F.SEQ_FDQ_PTR_HEAD p = (head + 1) % s.chip.fdqSize p ∧ t.chip.m.nextOp = s.chip.m.nextOp + 1 ∧
            (∃ o, OpIs s.chip.m.nextOp o s t ∧ o.rt = rt ∧ o.stage = .created ∧ o.die = p * 128 + numAt b 9 1 % 8 * 16 + numAt b 10 1 % 16 ∧
              o.block = numAt b 12 2 ∧ o.wl = numAt b 14 2 ∧ o.purpose = .firmware p (numAt b 4 4) (numAt b 2 2)) ∧
            RegsBut [(.seqFdqPtr, p)] s t ∧ Only [.regs, .m] s t)))

/-- STATUS_POLL_TIMER and FRAME_TIMEOUT (R285, R309): a poll follows the nominal time while the busy limit is not passed; a frame whose starting cycle is
lost is counted and its operation polled. SET_OWNER, MARK_BAD and DIE_CLEAR (R290, R293, R310) with their results. -/
def Obligations.SequencersWatchDies : Prop :=
  ∀ s : State, s.chip.wr = [] →
    (∀ i o, s.chip.op i = some o → o.stage = .running → o.phase = .poll → (o.rt.isRead || o.rt.isProgram || o.rt == .erase) = true → o.started = true →
      (∀ x, o.purpose ≠ .suspendOf x) → (∀ f ∈ (s.chip.link (memberOf o.die)).frames, f.op ≠ some i) → (s.chip.link (memberOf o.die)).sendQ = [] →
      o.ran + (max s.chip.now (o.runAt + (s.chip.nominal o - o.ran)) - o.runAt) ≤ s.chip.busyMax o → Gives (.statusPollTimer i) s fun t =>
        Framed (memberOf o.die) i 1 .poll t ∧ t.chip.now = max s.chip.now (o.runAt + (s.chip.nominal o - o.ran)) ∧ Only [.links, .out, .now] s t) ∧
    (∀ i o, s.chip.op i = some o → o.stage ≠ .running → exec (.statusPollTimer i) s = .next s) ∧
    (∀ p tag f i o, p < 36 → ((s.chip.link p).frames.find? fun f => f.tag == tag && f.ftype == 1) = some f →
      ((s.chip.link p).frames.find? (·.tag == tag)) = some f → f.op = some i → s.chip.op i = some o → f.kind = .start → (s.chip.link p).sendQ = [] →
      Gives (.frameTimeout p tag) s fun t =>
        OpIs i { o with phase := .poll, step := 1 } s t ∧ LinkIs p ((s.chip.link p).without f) s t ∧
        t.chip.now = max s.chip.now (f.sentAt + us (max 50 (s.chip.fld F.SEQ_TMO_FRAME_US p))) ∧
        t.chip.fld F.SEQ_CNT2_FRAME_LOST p = satAdd 16 (s.chip.fld F.SEQ_CNT2_FRAME_LOST p) 1 ∧ Posts (srcSeq p) 0x3009 [p, tag, 1] s t ∧
        RegsBut [(.seqCnt2, p), (.evrecStat, 0)] s t ∧ Only [.links, .m, .regs, .ev, .now] s t) ∧
    (∀ die block owner, die < 4608 → block < 65536 → owner < 16 → Gives (.setOwner die block owner) s fun t =>
      (block ≥ s.chip.blocks ∨ owner > 6 → t.chip.fld F.SEQ_BSTCMD_RESULT (memberOf die) = 2 ∧ t.chip.m = s.chip.m ∧ t.chip.z = s.chip.z) ∧
      (block < s.chip.blocks → owner ≤ 6 → (s.chip.bst die block).st ≠ .erased → (s.chip.bst die block).st ≠ .incomplete →
        t.chip.fld F.SEQ_BSTCMD_RESULT (memberOf die) = 1 ∧ t.chip.m = s.chip.m ∧ t.chip.z = s.chip.z) ∧
      (block < s.chip.blocks → owner ≤ 6 → ((s.chip.bst die block).st = .erased ∨ (s.chip.bst die block).st = .incomplete) →
        t.chip.fld F.SEQ_BSTCMD_RESULT (memberOf die) = 0 ∧ t.chip.bst die block = { s.chip.bst die block with owner := owner } ∧
        ∀ k, k ≠ bkey die block → pget t.chip.m.bst k = pget s.chip.m.bst k) ∧
      RegsBut [(.seqBstcmd, memberOf die)] s t ∧ Only [.m, .z, .regs] s t) ∧
    (∀ die block, die < 4608 → block < s.chip.blocks → Gives (.markBad die block) s fun t =>
      ((s.chip.bst die block).st = .factoryBad ∨ (s.chip.bst die block).st = .erasing →
        t.chip.fld F.SEQ_BSTCMD_RESULT (memberOf die) = 1 ∧ t.chip.m = s.chip.m ∧ t.chip.z = s.chip.z) ∧
      ((s.chip.bst die block).st ≠ .factoryBad → (s.chip.bst die block).st ≠ .erasing →
        t.chip.fld F.SEQ_BSTCMD_RESULT (memberOf die) = 0 ∧ t.chip.bst die block = { s.chip.bst die block with st := .grownBad } ∧
        t.chip.m.defects = s.chip.m.defects ++ [⟨die, block, 3, s.chip.stamp⟩]) ∧
      RegsBut [(.seqBstcmd, memberOf die)] s t ∧ Only [.m, .z, .regs] s t) ∧
    (∀ die, die < 4608 → Gives (.dieClear die) s fun t =>
      ((s.chip.die die).identifying = true → t.chip.m = s.chip.m) ∧
      ((s.chip.die die).identifying = false → t.chip.die die = { s.chip.die die with
          identifying := true, posted := (s.chip.die die).posted ++ [s.chip.m.nextOp] } ∧
        ∃ o, OpIs s.chip.m.nextOp o s t ∧ o.rt = .dieIdentify ∧ o.die = die ∧ o.purpose = .dieClear ∧ o.stage = .posted) ∧
      RegsBut [(.seqDieclr, memberOf die)] s t ∧ Only [.m, .regs] s t)

/-! Temperature, the reservoir and the supply's balls -/

/-- Temperatures and what follows them (R266, R481, R484, R487): a TEMP frame sets the nine sensors of its port, 300 ms without one clears them; a die
sample sets value and validity; an unwatched fan is forced; two islands apart for two samples are clamped, and still apart 1 ms later restart the part. -/
def Obligations.TemperaturesAndFan : Prop :=
  ∀ s : State,
    (∀ p mask values alarm, p < 36 → Gives (.tempReceived p mask values alarm) s fun t =>
      (∀ i, i < 9 → t.chip.flag F.BINOR_TEMP_VALID (p * 9 + i) = bitOf mask i ∧
        t.chip.flag F.BINOR_TEMP_ALARM (p * 9 + i) =
          (bitOf mask i && decide (signed16 (s.chip.link p).talarm ≤ signed16 (values.getD i 0))) ∧
        t.chip.fld F.BINOR_TEMP_VALUE (p * 9 + i) =
          if bitOf mask i then values.getD i 0 % 65536 else s.chip.fld F.BINOR_TEMP_VALUE (p * 9 + i)) ∧
      (∀ k, k < 324 → k / 9 ≠ p → t.chip.reg .binorTemp k = s.chip.reg .binorTemp k) ∧ LinkIs p { s.chip.link p with tempAt := s.chip.now } s t ∧
      (∀ k, alarm = true → k < 9 → t.chip.flag F.BINOR_TEMP_ALARM (p * 9 + k) = true → s.chip.flag F.BINOR_TEMP_ALARM (p * 9 + k) = false →
        (∀ j, j < k → t.chip.flag F.BINOR_TEMP_ALARM (p * 9 + j) = true → s.chip.flag F.BINOR_TEMP_ALARM (p * 9 + j) = true) →
        Posts (srcBinor p) 0xB008 [p, k, values.getD k 0 % 65536] s t) ∧
      Only [.m, .fns, .intake, .supply, .regs, .ev, .pwr, .out, .links] s t) ∧
    (∀ p, p < 36 → (s.chip.link p).timers = true → Gives (.tempStale p) s fun t =>
      (∀ i, i < 9 → t.chip.flag F.BINOR_TEMP_VALID (p * 9 + i) = false) ∧
      (∀ k, k < 324 → k / 9 ≠ p → t.chip.reg .binorTemp k = s.chip.reg .binorTemp k) ∧
      t.chip.now = max s.chip.now ((s.chip.link p).tempAt + ms 300) ∧ Posts (srcBinor p) 0xB009 [p] s t ∧
      Only [.m, .fns, .intake, .supply, .regs, .ev, .pwr, .out, .now] s t) ∧
    (∀ p, (s.chip.link p).timers = false → exec (.tempStale p) s = .next s) ∧
    (∀ values : List Int, values.length = 8 → Gives (.dieSensorSample values) s fun t =>
      (∀ i v, i < 8 → values[i]? = some v → t.chip.fld F.RESV_DTS_VALUE i = (v % 65536).toNat ∧
        t.chip.flag F.RESV_DTS_VALID i = (decide (-160 ≤ v ∧ v ≤ 600) &&
          ((pget s.chip.supply.samples i).all fun o => decide (v - o ≤ 40 ∧ o - v ≤ 40))) ∧
        pget t.chip.supply.samples i = some v) ∧
      t.chip.now = max s.chip.now (s.chip.supply.sampleAt + ms 1) ∧ t.chip.supply.sampleAt = t.chip.now ∧
      Only [.supply, .ev, .regs, .fns, .intake, .pwr, .out, .m, .z, .slices, .xts, .ports, .now] s t) ∧
    (Gives .fanWatchdogExpiry s fun t =>
      t.chip.flag F.RESV_FAN_FORCED = true ∧ t.chip.fld F.RESV_FAN_DUTY = s.chip.fld F.RESV_FAN_DUTY ∧
      t.chip.now = max s.chip.now (s.chip.supply.fanAt + ms (max 1 (s.chip.fld F.RESV_FAN_WDOG_MS))) ∧
      (s.chip.flag F.RESV_FAN_FORCED = false → Posts srcResv 0xA009 [0] s t) ∧ RegsBut [(.resvFan, 0), (.evrecStat, 0)] s t ∧
      Only [.now, .regs, .ev] s t) ∧
    (∀ duty, Gives (.fanDutyWrite duty) s fun t =>
      t.chip.fld F.RESV_FAN_DUTY = duty % 256 ∧ t.chip.flag F.RESV_FAN_FORCED = (s.chip.flag F.RESV_FAN_FORCED && s.chip.fanCause.isSome) ∧
      t.chip.supply = { s.chip.supply with fanAt := s.chip.now } ∧ RegsBut [(.resvFan, 0)] s t ∧ Only [.regs, .supply] s t) ∧
    (∀ (mv : List Nat) u, mv.length = 7 → u = { s.chip.supply with
        islandAt := max s.chip.now (s.chip.supply.islandAt + us 10), islands := mv.zipIdx.map fun (x : Nat × Nat) => (x.2, x.1) } → s.chip.supply.clamp = none →
      Gives (.islandVoltageSample mv) s fun t =>
        t.chip.fld F.RESV_DIFF_DV_MAX_MV =
          max ((adjacentIslands.map u.islandDiff).max?.getD 0) (s.chip.fld F.RESV_DIFF_DV_MAX_MV) % 65536 ∧
        t.chip.supply.apart = (adjacentIslands.filter fun p => decide (u.islandDiff p > 120)) ∧
        t.chip.supply.islands = u.islands ∧ t.chip.now = u.islandAt ∧
        (∀ p, (t.chip.supply.apart.find? fun (p : Nat × Nat) => s.chip.supply.apart.contains p) = some p →
          t.chip.supply.clamp = some (p.1, p.2, t.chip.now) ∧ t.chip.flag F.RESV_DIFF_DV_CLAMP = true ∧
          Posts srcResv 0xA00B [p.1, p.2, u.islandDiff p] s t) ∧
        ((t.chip.supply.apart.find? fun (p : Nat × Nat) => s.chip.supply.apart.contains p) = none → t.chip.supply.clamp = none) ∧
        RegsBut [(.resvDiff, 0), (.evrecStat, 0)] s t ∧ Only [.ev, .regs, .supply, .now] s t) ∧
    (∀ a b t0, s.chip.supply.clamp = some (a, b, t0) →
      (s.chip.supply.islandDiff (a, b) > 120 → s.chip.supplied → Gives .islandClampTimeout s fun t => Restarted 4 s t) ∧
      (s.chip.supply.islandDiff (a, b) ≤ 120 → exec .islandClampTimeout s = .next s)) ∧
    (s.chip.supply.clamp = none → exec .islandClampTimeout s = .next s)

/-- The reservoir (R474 to R477, R491), nothing waiting at the ledger: usable energy follows the bank's voltage; a test starts with the largest drop that
fits or fails; V0, V1 with the ESR, then the capacitance and the verdict; charging, its timeout and a sag. An ESR without current and a capacitance
without a drop are free values. -/
def Obligations.ReservoirAndTest : Prop :=
  ∀ s : State, s.chip.z.ledger.opQ = [] → s.chip.z.ledger.commitQ = [] →
    (∀ v, v < 65536 → s.chip.supply.lowered = none → s.chip.supply.test = none → Gives (.reservoirEnergyUpdate v) s fun t =>
      t.chip.fld F.RESV_RSTAT_VRES_10MV = v ∧ t.chip.z.ledger.eUse = s.chip.usableUj (v * 1000) ∧
      t.chip.fld F.RESV_RSTAT_E_NOW_MJ = min (s.chip.usableUj (v * 1000) / 1000) 65535 ∧
      t.chip.flag F.RESV_RSTAT_CHARGED = (s.chip.flag F.RESV_RSTAT_CHARGED && decide (s.chip.fld F.RESV_RCFG_VCHG_10MV * 99 ≤ v * 100)) ∧
      t.chip.now = max s.chip.now (s.chip.supply.energyAt + us 100) ∧
      t.chip.supply = { s.chip.supply with energyAt := t.chip.now } ∧ RegsBut [(.resvRstat, 0), (.evrecStat, 0)] s t ∧
      Only [.z, .regs, .ev, .supply, .now] s t) ∧
    (∀ c drop, (c = Instr.testNow ∨ (c = .reservoirTestStart ∧ s.chip.supply.owed.isSome = true ∧ s.chip.flag F.RESV_RSTAT_CHARGED = true)) →
      s.chip.supply.test = none → s.chip.supply.held = false → s.chip.warned = false → s.chip.z.ledger.pfCommit = false →
      drop = (if s.chip.flag F.RESV_TRES_VALID then Chip.fitDrop 140 s.chip.testDrop s.chip else some s.chip.testDrop) →
      (∀ d, drop = some d → Gives c s fun t =>
        t.chip.flag F.RESV_RSTAT_TESTING = true ∧ t.chip.supply.lowered = some d ∧
        (∃ x, t.chip.supply.test = some x ∧ x.drop = d ∧ (x.step = 1 ∨ x.step = 2) ∧
          (s.chip.flag F.RESV_TRES_VALID = false → x.step = 2) ∧ (x.step = 2 → t.chip.supply.resChg = false ∧ t.chip.supply.owed = none)) ∧
        RegsBut [(.resvRstat, 0), (.evrecStat, 0)] s t ∧ Only [.z, .regs, .ev, .supply] s t) ∧
      (drop = none → Gives c s fun t =>
        t.chip.flag F.RESV_TRES_PASS = false ∧ bitOf t.chip.supply.smart 4 = true ∧ t.chip.supply.test = none ∧ t.chip.supply.owed = none ∧
        Posts srcResv 0xA004 [0] s t ∧ RegsBut [(.resvTres, 0), (.evrecStat, 0)] s t ∧ Only [.fns, .intake, .supply, .regs, .ev, .out] s t)) ∧
    (s.chip.supply.owed.isSome = true → s.chip.flag F.RESV_RSTAT_CHARGED = false → exec .reservoirTestStart s = .next s) ∧
    (s.chip.supply.test.isSome = true ∨ s.chip.warned = true ∨ s.chip.supply.held = true → exec .testNow s = .next s) ∧
    (∀ x v0, s.chip.supply.test = some x → x.step = 2 → Gives (.testV0Sample v0) s fun t =>
      t.chip.flag F.RESV_RSTAT_SWITCHED_IN = true ∧ t.chip.now = max s.chip.now (x.at_ + ms 1) ∧
      t.chip.supply = { s.chip.supply with test := some { x with step := 3, at_ := t.chip.now, v0 := v0 } } ∧
      RegsBut [(.resvRstat, 0)] s t ∧ Only [.supply, .now, .regs] s t) ∧
    (∀ x v1 i1, s.chip.supply.test = some x → x.step = 3 → Gives (.testEsrSample v1 i1) s fun t =>
      t.chip.now = max s.chip.now (x.at_ + us 20) ∧ t.chip.supply = { s.chip.supply with test := some { x with
        step := 4, at_ := t.chip.now, v1 := v1
        esr := if i1 = 0 then (Config.freeValue s.chip.fresh).toNat % 65536 else min 65535 ((x.v0 - v1) * 10000 / i1) } } ∧
      t.chip.fresh = s.chip.fresh + 1 ∧ Only [.supply, .fresh, .now] s t) ∧
    (∀ x charge v cap, s.chip.supply.test = some x → x.step = 4 → x.esr < 65536 →
      cap = (if x.v1 ≤ v then (Config.freeValue s.chip.fresh).toNat % 2 ^ 32 else min (2 ^ 32 - 1) (charge * 1000 / (x.v1 - v))) →
      Gives (.testIntegrationEnd charge v) s fun t =>
        t.chip.fld F.RESV_TRES_C_UF = cap ∧ t.chip.fld F.RESV_TRES_ESR = x.esr ∧ t.chip.flag F.RESV_TRES_VALID = true ∧
        t.chip.flag F.RESV_TRES_PASS = (decide (max 6000 (s.chip.fld F.RESV_RCFG2_EMIN_MJ) ≤ t.chip.fld F.RESV_RSTAT_E_FULL_MJ) &&
          decide (x.esr ≤ s.chip.fld F.RESV_RCFG2_ESR_MAX_MOHM * 10)) ∧
        bitOf t.chip.supply.smart 4 = !(t.chip.flag F.RESV_TRES_PASS) ∧ t.chip.flag F.RESV_RSTAT_TESTING = false ∧ t.chip.supply.test = none ∧
        t.chip.supply.resChg = true ∧ t.chip.fld F.RESV_TTIME_TIME = s.chip.opTime % 2 ^ 32 ∧
        t.chip.flag F.RESV_RSTAT_SWITCHED_IN = (s.chip.warned && s.chip.flag F.RESV_RSTAT_SWITCHED_IN) ∧
        (t.chip.flag F.RESV_TRES_PASS = true → Posts srcResv 0xA003 [cap, x.esr, t.chip.fld F.RESV_RSTAT_E_FULL_MJ, x.v1 - v] s t) ∧
        RegsBut [(.resvTres, 0), (.resvTtime, 0), (.resvRstat, 0), (.evrecStat, 0)] s t ∧
        Only [.fns, .intake, .supply, .regs, .ev, .z, .out, .fresh] s t) ∧
    (Gives .bankCharged s fun t =>
      t.chip.flag F.RESV_RSTAT_CHARGED = true ∧ t.chip.flag F.RESV_RSTAT_CHG_FAULT = false ∧ t.chip.supply.chgFrom = none ∧
      t.chip.supply.lowered = (if s.chip.supply.test.isSome then s.chip.supply.lowered else none) ∧
      t.chip.supply.owed = (s.chip.supply.owed.map fun _ => s.chip.opTime) ∧ RegsBut [(.resvRstat, 0), (.evrecStat, 0)] s t ∧
      Only [.z, .regs, .ev, .supply] s t) ∧
    (∀ t0, s.chip.supply.chgFrom = some t0 → Gives .chargeTimeout s fun t =>
      t.chip.flag F.RESV_RSTAT_CHG_FAULT = true ∧ t.chip.supply = { s.chip.supply with chgFrom := none } ∧
      t.chip.now = max s.chip.now (t0 + seconds (max 1 (s.chip.fld F.RESV_RCFG2_CHG_TMO_S))) ∧ Posts srcResv 0xA005 [0] s t ∧
      RegsBut [(.resvRstat, 0), (.evrecStat, 0)] s t ∧ Only [.supply, .regs, .ev, .now] s t) ∧
    (s.chip.supply.chgFrom = none → exec .chargeTimeout s = .next s) ∧
    (s.chip.flag F.RESV_RSTAT_SWITCHED_IN = false → s.chip.supply.test = none → Gives .bankSag s fun t =>
      t.chip.flag F.RESV_RSTAT_CHG_FAULT = true ∧ t.chip.flag F.RESV_RSTAT_CHARGED = false ∧ Posts srcResv 0xA005 [1] s t ∧
      RegsBut [(.resvRstat, 0), (.evrecStat, 0)] s t ∧ Only [.regs, .ev] s t) ∧
    (s.chip.flag F.RESV_RSTAT_SWITCHED_IN = true ∨ s.chip.supply.test.isSome = true → exec .bankSag s = .next s) ∧
    (s.chip.supply.owed = none → s.chip.supply.test = none → s.chip.supply.overdue = false → s.chip.supply.held = false →
      Gives .reservoirTestOverdue s fun t =>
        t.chip.supply = { s.chip.supply with overdue := true } ∧
        t.chip.now = s.chip.now + (s.chip.supply.nextTest + 4096 - s.chip.opTime) * 3515625000 ∧
        Posts srcResv 0xA006 [s.chip.needMj, s.chip.availMj] s t ∧ RegsBut [(.evrecStat, 0)] s t ∧ Only [.supply, .regs, .ev, .now] s t) ∧
    (s.chip.supply.overdue = true → exec .reservoirTestOverdue s = .next s)

/-- The supply's balls (R470, R471, R561, R562): MAIN_PG low commits the power-fail sequence unless it is committed, and each of the balls restarts the hold
of a held WARM reset. SLUICE_REQUEST and SLUICE_BUDGET_WRITE (R478, R479) with nothing waiting: what fits holds its tokens, what does not waits. -/
def Obligations.SupplyBallsAndSluice : Prop :=
  ∀ s : State,
    (s.chip.supply.windowAt = none → s.chip.warned = true → s.chip.supply.posted = true → Gives .supplyReturn s fun t =>
      t.chip.warned = false ∧ t.chip.fld F.RESV_PFSTAT_MIN_MV = s.chip.fld F.RESV_PFSTAT_MIN_MV ∧
      t.chip.supply = { s.chip.supply with
        holdFrom := if s.chip.supply.held || s.chip.z.ledger.pfCommit then s.chip.now else s.chip.supply.holdFrom } ∧
      RegsBut [(.resvPfstat, 0)] s t ∧ Only [.supply, .regs] s t) ∧
    (s.chip.supply.windowAt.isSome = true → exec .supplyReturn s = .next s) ∧
    (s.chip.supply.mainPg = true →
      (s.chip.supply.held = true → Gives .mainPgFall s fun t =>
        t.chip.supply = { s.chip.supply with mainPg := false, holdFrom := s.chip.now } ∧ Only [.supply] s t) ∧
      (s.chip.supply.held = false → s.chip.z.ledger.pfCommit = true → Gives .mainPgFall s fun t =>
        t.chip.supply = { s.chip.supply with mainPg := false } ∧ Only [.supply] s t) ∧
      (s.chip.supply.held = false → s.chip.z.ledger.pfCommit = false → Gives .mainPgFall s fun t =>
        PowerCommitted s t ∧ t.chip.supply.mainPg = false ∧ t.chip.supply.crossed = true ∧ t.chip.z.ledger.pfAt = s.chip.now ∧
        Only [.supply, .fns, .m, .z, .regs, .out, .ev, .intake, .slices, .xts, .ports] s t) ∧
      exec .mainPgRise s = .next s) ∧
    (s.chip.supply.mainPg = false → exec .mainPgFall s = .next s ∧ Gives .mainPgRise s fun t =>
      t.chip.supply = { s.chip.supply with mainPg := true, holdFrom := if s.chip.supply.held then s.chip.now else s.chip.supply.holdFrom } ∧
      Only [.supply] s t) ∧
    (s.chip.supply.porLow = true → Gives .porLRelease s fun t =>
      t.chip.supply = { s.chip.supply with porLow := false, holdFrom := s.chip.now } ∧ Only [.supply] s t) ∧
    (s.chip.supply.porLow = false → exec .porLRelease s = .next s) ∧
    (s.chip.m.sluice.q1 = [] → s.chip.m.sluice.qb = [] →
      (∀ v, Gives (.sluiceBudgetWrite v) s fun t =>
        t.chip.fld F.SLUICE_BUDGET_FLASH_MW = v % 2 ^ 32 ∧ Posts srcSluice 0xA007 [s.chip.fld F.SLUICE_BUDGET_FLASH_MW, v % 2 ^ 32] s t ∧
        RegsBut [(.sluiceBudget, 0), (.evrecStat, 0)] s t ∧ Only [.regs, .ev] s t) ∧
      (∀ i o r, s.chip.op i = some o → o.stage = .admitted → o.cls ≠ .rt → r = ⟨2 * i, s.chip.tokenCost o, o.cls⟩ →
        (s.chip.tokensFit r none = true → Gives (.sluiceRequest i) s fun t =>
          t.chip.m.sluice = ⟨r :: s.chip.m.sluice.inUse, [], []⟩ ∧ (∃ q, t.chip.op i = some q ∧ q.tokens = r.mw) ∧ Only [.m] s t) ∧
        (s.chip.tokensFit r none = false → Gives (.sluiceRequest i) s fun t =>
          OpIs i { o with stage := .sluice } s t ∧
          t.chip.m.sluice = ⟨s.chip.m.sluice.inUse, if o.cls = .b then [] else [r], if o.cls = .b then [r] else []⟩ ∧
          Only [.m] s t)))

/-! Redundancy -/

/-- POOL_FORM, REBUILD_MEMBER, RETIRE_DIE and REBUILD_ROW (R353, R358, R361, R362, R365): each result code and what the good one does; a rebuild takes one
row at a time: it chooses the slot's block, has it erased if need be, reads the 64 code units of the next row, and ends the slot after the last. -/
def Obligations.PoolsFormAndRebuild : Prop :=
  ∀ s : State,
    (∀ p e res, p < 2 ^ 20 → e = readBytes s (s.chip.fld F.STRIPE_PT_BASE * 4096 + 448 * p) 448 →
      res = s.chip.formResult p e ((readBytes s (s.chip.fld F.STRIPE_LAYOUT_BASE * 4096 + 32 * numAt e 0 2) 18).map BitVec.toNat) →
      Gives (.poolForm p) s fun t =>
        t.chip.fld F.STRIPE_PTCMD_RESULT = res ∧
        (res ≠ 0 → t.chip.m = s.chip.m ∧ t.chip.z = s.chip.z ∧ Posts srcStripe 0x400B [p, res] s t) ∧
        (res = 0 → (∃ q, t.chip.pool p = some q ∧ q.pattern = numAt e 0 2 ∧ q.slots = entrySlots e ∧ q.done = [] ∧
          ((∀ x ∈ entrySlots e, (s.chip.bst x.die x.block).st = .erased ∧ (s.chip.bst x.die x.block).pslc = false) →
            q.ptstate = 1 ∧ t.chip.z.reserve = s.chip.z.reserve ++ [p]) ∧
          ((∃ x ∈ entrySlots e, (s.chip.bst x.die x.block).st ≠ .erased) → q.ptstate = 3 ∧ t.chip.z.eraseQ = s.chip.z.eraseQ ++ [p])) ∧
          ∀ x ∈ entrySlots e, (t.chip.bst x.die x.block).owner = 0) ∧
        RegsBut [(.stripePtcmd, 0), (.evrecStat, 0)] s t ∧ Only [.ev, .regs, .z, .m] s t) ∧
    (∀ m n, m < 64 →
      n = (s.chip.m.pools.map fun e => (e.2.slots.filter fun x => memberOf x.die == m && (x.pstate == 1 || x.pstate == 2)).length).sum →
      Gives (.rebuildMember m) s fun t =>
        t.chip.fld F.STRIPE_RBCMD_RESULT = (if s.chip.fuses.grade = 2 then 3 else if !s.chip.portIn m then 2 else if n = 0 then 1 else 0) ∧
        (t.chip.fld F.STRIPE_RBCMD_RESULT ≠ 0 → t.chip.m = s.chip.m) ∧
        (t.chip.fld F.STRIPE_RBCMD_RESULT = 0 → (m, false) ∉ s.chip.m.jobs →
          t.chip.m.jobs = s.chip.m.jobs ++ [(m, false)] ∧ Posts srcStripe 0x4003 [m, n] s t) ∧
        RegsBut [(.stripeRbcmd, 0), (.evrecStat, 0)] s t ∧ Only [.m, .ev, .regs] s t) ∧
    (∀ die, die < 4608 → Gives (.retireDie die) s fun t =>
      t.chip.fld F.STRIPE_RBCMD_RESULT = (if s.chip.fuses.grade = 2 then 3 else if !s.chip.portIn (memberOf die) then 2 else 0) ∧
      (t.chip.fld F.STRIPE_RBCMD_RESULT ≠ 0 ∨ (s.chip.die die).retired = true → t.chip.m = s.chip.m) ∧
      (t.chip.fld F.STRIPE_RBCMD_RESULT = 0 → (s.chip.die die).retired = false →
        t.chip.die die = { s.chip.die die with retired := true } ∧ t.chip.m.retired = s.chip.m.retired + 1 ∧
        ∀ p q, s.chip.pool p = some q → q.ptstate ≠ 0 →
          t.chip.pool p = some { q with slots := q.slots.map (degradeSlot (fun d => d == die) 2) }) ∧
      RegsBut [(.stripeRbcmd, 0), (.evrecStat, 0)] s t ∧ Only [.m, .ev, .regs, .z] s t) ∧
    (s.chip.m.rbRow.isSome = true ∨ s.chip.rbNext = none → exec .rebuildRow s = .next s) ∧
    (∀ p j crit q x, s.chip.m.rbRow = none → s.chip.rbNext = some (p, j, crit) → s.chip.pool p = some q → q.slots[j]? = some x →
      (x.r = none → s.chip.chooseSpare q = none → Gives .rebuildRow s fun t =>
        t.chip.pool p = some { q with slots := q.slots.modify j fun y => { y with pstate := 4 } } ∧ Posts srcStripe 0x4008 [p, j, 1] s t ∧
        RegsBut [(.evrecStat, 0)] s t ∧ Only [.m, .ev, .regs] s t) ∧
      (∀ d b, x.r = none → s.chip.chooseSpare q = some (d, b) → (s.chip.bst d b).st ≠ .erased → Gives .rebuildRow s fun t =>
        t.chip.pool p = some { q with slots := q.slots.modify j fun y => { y with r := some (d, b), rDone := 0, pstate := 2 } } ∧
        (t.chip.bst d b).owner = 0 ∧ t.chip.m.nextOp = s.chip.m.nextOp + 1 ∧
        (∃ o, OpIs s.chip.m.nextOp o s t ∧ o.rt = .erase ∧ o.die = d ∧ o.block = b ∧ o.purpose = .spareErase p j) ∧ Only [.m] s t) ∧
      (∀ d b, x.r = some (d, b) → (s.chip.bst d b).st ≠ .erasing → (s.chip.bst d b).st ≠ .incomplete → x.rDone < q.goal x →
        (s.chip.rbTokens crit).2 = true → Gives .rebuildRow s fun t =>
          s.chip.m.nextRd + 64 ≤ t.chip.m.nextRd ∧ OnlyMem [.m, .regs, .pwr, .out, .ev, .fns, .intake, .z, .slices] s t ∧ t.mem = s.mem) ∧
      (∀ d b, x.r = some (d, b) → (s.chip.bst d b).st ≠ .erasing → (s.chip.bst d b).st ≠ .incomplete → q.goal x ≤ x.rDone →
        (∀ k ∈ s.chip.m.jobs, ∃ e ∈ s.chip.m.pools, e.1 ≠ p ∧ e.2.ptstate ≠ 0 ∧ ∃ y ∈ e.2.slots,
          (y.pstate = 1 ∨ y.pstate = 2) ∧ (if k.2 then y.die = k.1 else memberOf y.die = k.1)) →
        Gives .rebuildRow s fun t =>
          t.chip.pool p = some { q with slots := q.slots.modify j fun y => { y with pstate := 3 } } ∧ t.chip.m.slotsDone = s.chip.m.slotsDone + 1 ∧
          Only [.m, .z] s t))


/-! Seals, digests and keys -/

/-- Seals (R379, R381, R384 to R387, R389, R393, R394): a lane takes a committed unit while 48 are not at work, its hash joins the chain, and the last of
a full zone stores the seal; recovery recomputes chains; a Seal Query sets the range; a Seal Import that matches waits for a pass; an installed secret waits
for its record. -/
def Obligations.SealsAndTheirCommands : Prop :=
  ∀ s : State,
    (∀ g u ch, ch = (pget s.chip.z.chains g).getD chainReset →
      (s.chip.z.lanes.length < 48 → s.chip.sealKeyOk (s.chip.zone g).nsid = true → (s.chip.unitIn g u).isSome = true → (g, u) ∉ s.chip.z.lanes →
        ch.next ≤ u → pget ch.hs u = none → Gives (.sealAbsorb g u) s fun t =>
          t.chip.z = { s.chip.z with lanes := s.chip.z.lanes ++ [(g, u)] } ∧ Only [.z] s t) ∧
      (48 ≤ s.chip.z.lanes.length ∨ s.chip.unitIn g u = none → exec (.sealAbsorb g u) s = .next s) ∧
      (∀ b h, pget s.chip.z.sealJobs g = none → (g, u) ∈ s.chip.z.lanes → s.chip.unitIn g u = some b → ch.next = u → ch.hs = [] → 0 < u →
        h = unitHash b → (∀ r ∈ s.chip.z.rows, r.2.zone ≠ some g) → pget s.chip.z.zPairs g = none →
        (((s.chip.zone g).st ≠ .zsf ∨ (s.chip.zone g).wpOff ≠ u + 1) → Gives (.sealLaneDone g u) s fun t =>
          pget t.chip.z.chains g = some { ch with next := u + 1, all := ch.all ++ [h] } ∧ (g, u) ∉ t.chip.z.lanes ∧
          t.chip.zone g = { s.chip.zone g with sealState := if (s.chip.zone g).sealState = 0 then 1 else (s.chip.zone g).sealState } ∧
          Only [.z] s t) ∧
        ((s.chip.zone g).st = .zsf → (s.chip.zone g).wpOff = u + 1 → s.chip.sealKeyOk (s.chip.zone g).nsid = true → (s.chip.zone g).sealState ≤ 1 →
          (s.chip.zone g).finishTag = none → Gives (.sealLaneDone g u) s fun t =>
            t.chip.zone g = { s.chip.zone g with
              sealVal := s.chip.sealOf g (ch.all ++ [h]), sealState := 2, keySlot := s.chip.sealSlotOf (s.chip.zone g).nsid,
              extSeq := (s.chip.zone g).lastSeq } ∧
            t.chip.fld F.DIGEST_SEALCNT_STORED = satAdd 32 (s.chip.fld F.DIGEST_SEALCNT_STORED) 1 ∧ Posts srcDigest 0x7001 [] s t ∧
            RegsBut [(.digestSealcnt, 0), (.evrecStat, 0)] s t ∧ Only [.z, .ev, .regs] s t)) ∧
      (g ∉ s.chip.z.rebuilds → exec (.sealChainRebuild g) s = .next s) ∧
      (g ∈ s.chip.z.rebuilds → s.chip.sealKeyOk (s.chip.zone g).nsid = true → pget s.chip.z.sealJobs g = none → 0 < (s.chip.zone g).wpOff →
        s.chip.lookZone (s.chip.zone g).nsid g 0 ≠ .lost → Gives (.sealChainRebuild g) s fun t =>
          (∃ j, pget t.chip.z.sealJobs g = some j ∧ j.source = 2 ∧ j.tag = none ∧ j.n = (s.chip.zone g).wpOff ∧ j.next = 0 ∧ j.all = [] ∧
            j.frag0 = s.chip.frag0 g) ∧ Only [.z, .m] s t)) ∧
    (∀ tag x n first nz, s.chip.starts tag x → s.chip.ns x.nsid = some n → n.zoned = true → first = x.dw 10 → nz = bitsOf (x.dw 11) 15 0 →
      (bitsOf (x.dw 11) 19 16 = 0 → 1 ≤ nz → nz ≤ 1024 → first + nz ≤ n.zoneCount → Gives (.sealQuery tag) s fun t =>
        Completes tag (if (Chip.queryZones n first nz).any fun g => (s.chip.zone g).st == .zsro && !(s.chip.zone g).lostRows.isEmpty then .rowLost
          else .success) nz s t ∧
        (t.chip.fn x.fn).query = some ⟨x.nsid, first, nz, false⟩ ∧ FnsBut [x.fn] s t ∧ Only [.intake, .fns] s t) ∧
      (bitsOf (x.dw 11) 19 16 > 1 ∨ nz < 1 ∨ first + nz > n.zoneCount → Gives (.sealQuery tag) s fun t =>
        Completes tag .invalidField 0 s t ∧ Only [.intake] s t)) ∧
    (∀ tag x n ne data, s.chip.starts tag x → s.chip.ns x.nsid = some n → n.zoned = true → bitsOf (x.dw 10) 3 0 = 0 → ne = bitsOf (x.dw 11) 15 0 →
      (ne < 1 ∨ ne > 1024 → Gives (.sealImport tag data) s fun t => Completes tag .invalidField 0 s t ∧ Only [.intake] s t) ∧
      (1 ≤ ne → ne ≤ 1024 → s.chip.resvConflict x.fn x.nsid true = false →
        (∀ i z, i < ne → z = s.chip.zone (n.zoneOf (numAt data (64 * i) 8)) → numAt data (64 * i) 8 % 0x80000 = 0 ∧ numAt data (64 * i) 8 < n.size ∧
          z.st = .zsf ∧ 2 ≤ z.sealState ∧ z.sealState ≠ 4 ∧ z.wpOff = numAt data (64 * i + 8) 8 ∧ z.label = numAt data (64 * i + 48) 16 ∧
          padTo 32 z.sealVal = padTo 32 ((data.drop (64 * i + 16)).take 32)) → Gives (.sealImport tag data) s fun t =>
          t.chip.z.imports = s.chip.z.imports ++ [(s.chip.z.pass + 1, tag, .success, 0)] ∧
          (∀ i, i < ne → (t.chip.zone (n.zoneOf (numAt data (64 * i) 8))).sealState = 5) ∧
          (∃ y, t.chip.ctx tag = some y ∧ y.st = .firmware ∧ y.sent = false) ∧ Posts srcDigest 0x7004 [x.nsid, ne] s t ∧
          RegsBut [(.zmapCkpt, 0), (.evrecStat, 0)] s t ∧ Only [.z, .m, .intake, .regs, .ev] s t)) ∧
    (∀ tag x n secret, s.chip.starts tag x → s.chip.ns x.nsid = some n → bitsOf (x.dw 10) 3 0 = 1 →
      (n.zoned = false → Gives (.sealSecretInstall tag secret) s fun t => Completes tag .invalidNamespaceOrFormat 0 s t ∧ Only [.intake] s t) ∧
      (∀ slot, n.zoned = true → bitsOf (x.dw 11) 15 0 = 0 → s.chip.resvConflict x.fn x.nsid true = false →
        (∀ z ∈ s.chip.z.zones, z.2.nsid = x.nsid → z.2.st = .zse) → n.sealSlot < 64 → 64 ≤ slot → slot < 512 → pget s.chip.keys slot = none →
        (∀ i, 64 ≤ i → i < slot → (pget s.chip.keys i).isSome = true) → Gives (.sealSecretInstall tag secret) s fun t =>
          pget t.chip.keys slot = some ⟨2, 1, 16, 0, padTo 64 (padTo 32 (Config.hmac256 (padTo 32 secret) (asciiBytes "GW-ZONE-SEAL-V1")))⟩ ∧
          (∀ i, i ≠ slot → pget t.chip.keys i = pget s.chip.keys i) ∧ t.chip.ns x.nsid = some { n with sealSlot := slot } ∧
          (∃ y, t.chip.ctx tag = some y ∧ y.st = .firmware ∧ y.waiting = [slot] ∧ y.sent = false) ∧ Posts srcKeys 0x7006 [x.nsid, slot] s t ∧
          RegsBut [(.evrecStat, 0)] s t ∧ Only [.keys, .ev, .regs, .intake, .z] s t))

/-- The digest engine (R396 to R401): the lowest free context goes to the core that asks; only its holder starts it, feeds it, ends it and releases it; its
result is the digest of the message, in the register or a key slot. -/
def Obligations.DigestContexts : Prop :=
  ∀ (s : State) (core x : Nat), core < 16 → x < 16 →
    (plowest s.chip.digest 16 0 = some x → Gives (.digestAllocate core) s fun t =>
      t.chip.dctx x = some (digestNew core) ∧ (∀ y, y ≠ x → t.chip.dctx y = s.chip.dctx y) ∧ t.chip.flag F.DIGEST_ALLOC_VALID core = true ∧
      t.chip.flag F.DIGEST_ALLOC_NO_CONTEXT core = false ∧ t.chip.fld F.DIGEST_ALLOC_CTX core = x ∧ RegsBut [(.digestAlloc, core)] s t ∧
      Only [.digest, .regs] s t) ∧
    (plowest s.chip.digest 16 0 = none → Gives (.digestAllocate core) s fun t =>
      t.chip.flag F.DIGEST_ALLOC_VALID core = false ∧ t.chip.flag F.DIGEST_ALLOC_NO_CONTEXT core = true ∧ Posts srcDigest 0x7007 [core] s t ∧
      RegsBut [(.digestAlloc, core), (.evrecStat, 0)] s t ∧ Only [.ev, .regs] s t) ∧
    (s.chip.dctx x = none ∨ (∃ d, s.chip.dctx x = some d ∧ d.owner ≠ core) →
      (∀ v, exec (.digestStart core x v) s = .next s ∧ exec (.digestData core x v) s = .next s) ∧ exec (.digestFinal core x) s = .next s ∧
      exec (.digestRelease core x) s = .next s) ∧
    (∀ d, s.chip.dctx x = some d → d.owner = core →
      (∀ v, bitOf v 4 = false → Gives (.digestStart core x v) s fun t =>
        (bitOf v 60 = false ∨ s.chip.fld F.DIGEST_LEN_DECL_LEN x = 0 → t.chip.dctx x = some { digestNew core with
          algo := bitsOf v 3 0, keySlot := bitsOf v 25 16, destEn := bitOf v 31, destSlot := bitsOf v 41 32, destUsage := bitsOf v 59 52,
          declLen := s.chip.fld F.DIGEST_LEN_DECL_LEN x, running := true }) ∧
        (∀ a n, bitOf v 60 = true → a = s.chip.fld F.DIGEST_SRC_ADDR x → n = s.chip.fld F.DIGEST_LEN_DECL_LEN x → 0 < n →
          (s.chip.mastersMay a n = true → t.chip.dctx x = some { digestNew core with
            algo := bitsOf v 3 0, keySlot := bitsOf v 25 16, destEn := bitOf v 31, destSlot := bitsOf v 41 32, destUsage := bitsOf v 59 52
            declLen := n, running := true, msg := readBytes s a n, final := true }) ∧
          (s.chip.mastersMay a n = false → (∃ e, t.chip.dctx x = some e ∧ e.running = false ∧ e.done = false) ∧
            Posts srcSys 0x9017 [srcDigest, a] s t)) ∧
        (∀ y, y ≠ x → t.chip.dctx y = s.chip.dctx y) ∧ RegsBut [(.digestCtl, x), (.evrecStat, 0)] s t ∧ Only [.digest, .regs, .ev] s t) ∧
      (∀ w, d.running = true → d.done = false → d.final = false → d.declLen = 0 → Gives (.digestData core x w) s fun t =>
        (d.buf < 128 → t.chip.dctx x = some { d with msg := d.msg ++ leBytes 8 w, buf := d.buf + 8 } ∧ t.chip.regs = s.chip.regs) ∧
        (128 ≤ d.buf → t.chip.dctx x = some { d with overrun := true } ∧ Posts srcDigest 0x7008 [x, 3] s t) ∧
        (∀ y, y ≠ x → t.chip.dctx y = s.chip.dctx y) ∧ RegsBut [(.evrecStat, 0)] s t ∧ Only [.digest, .regs, .ev] s t) ∧
      (d.running = true → d.done = false → d.final = false → Gives (.digestFinal core x) s fun t =>
        (d.declLen ≤ d.msg.length → t.chip.dctx x = some { d with final := true }) ∧
        (d.msg.length < d.declLen → t.chip.dctx x = some { d with final := true, short := true } ∧ Posts srcDigest 0x7008 [x, 2] s t) ∧
        (∀ y, y ≠ x → t.chip.dctx y = s.chip.dctx y) ∧ RegsBut [(.evrecStat, 0)] s t ∧ Only [.digest, .regs, .ev] s t) ∧
      (Gives (.digestRelease core x) s fun t =>
        t.chip.dctx x = none ∧ (∀ y, y ≠ x → t.chip.dctx y = s.chip.dctx y) ∧ t.chip.reg .digestCtl x = regReset .digestCtl x ∧
        t.chip.reg .digestLen x = regReset .digestLen x ∧ t.chip.reg .digestSrc x = regReset .digestSrc x ∧
        RegsBut [(.digestCtl, x), (.digestLen, x), (.digestSrc, x)] s t ∧ Only [.digest, .regs] s t) ∧
      (d.final = true → d.done = false → d.running = true →
        (d.destEn = false → Gives (.digestDone x) s fun t =>
          t.chip.dctx x = some { d with running := false, done := true, buf := 0, result := s.chip.digestOf d } ∧
          (∀ y, y ≠ x → t.chip.dctx y = s.chip.dctx y) ∧ Only [.digest] s t) ∧
        (d.destEn = true → 3 ≤ d.destSlot → d.destSlot ≤ 63 → bitOf d.destUsage 0 = false → usageOk d.destUsage false = true →
          Gives (.digestDone x) s fun t =>
            t.chip.dctx x = some { d with running := false, done := true, buf := 0 } ∧
            pget t.chip.keys d.destSlot = some ⟨2, if digestLen d.algo = 64 then 3 else 1, d.destUsage, 0, padTo 64 (s.chip.digestOf d)⟩ ∧
            (∀ i, i ≠ d.destSlot → pget t.chip.keys i = pget s.chip.keys i) ∧ Only [.digest, .keys] s t)) ∧
      (d.final = false → exec (.digestDone x) s = .next s))

/-- The key store and the XTS cache (R403 to R409): each operation of KEYS_CMD with its result code and, for a refused one, event 0x7009; a wrapped record is
the 128 bytes of its handle and nothing else; XTS_NSCFG holds for a namespace attached nowhere; a cache fill takes a free or the least used slot. -/
def Obligations.KeysAndXts : Prop :=
  ∀ s : State,
    (∀ slot ty len usage, slot < 1024 → ty < 16 → len < 4 → usage < 256 → Gives (.keyLoad slot ty len usage) s fun t =>
      t.chip.fld F.KEYS_CMD_RESULT = (if slot < 3 ∨ 63 < slot then 1 else if ty < 1 ∨ 3 < ty ∨ usageOk usage true = false then 3 else 0) ∧
      (t.chip.fld F.KEYS_CMD_RESULT ≠ 0 → t.chip.keys = s.chip.keys ∧ Posts srcKeys 0x7009 [slot, t.chip.fld F.KEYS_CMD_RESULT] s t ∧
        RegsBut [(.keysCmd, 0), (.evrecStat, 0)] s t) ∧
      (t.chip.fld F.KEYS_CMD_RESULT = 0 →
        pget t.chip.keys slot = some ⟨ty, len, usage, 0, padTo 64 (s.chip.stage.take (lenBytes len))⟩ ∧
        (∀ i, i ≠ slot → pget t.chip.keys i = pget s.chip.keys i) ∧ (∀ i, i < 8 → t.chip.reg .keysStage i = 0)) ∧
      RegsBut ([(.keysCmd, 0), (.evrecStat, 0)] ++ (List.range 8).map fun i => (RegId.keysStage, i)) s t ∧ Only [.keys, .regs, .ev] s t) ∧
    (∀ slot, slot < 1024 → Gives (.keyClear slot) s fun t =>
      t.chip.fld F.KEYS_CMD_RESULT = (if slot < 3 ∨ 511 < slot then 1 else if 0 < s.chip.refCount slot then 4 else 0) ∧
      (t.chip.fld F.KEYS_CMD_RESULT ≠ 0 → t.chip.keys = s.chip.keys ∧ Posts srcKeys 0x7009 [slot, t.chip.fld F.KEYS_CMD_RESULT] s t) ∧
      (t.chip.fld F.KEYS_CMD_RESULT = 0 → pget t.chip.keys slot = none ∧ ∀ i, i ≠ slot → pget t.chip.keys i = pget s.chip.keys i) ∧
      RegsBut [(.keysCmd, 0), (.evrecStat, 0)] s t ∧ Only [.keys, .regs, .ev] s t) ∧
    (∀ slot handle k a, 3 ≤ slot → slot ≤ 511 → handle ≤ 16383 → pget s.chip.keys slot = some k → a = s.chip.recAddr handle →
      (∀ e ∈ s.chip.intake.tags, e.2.st ≠ .firmware) → Gives (.keyWrap slot handle) s fun t =>
        readBytes t a 128 = s.chip.wrapRecord k.ty k.usage handle (nextGen s a) k.key ∧ MemBut a 128 s t ∧
        t.chip.fld F.KEYS_CMD_RESULT = 0 ∧ RegsBut [(.keysCmd, 0)] s t ∧ OnlyMem [.regs] s t) ∧
    (∀ slot handle, pget s.chip.keys slot = none → slot < 1024 → Gives (.keyWrap slot handle) s fun t =>
      t.chip.fld F.KEYS_CMD_RESULT = 1 ∧ Posts srcKeys 0x7009 [slot, 1] s t ∧ RegsBut [(.keysCmd, 0), (.evrecStat, 0)] s t ∧
      Only [.regs, .ev] s t) ∧
    (∀ slot handle, 3 ≤ slot → slot ≤ 511 → handle ≤ 16383 →
      (∀ ty usage k, unwrapRecord s handle = some (ty, usage, k) → Gives (.keyUnwrap slot handle) s fun t =>
        pget t.chip.keys slot = some ⟨ty, 3, usage, handle, padTo 64 k⟩ ∧ (∀ i, i ≠ slot → pget t.chip.keys i = pget s.chip.keys i) ∧
        t.chip.fld F.KEYS_CMD_RESULT = 0 ∧ RegsBut [(.keysCmd, 0)] s t ∧ Only [.keys, .regs] s t) ∧
      (unwrapRecord s handle = none → Gives (.keyUnwrap slot handle) s fun t =>
        t.chip.fld F.KEYS_CMD_RESULT = 2 ∧ Posts srcKeys 0x700B [handle, 0] s t ∧ RegsBut [(.keysCmd, 0), (.evrecStat, 0)] s t ∧
        Only [.regs, .ev] s t)) ∧
    (∀ handle ty usage a, handle ≤ 16383 → 1 ≤ ty → ty ≤ 3 → usageOk usage false = true → a = s.chip.recAddr handle →
      Gives (.keyGenerate handle ty usage) s fun t =>
        (∃ k, k.length = 64 ∧ readBytes t a 128 = s.chip.wrapRecord ty usage handle (nextGen s a) k) ∧ MemBut a 128 s t ∧
        t.chip.fresh = s.chip.fresh + 8 ∧ t.chip.fld F.KEYS_CMD_RESULT = 0 ∧ RegsBut [(.keysCmd, 0)] s t ∧ OnlyMem [.regs, .fresh] s t) ∧
    (∀ handle a, handle ≤ 16383 → a = s.chip.recAddr handle → Gives (.keyDrop handle) s fun t =>
      (s.chip.handleUsed handle = true → t.chip.fld F.KEYS_CMD_RESULT = 4 ∧ Posts srcKeys 0x7009 [0, 4] s t ∧ t.chip.xts = s.chip.xts ∧
        t.mem = s.mem) ∧
      (s.chip.handleUsed handle = false → t.chip.fld F.KEYS_CMD_RESULT = 0 ∧ readBytes t a 128 = List.replicate 128 0 ∧ MemBut a 128 s t ∧
        ∀ k ∈ t.chip.xts, k.handle ≠ handle) ∧
      RegsBut [(.keysCmd, 0), (.evrecStat, 0)] s t ∧ OnlyMem [.regs, .ev, .xts] s t) ∧
    (∀ nsid en handle, 1 ≤ nsid → nsid ≤ 8192 → handle < 16384 →
      (s.chip.attached nsid = [] → Gives (.xtsNscfgWrite nsid en handle) s fun t =>
        t.chip.xtsOn nsid = en ∧ t.chip.fld F.XTS_NSCFG_HANDLE (nsid - 1) = handle ∧ RegsBut [(.xtsNscfg, nsid - 1)] s t ∧ Only [.regs] s t) ∧
      (s.chip.attached nsid ≠ [] → exec (.xtsNscfgWrite nsid en handle) s = .next s)) ∧
    (∀ nsid handle, handle = s.chip.fld F.XTS_NSCFG_HANDLE (nsid - 1) →
      (s.chip.xtsOn nsid = false ∨ (∃ k ∈ s.chip.xts, k.nsid = nsid) → exec (.xtsKeyCacheFill nsid) s = .next s) ∧
      (s.chip.xtsOn nsid = true → (∀ k ∈ s.chip.xts, k.nsid ≠ nsid) → (∀ e ∈ s.chip.intake.tags, e.2.keyWait = true → e.2.nsid ≠ nsid) →
        (∀ usage k i, unwrapRecord s handle = some (1, usage, k) → k.take 32 ≠ (k.drop 32).take 32 → s.chip.cacheSlot = some i →
          Gives (.xtsKeyCacheFill nsid) s fun t =>
            t.chip.xts = ⟨i, nsid, handle, padTo 64 k, [], s.chip.now⟩ :: s.chip.xts.filter (·.slot != i) ∧ Posts srcXts 0x700A [0] s t ∧
            RegsBut [(.evrecStat, 0)] s t ∧ Only [.xts, .regs, .ev] s t) ∧
        (unwrapRecord s handle = none → Gives (.xtsKeyCacheFill nsid) s fun t =>
          Posts srcXts 0x700B [handle, nsid] s t ∧ RegsBut [(.evrecStat, 0)] s t ∧ Only [.regs, .ev] s t)))

/-! Tenants -/

/-- Tenant identifiers (R411; what happens to ANY and COMPAT of a function: R412, R430): TENANT_FNCFG_WRITE sets a function's only while it is disabled with no
namespace attached, TENANT_NSCFG_WRITE a namespace's only while no controller has it attached; a write at any other time is ignored and recorded as event 0x8001. -/
def Obligations.TenantIdentifiersAreGuarded : Prop :=
  ∀ s : State,
    (∀ f v free, f < 1024 → free = (!(s.chip.fn f).en && (s.chip.fn f).nsids.isEmpty) → Gives (.tenantFncfgWrite f v) s fun t =>
      t.chip.fld F.TENANT_FNCFG_TENANT f = (if free then v % 4096 else s.chip.fld F.TENANT_FNCFG_TENANT f) ∧
      t.chip.flag F.TENANT_FNCFG_ANY f = (if isPf f then bitOf v 63 else s.chip.flag F.TENANT_FNCFG_ANY f) ∧
      t.chip.flag F.TENANT_FNCFG_COMPAT f = (if !isPf f && free && (s.chip.fn f).active then bitOf v 62 else s.chip.flag F.TENANT_FNCFG_COMPAT f) ∧
      (free = false → Posts srcTenant 0x8001 [f, s.chip.fld F.TENANT_FNCFG_TENANT f, v % 4096] s t) ∧
      RegsBut [(.tenantFncfg, f), (.evrecStat, 0)] s t ∧ Only [.ev, .regs] s t) ∧
    (∀ nsid v, 1 ≤ nsid → nsid ≤ 8192 →
      (s.chip.attached nsid = [] → Gives (.tenantNscfgWrite nsid v) s fun t =>
        t.chip.fld F.TENANT_NSCFG_TENANT (nsid - 1) = v % 4096 ∧ RegsBut [(.tenantNscfg, nsid - 1)] s t ∧ Only [.regs] s t) ∧
      (s.chip.attached nsid ≠ [] → Gives (.tenantNscfgWrite nsid v) s fun t =>
        Posts srcTenant 0x8001 [nsid, s.chip.fld F.TENANT_NSCFG_TENANT (nsid - 1), v % 4096] s t ∧ RegsBut [(.evrecStat, 0)] s t ∧
        Only [.ev, .regs] s t))

/-- Fences raised by firmware (R416, R417): one sets CFS and is reported; only that cause is lifted. The migration of a function (R419 to R428): Freeze takes an active function to FREEZING, or with COMPAT to FROZEN, its drain ends there or at its limit;
Save sends the image of a frozen one; Restore applies an image that passes its checks; Thaw ends it. Each is refused as R420 says. -/
def Obligations.FencesAndMigration : Prop :=
  (∀ s : State,
    (∀ f, f < 1024 → s.chip.fnExists f = false → ∀ i ∈ [Instr.fence f, .unfence f], Gives i s fun t =>
      t.chip.fld F.TENANT_FNCMD_RESULT = 2 ∧ t.chip.fld F.TENANT_FNCMD_FN = f ∧ RegsBut [(.tenantFncmd, 0)] s t ∧ Only [.regs] s t) ∧
    (∀ f, s.chip.fnExists f = true →
      ((s.chip.fn f).fence = none → (∀ e ∈ s.chip.intake.tags, e.2.fn ≠ f) → Gives (.fence f) s fun t =>
        t.chip.fld F.TENANT_FNCMD_RESULT = 0 ∧ t.chip.fn f = { s.chip.fn f with fence := some 6, aers := [] } ∧ FnsBut [f] s t ∧
        t.chip.fld F.TENANT_CNT_FENCES = satAdd 16 (s.chip.fld F.TENANT_CNT_FENCES) 1 ∧ Posts (srcHp (portOf f)) 0x1006 [f, 6] s t ∧
        Sends [.aer f true false] s t ∧ RegsBut [(.tenantFncmd, 0), (.tenantCnt, 0), (.evrecStat, 0)] s t ∧
        Only [.fns, .regs, .ev, .out] s t) ∧
      ((s.chip.fn f).fence.isSome = true → Gives (.fence f) s fun t =>
        t.chip.fld F.TENANT_FNCMD_RESULT = 0 ∧ RegsBut [(.tenantFncmd, 0)] s t ∧ Only [.regs] s t) ∧
      ((s.chip.fn f).fence = some 6 → Gives (.unfence f) s fun t =>
        t.chip.fld F.TENANT_FNCMD_RESULT = 0 ∧ t.chip.fn f = { s.chip.fn f with fence := none } ∧ FnsBut [f] s t ∧
        Posts srcTenant 0x8009 [f, 6] s t ∧ RegsBut [(.tenantFncmd, 0), (.evrecStat, 0)] s t ∧ Only [.fns, .regs, .ev] s t) ∧
      ((s.chip.fn f).fence ≠ some 6 → Gives (.unfence f) s fun t =>
        t.chip.fld F.TENANT_FNCMD_RESULT = 1 ∧ RegsBut [(.tenantFncmd, 0)] s t ∧ Only [.regs] s t))) ∧
  (∀ (s : State) (tag : Nat) (x : Ctx) (f : Nat), tag < 65536 →
    (Migrates s.chip tag x f →
      ((s.chip.fn f).fence.isSome = true →
        (Gives (.functionFreeze tag) s fun t => MigRefused tag f 0xC6 0xC 0 s t) ∧ (Gives (.functionSave tag) s fun t => MigRefused tag f 0xC7 0xC 0 s t) ∧
        (∀ im, Gives (.functionRestore tag im) s fun t => MigRefused tag f 0xC8 0xC 0 s t)) ∧
      ((s.chip.fn f).fence = none →
        ((s.chip.fn f).mstate = .restored → Gives (.functionFreeze tag) s fun t => MigRefused tag f 0xC6 2 0 s t) ∧
        ((s.chip.fn f).mstate = .frozen ∨ (s.chip.fn f).mstate = .saved → Gives (.functionFreeze tag) s fun t =>
          Completes tag .success 0 s t ∧ t.chip.fld F.TENANT_MIGCMD_RESULT = 0 ∧ RegsBut [(.tenantMigcmd, 0)] s t ∧ Only [.intake, .regs] s t) ∧
        (s.chip.quiet f → s.chip.flag F.TENANT_FNCFG_COMPAT f = false → Gives (.functionFreeze tag) s fun t =>
          t.chip.fn f = { s.chip.fn f with mstate := .freezing, aerCids := [], freeze := some (tag, s.chip.now) } ∧ FnsBut [f] s t ∧
          t.chip.flag F.TENANT_MIGCMD_BUSY = true ∧ (∃ y, t.chip.ctx tag = some y ∧ y.sent = false ∧ y.st = .firmware) ∧
          RegsBut [(.tenantMigcmd, 0)] s t ∧ Only [.intake, .regs, .fns] s t) ∧
        (s.chip.quiet f → s.chip.flag F.TENANT_FNCFG_COMPAT f = true → Gives (.functionFreeze tag) s fun t =>
          t.chip.fn f = { s.chip.fn f with mstate := .frozen, aerCids := [], trail := [], freeze := none } ∧ FnsBut [f] s t ∧
          Completes tag .success 0 s t ∧ t.chip.fld F.TENANT_CNT_FREEZES = satAdd 16 (s.chip.fld F.TENANT_CNT_FREEZES) 1 ∧
          Posts srcTenant 0x8002 [f, 0] s t ∧ RegsBut [(.tenantMigcmd, 0), (.tenantCnt, 0), (.evrecStat, 0)] s t ∧
          Only [.intake, .regs, .fns, .ev] s t) ∧
        (∀ r n, r = s.chip.fn f → n = imageLen r.nq r.asg.vec r.nsids.length r.trail.length →
          (r.mstate ≠ .frozen → r.mstate ≠ .saved → Gives (.functionSave tag) s fun t => MigRefused tag f 0xC7 2 0 s t) ∧
          (r.mstate = .frozen ∨ r.mstate = .saved → x.dw 11 < n → Gives (.functionSave tag) s fun t => MigRefused tag f 0xC7 4 (n / 4) s t) ∧
          (r.mstate = .frozen ∨ r.mstate = .saved → n ≤ x.dw 11 → Gives (.functionSave tag) s fun t =>
            t.chip.fn f = { r with mstate := .saved } ∧ FnsBut [f] s t ∧ Sends [.hostData tag 0 (s.chip.image f)] s t ∧ Completes tag .success 0 s t ∧
            Posts srcTenant 0x8004 [f, n] s t ∧ RegsBut [(.tenantMigcmd, 0), (.evrecStat, 0)] s t ∧ Only [.intake, .regs, .fns, .ev, .out] s t)) ∧
        (∀ im, (∀ r, s.chip.restoreCheck f (x.dw 11) im = some r → Gives (.functionRestore tag im) s fun t => MigRefused tag f 0xC8 r 0 s t) ∧
          (s.chip.restoreCheck f (x.dw 11) im = none → numAt im 0x0C 2 = f → Gives (.functionRestore tag im) s fun t =>
            t.chip.fn f = { (s.chip.fn f).applyImage im with
              gen := if s.chip.flag F.TENANT_FNCFG_COMPAT f then (numAt im 0x12 1 + 1) % 16 else (s.chip.fn f).gen } ∧
            (t.chip.fn f).mstate = .restored ∧ FnsBut [f] s t ∧ Completes tag .success 0 s t ∧
            t.chip.fld F.TENANT_CNT_RESTORES = satAdd 16 (s.chip.fld F.TENANT_CNT_RESTORES) 1 ∧ Posts srcTenant 0x8005 [f, f] s t ∧
            RegsBut [(.tenantMigcmd, 0), (.tenantCnt, 0), (.evrecStat, 0)] s t ∧ Only [.intake, .regs, .fns, .ev] s t))) ∧
      ((s.chip.fn f).mstate = .active → Gives (.functionThaw tag) s fun t => MigRefused tag f 0xC9 2 0 s t) ∧
      ((s.chip.fn f).mstate ≠ .active → (s.chip.fn f).aerCids = [] → (s.chip.fn f).pendEv = [] → (s.chip.fn f).trailHeld = [] → (s.chip.fn f).pba = [] →
        Gives (.functionThaw tag) s fun t =>
          t.chip.fn f = { s.chip.fn f with mstate := .active, saveGen := ((s.chip.fn f).saveGen + 1) % 65536, freeze := none } ∧ FnsBut [f] s t ∧
          Completes tag .success 0 s t ∧ Posts srcTenant 0x8007 [f, (s.chip.fn f).mstate.code] s t ∧
          RegsBut [(.tenantMigcmd, 0), (.evrecStat, 0)] s t ∧ Only [.intake, .regs, .fns, .ev] s t)) ∧
    (∀ t0 y, (s.chip.fn f).freeze = some (tag, t0) → s.chip.ctx tag = some y → y.sent = false → (s.chip.fn f).mstate = .freezing →
      (s.chip.inUse f = 0 → Gives (.freezeDrained f) s fun t =>
        t.chip.fn f = { s.chip.fn f with mstate := .frozen, freeze := none } ∧ FnsBut [f] s t ∧ Completes tag .success 0 s t ∧
        t.chip.fld F.TENANT_CNT_FREEZES = satAdd 16 (s.chip.fld F.TENANT_CNT_FREEZES) 1 ∧
        Posts srcTenant 0x8002 [f, (s.chip.now - t0) / 1000] s t ∧ RegsBut [(.tenantMigcmd, 0), (.tenantCnt, 0), (.evrecStat, 0)] s t ∧
        Only [.intake, .regs, .fns, .ev] s t) ∧
      (∀ n, n = s.chip.inUse f → 0 < n → Gives (.freezeDrainLimit f) s fun t =>
        t.chip.fn f = { s.chip.fn f with freeze := some (65536, t0) } ∧ FnsBut [f] s t ∧ Completes tag .success (0x10 + n * 65536) s t ∧
        t.chip.now = max s.chip.now (t0 + ms (s.chip.clampFld F.TENANT_MIG_DRAIN_MS 1 10000)) ∧ t.chip.fld F.TENANT_MIGCMD_REASON = 0x10 ∧
        Posts srcTenant 0x8003 [f, n] s t ∧ RegsBut [(.tenantMigcmd, 0), (.evrecStat, 0)] s t ∧ Only [.intake, .regs, .fns, .ev, .now] s t)) ∧
    ((s.chip.fn f).mstate ≠ .freezing ∨ 0 < s.chip.inUse f → exec (.freezeDrained f) s = .next s) ∧
    ((s.chip.fn f).freeze = none → exec (.freezeDrainLimit f) s = .next s))

/-! DRAM -/

/-- Requests, refresh and alerts of a DRAM channel (R33, R440 to R445, R452, R453): a running idle channel stores and returns bytes at once; outside DRAM a
core takes an access fault and another master event 0x9017; a refresh that must wait is owed, the fifth is forced; ALERT_n stops the channel and its
release replays; the third alert in a row within a replay restarts the part. -/
def Obligations.DramChannels : Prop :=
  ∀ (s : State) (ch : Nat), ChannelIdle s.chip ch →
    (∀ q : DramReq, s.chip.drcStopped ch = false → (s.chip.drc ch).window = none → s.chip.flag F.DRC_PAR_FAILED ch = false → s.chip.poison = [] →
      q.ce = [] → q.ue = [] → 0 < q.len → q.addr / 8192 = (q.addr + q.len - 1) / 8192 → chanOf q.addr = ch → q.addr + q.len ≤ s.chip.dramBytes →
      sbRange q.addr q.len = false →
      (∀ b, q.data = some b → Gives (.dramRequest q) s fun t =>
        readBytes t q.addr q.len = padTo q.len b ∧ MemBut q.addr q.len s t ∧ (t.chip.drc ch).queue = [] ∧
        RegsBut [] s t ∧ OnlyMem [.drcs, .regs, .poison] s t) ∧
      (∀ n, q.data = none → q.master = .core n → Gives (.dramRequest q) s fun t =>
        Sends [.coreData n (readVal s q)] s t ∧ (t.chip.drc ch).queue = [] ∧ RegsBut [] s t ∧ Only [.drcs, .regs, .out] s t)) ∧
    (∀ q : DramReq, s.chip.dramBytes < q.addr + q.len → sbRange q.addr q.len = false →
      (∀ n, n < 16 → q.master = .core n → Gives (.dramRequest q) s fun t => Faults n 2 q.addr s t ∧ Only [.regs, .ev, .out] s t) ∧
      (q.master = .keyTable → Gives (.dramRequest q) s fun t =>
        Posts srcSys 0x9017 [srcKeys, q.addr] s t ∧ RegsBut [(.evrecStat, 0)] s t ∧ Only [.regs, .ev] s t)) ∧
    (∀ rank sub set k, k = (rank * 2 + sub % 2) * 4 + set % 4 → s.chip.domOn (domDc ch) = true →
      (s.chip.drcStopped ch = false → Gives (.refreshDue ch rank sub set) s fun t =>
        DrcIs ch { s.chip.drc ch with
          rows := (s.chip.drc ch).rows.filter fun e => !(e.1 / 32 == rank * 2 + sub % 2 && e.1 % 4 == set % 4) } s t ∧
        RegsBut [] s t ∧ Only [.drcs, .regs] s t) ∧
      (s.chip.drcStopped ch = true → Gives (.refreshDue ch rank sub set) s fun t =>
        DrcIs ch { s.chip.drc ch with owed := [(k, 1)] } s t ∧
        t.chip.fld F.DRC_REF_OWED_MAX ch = max 1 (s.chip.fld F.DRC_REF_OWED_MAX ch) ∧ RegsBut [(.drcRef, ch)] s t ∧ Only [.drcs, .regs] s t)) ∧
    (∀ bank, (∀ r t0, pget (s.chip.drc ch).rows bank = some (r, t0) → Gives (.openRowTimeout ch bank) s fun t =>
        DrcIs ch { s.chip.drc ch with rows := pdel (s.chip.drc ch).rows bank } s t ∧
        t.chip.now = max s.chip.now (t0 + s.chip.fld F.DRC_QOS_OPEN_NS ch) ∧ Only [.drcs, .now] s t) ∧
      (pget (s.chip.drc ch).rows bank = none → exec (.openRowTimeout ch bank) s = .next s)) ∧
    (∀ b, (s.chip.drc ch).alert = false → s.chip.domOn (domDc ch) = true → s.chip.flag F.DRC_PAR_FAILED ch = false →
      b = (if s.chip.now < (s.chip.drc ch).replayTo then (s.chip.drc ch).broken + 1 else 0) →
      (b < 3 → Gives (.caParityAlert ch) s fun t =>
        DrcIs ch { s.chip.drc ch with alert := true, broken := b, replayTo := s.chip.now + 400 } s t ∧
        t.chip.fld F.DRC_PAR_ALERTS ch = satAdd 16 (s.chip.fld F.DRC_PAR_ALERTS ch) 1 ∧ RegsBut [(.drcPar, ch)] s t ∧ Only [.drcs, .regs] s t) ∧
      (3 ≤ b → s.chip.supplied → Gives (.caParityAlert ch) s fun t => Restarted 4 s t)) ∧
    ((s.chip.drc ch).alert = true → exec (.caParityAlert ch) s = .next s ∧ Gives (.alertNRelease ch) s fun t =>
      DrcIs ch { s.chip.drc ch with
        alert := false, rows := [], hits := [], replayTo := max (s.chip.drc ch).replayTo (s.chip.now + 1) } s t ∧
      t.chip.fld F.DRC_PAR_REPLAYS ch = satAdd 16 (s.chip.fld F.DRC_PAR_REPLAYS ch) 1 ∧
      Posts (srcDrc ch) 0x5005 [ch, ((s.chip.drc ch).issued.filter fun t0 =>
        (s.chip.drc ch).replayTo - 400 ≤ t0 + if s.chip.flag F.DRC_OP_CUR ch then 320 else 160).length] s t ∧
      RegsBut [(.drcPar, ch), (.evrecStat, 0)] s t ∧ Only [.drcs, .regs, .ev] s t)

/-- Training, operating points, scrubbing and retirement (R444, R448 to R451, R459 to R465), the channel running and idle: MR4 readings, rounds of sample
windows, a change of operating point whose latency is a free value up to its bound, one burst scrubbed at a time, pages and banks into spares. -/
def Obligations.DramUpkeep : Prop :=
  ∀ (s : State) (ch : Nat) (d : Drc), ChannelIdle s.chip ch → d = s.chip.drc ch → s.chip.drcStopped ch = false → s.chip.z.ledger.pfCommit = false →
    (∀ rank temp, Gives (.mr4Read ch rank temp) s fun t =>
      (t.chip.drc ch).mr4 = pset d.mr4 rank temp ∧ (∀ k, k ≠ ch → t.chip.drc k = s.chip.drc k) ∧
      t.chip.flag F.DRC_REF_X2 ch = ((t.chip.drc ch).mr4.any fun e => decide (e.2 > 85)) ∧
      (temp > 95 → d.hotRanks.contains rank = false → rank ∈ (t.chip.drc ch).hotRanks ∧ Posts (srcDrc ch) 0x500F [ch, rank] s t) ∧
      (temp ≤ 95 → rank ∉ (t.chip.drc ch).hotRanks) ∧
      (∀ old, pget d.mr4Round rank = some old → d.round = false → max 1 (s.chip.fld F.DRC_TRAIN_TEMP_DELTA ch) ≤ (temp - old) + (old - temp) →
        (t.chip.drc ch).round = true ∧ (t.chip.drc ch).roundAt = s.chip.now) ∧
      RegsBut [(.drcRef, ch), (.drcTrain, ch), (.evrecStat, 0)] s t ∧ Only [.drcs, .regs, .ev] s t) ∧
    (d.round = false → Gives (.trainingRoundStart ch) s fun t =>
      DrcIs ch { d with round := true, window := none, roundAt := t.chip.now, mr4Round := d.mr4 } s t ∧ t.chip.fld F.DRC_TRAIN_WINDOWS ch = 0 ∧
      t.chip.now = max s.chip.now (d.roundAt + ms (max 10 (s.chip.fld F.DRC_TRAIN_PERIOD_MS ch))) ∧ RegsBut [(.drcTrain, ch)] s t ∧
      Only [.drcs, .regs, .now] s t) ∧
    (d.round = true → exec (.trainingRoundStart ch) s = .next s ∧
      (d.window = none → Gives (.sampleWindow ch) s fun t =>
        DrcIs ch { d with
          window := some (s.chip.now + 1200), rows := d.rows.filter fun e => e.1 / 64 != s.chip.fld F.DRC_TRAIN_WINDOWS ch / 2 } s t ∧
        RegsBut [] s t ∧ Only [.drcs, .regs] s t) ∧
      (∀ n w, n = s.chip.fld F.DRC_TRAIN_WINDOWS ch + 1 → n < 256 → d.window = some w → d.opSince = none → Gives (.sampleWindow ch) s fun t =>
        DrcIs ch { d with window := none, round := decide (n < 2 * max 1 (s.chip.fld F.DRC_GEOM_LRANKS ch)) } s t ∧
        t.chip.fld F.DRC_TRAIN_WINDOWS ch = n ∧
        t.chip.fld F.DRC_TRAIN_ROUNDS ch =
          satAdd 16 (s.chip.fld F.DRC_TRAIN_ROUNDS ch) (if n < 2 * max 1 (s.chip.fld F.DRC_GEOM_LRANKS ch) then 0 else 1) ∧
        RegsBut [(.drcTrain, ch)] s t ∧ Only [.drcs, .regs] s t)) ∧
    (∀ target ns, target < 2 → s.chip.flag F.DRC_OP_BUSY ch = false → d.window = none → ns = (Config.freeValue s.chip.fresh).toNat % 2801 →
      Gives (.operatingPointChange ch target) s fun t =>
        DrcIs ch { d with
          opSince := none, rows := [], hits := [], round := true, window := none, roundAt := t.chip.now, mr4Round := d.mr4 } s t ∧
        t.chip.fld F.DRC_OP_CUR ch = target ∧ t.chip.flag F.DRC_OP_BUSY ch = false ∧ t.chip.fld F.DRC_OP_LAST_NS ch = ns ∧
        t.chip.fld F.DRC_OP_MAX_NS ch = max ns (s.chip.fld F.DRC_OP_MAX_NS ch) ∧ t.chip.now = s.chip.now + ns ∧ t.chip.fresh = s.chip.fresh + 1 ∧
        Posts (srcDrc ch) 0x5004 [ch, target, ns] s t ∧ RegsBut [(.drcOp, ch), (.drcTrain, ch), (.evrecStat, 0)] s t ∧
        Only [.drcs, .regs, .ev, .now, .fresh] s t) ∧
    (∀ target w, target < 2 → s.chip.flag F.DRC_OP_BUSY ch = false → d.window = some w → Gives (.operatingPointChange ch target) s fun t =>
      DrcIs ch { d with opSince := some s.chip.now } s t ∧ t.chip.flag F.DRC_OP_BUSY ch = true ∧ t.chip.fld F.DRC_OP_TARGET ch = target ∧
      t.chip.fld F.DRC_OP_CUR ch = s.chip.fld F.DRC_OP_CUR ch ∧ RegsBut [(.drcOp, ch)] s t ∧ Only [.drcs, .regs] s t) ∧
    (∀ total, total = s.chip.fld F.DRC_GEOM_CAP_GIB ch * 2 ^ 24 → s.chip.poison = [] → 0 < d.scrub →
      (d.scrub + 1 < total → Gives (.scrubRead ch [] []) s fun t =>
        DrcIs ch { d with scrub := d.scrub + 1 } s t ∧ t.chip.fld F.DRC_SCRUB_PROGRESS ch = (d.scrub + 1) * 1000 / total ∧
        RegsBut [(.drcScrub, ch)] s t ∧ Only [.drcs, .regs] s t) ∧
      (0 < total → total ≤ d.scrub + 1 → Gives (.scrubRead ch [] []) s fun t =>
        DrcIs ch { d with scrub := 0 } s t ∧ t.chip.fld F.DRC_SCRUB_PROGRESS ch = 0 ∧
        t.chip.fld F.DRC_SCRUB_LAST_LAP_S ch = min 0xFFFF ((s.chip.now - d.lapAt) / 1000000000) ∧
        Posts (srcDrc ch) 0x500C [ch, min 0xFFFF ((s.chip.now - d.lapAt) / 1000000000)] s t ∧ RegsBut [(.drcScrub, ch), (.evrecStat, 0)] s t ∧
        Only [.drcs, .regs, .ev] s t)) ∧
    (∀ a, s.chip.flag F.DRC_RETCMD_BUSY ch = false → a < 2 ^ 40 →
      (s.chip.dramBytes ≤ a ∨ chanOf a ≠ ch → ∀ i ∈ [Instr.retirePage ch a, .retireBank ch a], Gives i s fun t =>
        t.chip.fld F.DRC_RETCMD_RESULT ch = 2 ∧ t.chip.fld F.DRC_RETCMD_ADDR ch = a ∧ RegsBut [(.drcRetcmd, ch)] s t ∧ Only [.regs] s t) ∧
      (a < s.chip.dramBytes → chanOf a = ch → d.bank = none → d.spares = [] → d.badSpares = [] →
        (∀ i, i < 64 → s.chip.fld F.DRC_REMAP_STATE (ch * 64 + i) = 0) →
        (s.chip.spareOk ch = false → Gives (.retirePage ch a) s fun t =>
          t.chip.fld F.DRC_RETCMD_RESULT ch = 1 ∧ Posts (srcDrc ch) 0x500B [ch, a / 8192] s t ∧
          RegsBut [(.drcRetcmd, ch), (.evrecStat, 0)] s t ∧ Only [.regs, .ev] s t) ∧
        (s.chip.spareOk ch = true → 2 ≤ s.chip.fld F.DRC_RET_BANK_PAGES ch → Gives (.retirePage ch a) s fun t =>
          t.chip.fld F.DRC_RETCMD_RESULT ch = 0 ∧ t.chip.fld F.DRC_REMAP_STATE (ch * 64) = 1 ∧ t.chip.fld F.DRC_REMAP_PAGE (ch * 64) = a / 8192 ∧
          t.chip.fld F.DRC_RET_PAGES_USED ch = 1 ∧ DrcIs ch { d with spares := [(0, 0)] } s t ∧ Posts (srcDrc ch) 0x5009 [ch, a / 8192, 2] s t ∧
          RegsBut [(.drcRetcmd, ch), (.drcRemap, ch * 64), (.drcRet, ch), (.drcEcc, ch), (.evrecStat, 0)] s t ∧
          Only [.drcs, .regs, .ev, .poison] s t) ∧
        (∀ b, b = s.chip.bankOfAddr ch a →
          (s.chip.spareOk ch = true → s.chip.flag F.DRC_RET_BANK_SPARE_EN ch = true → s.chip.fld F.DRC_RET_BANK_STATE ch = 0 →
            Gives (.retireBank ch a) s fun t =>
              DrcIs ch { d with bank := some (b, 0) } s t ∧ t.chip.fld F.DRC_RET_BANK_STATE ch = 1 ∧ t.chip.fld F.DRC_RETCMD_RESULT ch = 0 ∧
              t.chip.flag F.DRC_RETCMD_BUSY ch = true ∧ Posts (srcDrc ch) 0x500A [ch, b / 64, b / 32 % 2, b % 32, 0] s t ∧
              RegsBut [(.drcRetcmd, ch), (.drcRet, ch), (.evrecStat, 0)] s t ∧ Only [.drcs, .regs, .ev] s t) ∧
          (s.chip.flag F.DRC_RET_BANK_SPARE_EN ch = false → Gives (.retireBank ch a) s fun t =>
            t.chip.fld F.DRC_RETCMD_RESULT ch = 1 ∧ Posts (srcDrc ch) 0x500B [ch, b] s t ∧ RegsBut [(.drcRetcmd, ch), (.evrecStat, 0)] s t ∧
            Only [.regs, .ev] s t)))) ∧
    (∀ b p, d.bank = some (b, p) → s.chip.fld F.DRC_RET_BANK_STATE ch = 1 → Gives (.bankCopyComplete ch) s fun t =>
      t.chip.fld F.DRC_RET_BANK_STATE ch = 2 ∧ t.chip.flag F.DRC_RETCMD_BUSY ch = false ∧
      (∀ i, i < 64 → t.chip.reg .drcRemap (ch * 64 + i) =
        if s.chip.fld F.DRC_REMAP_STATE (ch * 64 + i) ≠ 0 ∧ s.chip.pageInBank ch (s.chip.fld F.DRC_REMAP_PAGE (ch * 64 + i)) b = true then 0
        else s.chip.reg .drcRemap (ch * 64 + i)) ∧
      Posts (srcDrc ch) 0x500A [ch, b / 64, b / 32 % 2, b % 32, 1] s t ∧ Only [.drcs, .regs, .ev] s t) ∧
    (d.bank = none → exec (.bankCopyComplete ch) s = .next s) ∧
    (∀ base size, (s.chip.flag F.DRC_SPARE_LOCK = true → exec (.spareLock base size) s = .next s) ∧
      (s.chip.flag F.DRC_SPARE_LOCK = false → (∀ k, k < 8 → (s.chip.drc k).pendBank = none) → (∀ k, k < 512 → s.chip.fld F.DRC_REMAP_STATE k ≠ 2) →
        Gives (.spareLock base size) s fun t =>
          t.chip.flag F.DRC_SPARE_LOCK = true ∧ t.chip.fld F.DRC_SPARE_BASE = base % 2 ^ 32 ∧ t.chip.fld F.DRC_SPARE_SIZE_MIB = size % 65536 ∧
          RegsBut [(.drcSpare, 0)] s t ∧ Only [.regs] s t))

/-! Power domains -/

/-- Power domains (R492 to R501, R504 to R507), for domains that do not go as a pair: arming, the commit by WFI that takes all armed domains or none, entry,
wake sources with the 120 ns in which edges are lost, and the return, with the zeroed contents of a buffer that was Off or whose retention failed. -/
def Obligations.PowerDomains : Prop :=
  ∀ s : State,
    (∀ d arm owner w, d ≤ 32 → s.chip.domPair d = [d] → arm < 4 → owner < 16 → w < 256 → Gives (.domainArm d arm owner w) s fun t =>
      t.chip.fld F.PWR_DOM_OWNER d = owner ∧ t.chip.fld F.PWR_DOM_WAKEEN d = w ∧ t.chip.fld F.PWR_DOM_STATE d = s.chip.fld F.PWR_DOM_STATE d ∧
      (s.chip.armAllowed d arm = true → t.chip.fld F.PWR_DOM_ARM d = arm) ∧
      (s.chip.armAllowed d arm = false → t.chip.fld F.PWR_DOM_ARM d = s.chip.fld F.PWR_DOM_ARM d ∧ t.chip.fld F.PWR_DOM_REFUSE d = 4 ∧
        Posts srcPwr 0x6006 [d, arm] s t) ∧
      RegsBut [(.pwrDom, d), (.evrecStat, 0)] s t ∧ Only [.ev, .regs] s t) ∧
    (∀ core ds, core < 16 →
      ds = ((List.range 33).filter fun d => s.chip.fld F.PWR_DOM_ARM d != 0 && s.chip.fld F.PWR_DOM_OWNER d == core && s.chip.domOn d) →
      ((∀ d ∈ ds, s.chip.refuseCode core d = 0) → Gives (.wfi core) s fun t =>
        core ∈ t.chip.pwr.wfi ∧
        (ds ≠ [] → t.chip.pwr.commitAt = some s.chip.now ∧ t.chip.fld F.PWR_CNT_ENTRIES = (s.chip.fld F.PWR_CNT_ENTRIES + 1) % 2 ^ 32) ∧
        (∀ d ∈ ds, t.chip.domState d = 3 ∧ t.chip.fld F.PWR_DOM_ARM d = 0 ∧
          pget t.chip.pwr.entry d = some (s.chip.now, s.chip.fld F.PWR_DOM_ARM d)) ∧
        RegsBut ((RegId.pwrCnt, 0) :: ds.map fun d => (RegId.pwrDom, d)) s t ∧ Only [.pwr, .regs] s t) ∧
      ((∃ d ∈ ds, s.chip.refuseCode core d ≠ 0) → Gives (.wfi core) s fun t =>
        t.chip.fld F.PWR_CNT_REFUSED = satAdd 16 (s.chip.fld F.PWR_CNT_REFUSED) 1 ∧
        (∀ d ∈ ds, t.chip.fld F.PWR_DOM_ARM d = 0 ∧ t.chip.domState d = 0 ∧
          t.chip.fld F.PWR_DOM_REFUSE d = if s.chip.refuseCode core d = 0 then 5 else s.chip.refuseCode core d) ∧
        RegsBut ((RegId.pwrCnt, 0) :: (RegId.evrecStat, 0) :: ds.map fun d => (RegId.pwrDom, d)) s t ∧ Only [.regs, .ev] s t)) ∧
    (∀ core, 16 ≤ core → exec (.wfi core) s = .next s) ∧
    (∀ d t0 target, d < 33 → (d < 11 ∨ 18 < d) → target < 4 → pget s.chip.pwr.entry d = some (t0, target) → s.chip.waking d = 0 →
      Gives (.domainEntryComplete d) s fun t =>
        t.chip.domState d = target ∧ t.chip.pwr = { s.chip.pwr with entry := pdel s.chip.pwr.entry d } ∧ Posts srcPwr 0x6002 [d, target] s t ∧
        RegsBut [(.pwrDom, d), (.evrecStat, 0)] s t ∧ Only [.regs, .pwr, .ev] s t) ∧
    (∀ d, pget s.chip.pwr.entry d = none → exec (.domainEntryComplete d) s = .next s) ∧
    (∀ src, 5 ≤ src → src ≤ 7 →
      (∀ t0, s.chip.pwr.commitAt = some t0 → s.chip.now < t0 + 120 → exec (.wakeEdge src) s = .next s) ∧
      (s.chip.pwr.commitAt = none → Gives (.wakeEdge src) s fun t =>
        bitOf (t.chip.reg .pwrEdge 0) (src - 5) = true ∧
        (∀ d, d < 33 → s.chip.domState d = 0 → t.chip.reg .pwrDom d = s.chip.reg .pwrDom d) ∧
        (∀ d, d < 33 → s.chip.domPair d = [d] → s.chip.domState d = 1 → bitOf (s.chip.fld F.PWR_DOM_WAKEEN d) src = true → t.chip.domState d = 3) ∧
        Only [.regs, .pwr, .out] s t)) ∧
    (∀ src, src < 5 ∨ 7 < src → exec (.wakeEdge src) s = .next s) ∧
    (∀ d src, (d ≤ 32 ∧ (src = 1 ∨ src = 3)) ∨ (src = 2 ∧ 19 ≤ d ∧ d ≤ 22) → Gives (.wakeLevel d src) s fun t =>
      (d, src) ∈ t.chip.pwr.levels ∧
      (s.chip.domPair d = [d] → s.chip.domState d = 1 → bitOf (s.chip.fld F.PWR_DOM_WAKEEN d) src = true → t.chip.domState d = 3) ∧
      (∀ k, k < 33 → s.chip.domState k = 0 → t.chip.reg .pwrDom k = s.chip.reg .pwrDom k) ∧ Only [.regs, .pwr, .out] s t) ∧
    (∀ d, d ≤ 32 → s.chip.domFused d = false → s.chip.domPair d = [d] → pget s.chip.pwr.entry d = none →
      (s.chip.domState d = 1 ∨ s.chip.domState d = 2 → Gives (.domainWake d) s fun t =>
        t.chip.domState d = 3 ∧ pget t.chip.pwr.exits d = some (s.chip.now, s.chip.domState d) ∧ Sends [.fwIrq srcPwr] s t ∧
        RegsBut [(.pwrDom, d)] s t ∧ Only [.regs, .pwr, .out] s t) ∧
      (s.chip.domState d = 0 ∨ s.chip.domState d = 3 → exec (.domainWake d) s = .next s)) ∧
    (s.chip.flag F.PWR_TIMER_EN = true → Gives .pwrTimerExpiry s fun t =>
      t.chip.fld F.PWR_TIMER_COUNT = 0 ∧ t.chip.flag F.PWR_TIMER_EXPIRED = true ∧
      t.chip.now = max s.chip.now (s.chip.pwr.timerAt + s.chip.fld F.PWR_TIMER_COUNT * 30518) ∧
      (∀ k, k < 33 → s.chip.domState k = 0 → t.chip.reg .pwrDom k = s.chip.reg .pwrDom k) ∧ Only [.regs, .pwr, .out, .now] s t) ∧
    (s.chip.flag F.PWR_TIMER_EN = false → exec .pwrTimerExpiry s = .next s) ∧
    (∀ d w b l, pget s.chip.pwr.exits d = none → exec (.domainExitComplete d w b l) s = .next s) ∧
    (∀ d since was, pget s.chip.pwr.exits d = some (since, was) → s.chip.wr = [] →
      (∀ w b l, 5 ≤ d → d ≤ 10 → Gives (.domainExitComplete d w b l) s fun t =>
        t.chip.domState d = 0 ∧ pget t.chip.pwr.exits d = none ∧
        Posts srcPwr 0x6003 [d, s.chip.fld F.PWR_DOM_WAKE_CAUSE d, (s.chip.now - since) / 1000] s t ∧
        RegsBut [(.pwrDom, d), (.evrecStat, 0)] s t ∧ Only [.regs, .pwr, .ev] s t) ∧
      (∀ w b, 23 ≤ d → d ≤ 30 → was = 1 → Gives (.domainExitComplete d w b none) s fun t =>
        t.chip.domState d = 0 ∧ t.chip.fld F.PWR_RETSTAT_CORRECTED = min w 65535 ∧
        RegsBut [(.pwrDom, d), (.pwrRetstat, 0), (.evrecStat, 0)] s t ∧ Only [.regs, .pwr, .ev] s t) ∧
      (∀ w b cause, 23 ≤ d → d ≤ 30 → was = 1 → Gives (.domainExitComplete d w b (some cause)) s fun t =>
        t.chip.domState d = 0 ∧ t.chip.flag F.PWR_DOM_RET_LOST d = true ∧ bitOf (t.chip.reg .pwrRetstat 0) (d - 23) = true ∧
        (∀ a, 0x10000000000 + (d - 23) * 2 ^ 25 ≤ a → a < 0x10000000000 + (d - 23 + 1) * 2 ^ 25 → readByte t a = memUnlisted) ∧
        MemBut (0x10000000000 + (d - 23) * 2 ^ 25) (2 ^ 25) s t ∧ RegsBut [(.pwrDom, d), (.pwrRetstat, 0), (.evrecStat, 0)] s t ∧
        OnlyMem [.regs, .pwr, .ev] s t) ∧
      (∀ w b, 23 ≤ d → d ≤ 30 → was = 2 → Gives (.domainExitComplete d w b none) s fun t =>
        t.chip.domState d = 0 ∧
        (∀ a, 0x10000000000 + (d - 23) * 2 ^ 25 ≤ a → a < 0x10000000000 + (d - 23 + 1) * 2 ^ 25 → readByte t a = memUnlisted) ∧
        MemBut (0x10000000000 + (d - 23) * 2 ^ 25) (2 ^ 25) s t ∧ RegsBut [(.pwrDom, d), (.evrecStat, 0)] s t ∧ OnlyMem [.regs, .pwr, .ev] s t))

/-! The event recorder -/

/-- EVENT_RECORD, STAGING_AGE_EXPIRY, FLUSH_INTERVAL_EXPIRY, COUNTER_CHECKPOINT and FIRMWARE_EVENT_POST (R513 to R524, R533): the event at the head of the
first queue that holds one is counted, and recorded unless its event makes no record; staged records go to the log; the counters go to the medium; firmware
posts codes 0xF00 to 0xFFF. -/
def Obligations.EventsAreRecorded : Prop :=
  ∀ s : State,
    ((∀ q ∈ s.chip.ev.queues, q.2 = []) → exec .eventRecord s = .next s) ∧
    (∀ src e rest cs, (s.chip.ev.queues.find? fun q => !q.2.isEmpty) = some (src, e :: rest) →
      cs = pset s.chip.ev.counters (counterIndex e.id) (countOne ((pget s.chip.ev.counters (counterIndex e.id)).getD counterZero)
        (if eventHasValue e.id then e.items.getLast? else none) s.chip.stamp) →
      (histogramOnly e.id = true → Gives .eventRecord s fun t =>
        t.chip.ev = { s.chip.ev with queues := mset [] s.chip.ev.queues src rest, counters := cs } ∧ Only [.ev] s t) ∧
      (histogramOnly e.id = false → s.chip.ev.dropRun = 0 → Gives .eventRecord s fun t =>
        s.chip.makeRec e ∈ t.chip.ev.ring ∧ (∀ k, k ≠ srcEvrec → (pget t.chip.ev.queues k).getD [] = if k = src then rest else (pget s.chip.ev.queues k).getD []) ∧
        RegsBut [(.evrecStat, 0)] s t ∧ Only [.ev, .m, .regs] s t) ∧
      (histogramOnly e.id = false → s.chip.ev.dropRun = 0 → s.chip.ev.logFull = false → s.chip.stagedBytes + (s.chip.makeRec e).len ≤ 4064 →
        bitOf (s.chip.fld F.EVREC_CTL_FLUSH_CLS) (e.id / 4096) = false → bitOf (s.chip.fld F.EVREC_CTL_BB_CLS) (e.id / 4096) = false →
        Gives .eventRecord s fun t =>
          t.chip.ev = { s.chip.ev with
            queues := mset [] s.chip.ev.queues src rest, counters := cs, nextRsn := s.chip.ev.nextRsn + 1
            ring := (s.chip.ev.ring ++ [s.chip.makeRec e]).drop (s.chip.ev.ring.length + 1 - 4096)
            staging := s.chip.ev.staging ++ [s.chip.makeRec e], stagedAt := if s.chip.ev.staging.isEmpty then s.chip.now else s.chip.ev.stagedAt } ∧
          Only [.ev] s t)) ∧
    (s.chip.ev.staging = [] → exec .stagingAgeExpiry s = .next s) ∧
    (PageReady s.chip → Gives .stagingAgeExpiry s fun t =>
      PageWritten 1 s t ∧ t.chip.ev.lastPage = s.chip.ev.lastPage ∧
      t.chip.now = max s.chip.now (s.chip.ev.stagedAt + ms (max 10 (s.chip.fld F.EVREC_CTL_FLUSH_MS)))) ∧
    (s.chip.ev.lastPage = none ∨ s.chip.ev.waitPage = false → exec .flushIntervalExpiry s = .next s) ∧
    (∀ t0, s.chip.ev.lastPage = some t0 → s.chip.ev.waitPage = true → PageReady s.chip → Gives .flushIntervalExpiry s fun t =>
      PageWritten 2 s t ∧ t.chip.ev.lastPage = some t.chip.now ∧ t.chip.ev.waitPage = false ∧ t.chip.now = max s.chip.now (t0 + s.chip.flushMin)) ∧
    (s.chip.ev.restored = false ∨ s.chip.ev.clear ≠ none → exec .counterCheckpoint s = .next s) ∧
    (s.chip.ev.restored = true → s.chip.ev.clear = none → Gives .counterCheckpoint s fun t =>
      t.chip.ev = { s.chip.ev with
        ckptSerial := s.chip.ev.ckptSerial + 1
        ckptNew := some (s.chip.ev.ckptSerial, s.chip.ev.counters, s.chip.opTime, s.chip.ev.cycles, s.chip.ev.nextRsn) } ∧
      t.chip.m.nextOp = s.chip.m.nextOp + (if s.chip.ev.ckptSerial % 384 = 383 then 6 else 3) ∧ Only [.ev, .m] s t) ∧
    (∀ core id items, core < 16 → 0xF00 ≤ id % 4096 → id < 65536 → ((pget s.chip.ev.queues (srcCore core)).getD []).length < 16 →
      Gives (.firmwareEventPost core id items) s fun t =>
        pget t.chip.ev.queues (srcCore core) = some ((pget s.chip.ev.queues (srcCore core)).getD [] ++
          [⟨id, items.take 6, srcCore core, core * 16 + 2⟩]) ∧
        (∀ k, k ≠ srcCore core → pget t.chip.ev.queues k = pget s.chip.ev.queues k) ∧ Only [.ev] s t) ∧
    (∀ core id items, core < 16 → id % 4096 < 0xF00 ∨ 65536 ≤ id → Gives (.firmwareEventPost core id items) s fun t =>
      t.chip.flag F.EVREC_POST_REFUSED core = true ∧ RegsBut [(.evrecPost, core)] s t ∧ Only [.regs] s t)

/-- EVENT_CLEAR and EVENT_WINDOW_READ (R529 to R532), XA On: the checks in their order, each with its result and status, a new nonce once the key is looked at, an event for
a failed authentication; a clear that passes is under way, and completes only later. A window shows what its cursor asks for. LOG_PAGE_C0 to LOG_PAGE_C5 (R348, R375,
R390, R433, R490, R527, R528): a PF is given the page from its offset on; C0 is given to a function attached to the namespace of its query range too; any other
function is given none of them. -/
def Obligations.RecorderIsReadAndCleared : Prop :=
  ((∀ (s : State) (tag : Nat) (data : List Byte) (x : Ctx), s.chip.ctx tag = some x → x.st = .firmware → x.sent = false → tag < 65536 →
    (s.chip.flag F.EVREC_CLRCMD_BUSY = true → exec (.eventClear tag data) s = .next s) ∧
    (s.chip.flag F.EVREC_CLRCMD_BUSY = false → s.chip.domOn domXa = true →
      (∀ k st, s.chip.clearCheck x data = some (k, st) → Gives (.eventClear tag data) s fun t =>
        t.chip.fld F.EVREC_CLRCMD_TAG = tag ∧ t.chip.fld F.EVREC_CLRCMD_RESULT = k ∧ t.chip.flag F.EVREC_CLRCMD_BUSY = false ∧ Completes tag st 0 s t ∧
        (isPf x.fn = false → k = 1 ∧ st = .invalidOpcode) ∧
        (k < 3 → t.chip.ev = s.chip.ev ∧ t.chip.fresh = s.chip.fresh) ∧
        (3 ≤ k → t.chip.ev.nonce = BitVec.ofNat 64 (Config.freeValue s.chip.fresh).toNat ∧ Posts srcEvrec 0x9033 [portOf x.fn, k] s t) ∧
        t.chip.ev.clear = s.chip.ev.clear ∧ t.chip.ev.log = s.chip.ev.log ∧ t.chip.ev.images = s.chip.ev.images ∧
        RegsBut [(.evrecClrcmd, 0), (.evrecStat, 0)] s t ∧ Only [.ev, .regs, .intake, .fresh] s t) ∧
      (s.chip.clearCheck x data = none → Gives (.eventClear tag data) s fun t =>
        t.chip.flag F.EVREC_CLRCMD_BUSY = true ∧ t.chip.ev.nonce = BitVec.ofNat 64 (Config.freeValue s.chip.fresh).toNat ∧
        (∃ j, t.chip.ev.clear = some j ∧ j.tag = tag ∧ j.scope = numAt data 8 4 ∧
          (s.chip.recorderBusy 1 = true → j.c = none) ∧ (s.chip.recorderBusy 1 = false → j.c = some s.chip.ev.nextRsn)) ∧
        t.chip.ev.log = s.chip.ev.log ∧ t.chip.ev.ring = s.chip.ev.ring ∧ t.chip.ev.images = s.chip.ev.images ∧ t.chip.ev.counters = s.chip.ev.counters ∧
        RegsBut [(.evrecClrcmd, 0)] s t ∧ Only [.ev, .m, .regs, .fresh] s t))) ∧
  (∀ (s : State) (win source image cursor : Nat), source < 4 → image < 256 → cursor < 2 ^ 48 →
    (4 < win → exec (.eventWindowRead win source image cursor) s = .next s) ∧
    (∀ r : List (Nat × List Byte) × Nat × Nat × Nat × Nat, win ≤ 4 →
      r = (if source = 3 then ([], 4, cursor, 0, 0) else s.chip.recRead source image cursor 3840) →
      Gives (.eventWindowRead win source image cursor) s fun t =>
        t.chip.fld F.EVW_CUR_SOURCE win = source ∧ t.chip.fld F.EVW_CUR_IMAGE win = image ∧ t.chip.fld F.EVW_CUR_CURSOR win = cursor ∧
        t.chip.flag F.EVW_STAT_READY win = true ∧ t.chip.fld F.EVW_STAT_FLAGS win = r.2.1 ∧ t.chip.fld F.EVW_STAT_ENTRIES win = r.1.length ∧
        t.chip.fld F.EVW_NEXT_NEXT win = r.2.2.1 % 2 ^ 64 ∧
        t.chip.ev = { s.chip.ev with windows := pset s.chip.ev.windows win (r.1.map fun e => e.2.map BitVec.toNat) } ∧
        RegsBut [(.evwCur, win), (.evwStat, win), (.evwNext, win)] s t ∧ Only [.ev, .regs] s t))) ∧
  (∀ (s : State) (tag : Nat) (x : Ctx), s.chip.starts tag x →
    (isPf x.fn = true ∨ (∃ q, (s.chip.fn x.fn).query = some q ∧ q.nsid ∈ (s.chip.fn x.fn).nsids) →
      ReturnsPage (.logPageC0 tag) tag x (s.chip.pageC0 x.fn) s) ∧
    (isPf x.fn = true →
      ReturnsPage (.logPageC1 tag) tag x s.chip.pageC1 s ∧ ReturnsPage (.logPageC3 tag) tag x s.chip.pageC3 s ∧
      ReturnsPage (.logPageC4 tag) tag x s.chip.pageC4 s ∧ ReturnsPage (.logPageC5 tag) tag x (s.chip.pageC5 (portOf x.fn)) s ∧
      (x.lsp % 4 ≠ 3 → Gives (.logPageC2 tag) s fun t =>
        Sends [.hostData tag 0 ((s.chip.pageC2 x).take x.logLen)] s t ∧ Completes tag .success 0 s t ∧ Only [.intake, .out] s t) ∧
      (x.lsp % 4 = 3 → Gives (.logPageC2 tag) s fun t => Completes tag .invalidField 0 s t ∧ Only [.intake] s t)) ∧
    (isPf x.fn = false →
      (∀ i ∈ [Instr.logPageC1 tag, .logPageC2 tag, .logPageC3 tag, .logPageC4 tag, .logPageC5 tag], Gives i s fun t =>
        Completes tag .invalidLogPage 0 s t ∧ Only [.intake] s t) ∧
      ((∀ q, (s.chip.fn x.fn).query = some q → q.nsid ∉ (s.chip.fn x.fn).nsids) → Gives (.logPageC0 tag) s fun t =>
        Completes tag .invalidLogPage 0 s t ∧ Only [.intake] s t)))


/-! Boot and firmware -/

/-- ROM_BOOT, REPLAY and HANDOFF (R465, R537 to R542): a boot runs once after a release; with no image to accept it stops; with one, and eight equal channels
that train and pass, DRAM is zero and every core runs from its cold entry. The ROM service REPLAY returns a sequence number once; HANDOFF unmaps the ROM once. -/
def Obligations.BootRunsAnImage : Prop :=
  (∀ (s : State) (d : BootData),
    (s.chip.supply.held = true ∨ s.chip.sys.booted = true → exec (.romBoot d) s = .next s) ∧
    (s.chip.supply.held = false → s.chip.sys.booted = false → s.chip.wr = [] →
      ((∀ k, k < 8 → s.chip.fld F.DRC_SELFTEST_MODE k = 0) → s.chip.imageFails (s.chip.slotBytes 1) ≠ none → s.chip.imageFails (s.chip.slotBytes 2) ≠ none →
        Gives (.romBoot d) s fun t =>
          t.chip.fld F.SYS_BOOT_STAGE = 0xFF ∧ t.chip.fld F.SYS_BOOT_FAIL_CAUSE = 1 ∧ t.chip.sys = { s.chip.sys with booted := true, romMapped := true } ∧
          (∀ p, p < 4 → t.chip.cfs (256 * p) = true) ∧ t.chip.now = s.chip.now + d.ns ∧ Only [.regs, .sys, .keys, .supply, .ev, .now] s t) ∧
      (∀ slot img a, slot = s.chip.firstSlot → slot = 1 ∨ slot = 2 → img = s.chip.slotBytes slot → s.chip.imageFails img = none →
        d.chans = List.replicate 8 a → a.mismatch a = none → a.failStep = none → a.pages = [] → d.links = [] → d.failed = [] → d.badDies = [] →
        s.chip.fuses.init = true → Gives (.romBoot d) s fun t =>
          t.chip.fld F.SYS_BOOT_STAGE = 2 ∧ t.chip.fld F.SYS_BOOT_SLOT = slot ∧ t.chip.flag F.SYS_BOOT_FALLBACK = false ∧
          t.chip.sys.running = some (runningOf slot img) ∧ CoresRun (runningOf slot img).cold s t ∧ t.chip.sys.booted = true ∧ t.chip.sys.romMapped = true ∧
          (∀ k, k < 8 → t.chip.flag F.DRC_GEOM_TRAINED k = true ∧ t.chip.fld F.DRC_GEOM_CAP_GIB k = a.capGib) ∧
          (∀ k, k < 2 ^ 39 → readByte t k = memUnlisted) ∧
          (∀ k, 2 ^ 39 ≤ k → ¬ (0xE100000000 ≤ k ∧ k < 0xE102000000) → readByte t k = readByte s k) ∧ t.chip.now = s.chip.now + d.ns ∧
          OnlyMem [.regs, .sys, .keys, .supply, .ev, .m, .fuses, .pwr, .out, .now] s t))) ∧
  (∀ (s : State) (d : ReplayData),
    (s.chip.sys.romMapped = false ∨ s.chip.sys.booted = false ∨ s.chip.sys.running = none ∨ s.chip.sys.replayed ≠ none → exec (.replay d) s = .next s) ∧
    (s.chip.sys.romMapped = true → s.chip.sys.booted = true → s.chip.sys.running ≠ none → s.chip.sys.replayed = none → Gives (.replay d) s fun t =>
      ∃ n, t.chip.sys = { s.chip.sys with replayed := some n } ∧ t.chip.out.head? = some (.coreData 0 n) ∧ t.chip.ev.restored = true ∧
        RegsBut [(.evrecStat, 0), (.zmapPoolstat, 0), (.stripeMemstat, 0), (.stripeJmir, 0), (.patrolScan, 0)] s t ∧
        Only [.sys, .out, .regs, .ev, .z, .m] s t)) ∧
  (∀ s : State,
    (s.chip.flag F.SYS_BOOT_HANDOFF = true ∨ s.chip.sys.running = none → exec .handoff s = .next s) ∧
    (s.chip.flag F.SYS_BOOT_HANDOFF = false → s.chip.sys.running ≠ none → Gives .handoff s fun t =>
      t.chip.flag F.SYS_BOOT_HANDOFF = true ∧ t.chip.fld F.SYS_BOOT_STAGE = 3 ∧ t.chip.sys = { s.chip.sys with romMapped := false } ∧
      Posts srcSys 0x9001 [(s.chip.now - s.chip.sys.released) / 1000000] s t ∧ RegsBut [(.sysBoot, 0), (.evrecStat, 0)] s t ∧ Only [.regs, .sys, .ev] s t))

/-- FIRMWARE_IMAGE_DOWNLOAD and FIRMWARE_COMMIT (R119, R539, R543, R544): the checks with their status; a piece is kept until an image that passes the checks
is written to a slot; FIRST of the newest boot record names the slot for the next start; action 3 waits for its activation. -/
def Obligations.FirmwareIsCommitted : Prop :=
  ∀ (s : State) (tag : Nat) (x : Ctx), s.chip.starts tag x →
    (isPf x.fn = false →
      (∀ data, Gives (.firmwareImageDownload tag data) s fun t => Completes tag .invalidOpcode 0 s t ∧ Only [.intake] s t) ∧
      (Gives (.firmwareCommit tag) s fun t => Completes tag .invalidOpcode 0 s t ∧ Only [.intake] s t)) ∧
    (isPf x.fn = true →
      (∀ data len off, len = 4 * (x.dw 10 + 1) → off = 4 * x.dw 11 →
        (len % 4096 ≠ 0 ∨ off % 4096 ≠ 0 ∨ 0x400000 < off + len → Gives (.firmwareImageDownload tag data) s fun t =>
          Completes tag .invalidField 0 s t ∧ Only [.intake] s t) ∧
        (len % 4096 = 0 → off % 4096 = 0 → off + len ≤ 0x400000 → Gives (.firmwareImageDownload tag data) s fun t =>
          Completes tag .success 0 s t ∧ t.chip.sys = { s.chip.sys with pieces := pset s.chip.sys.pieces off (padTo len data) } ∧ Only [.intake, .sys] s t)) ∧
      (s.chip.sys.commit ≠ none → Gives (.firmwareCommit tag) s fun t => Completes tag .commandSequenceError 0 s t ∧ Only [.intake] s t) ∧
      (∀ fs act slot img, s.chip.sys.commit = none → fs = bitsOf (x.dw 10) 2 0 → act = bitsOf (x.dw 10) 5 3 → slot = s.chip.commitSlot fs →
        img = joinPieces s.chip.sys.pieces [] →
        (3 < act → Gives (.firmwareCommit tag) s fun t => Completes tag .invalidField 0 s t ∧ Only [.intake] s t) ∧
        (act ≤ 3 → 2 < fs → Gives (.firmwareCommit tag) s fun t => Completes tag .invalidFirmwareSlot 0 s t ∧ Only [.intake] s t) ∧
        (act = 2 → fs ≤ 2 →
          (s.chip.imageFails (s.chip.slotBytes slot) ≠ none → Gives (.firmwareCommit tag) s fun t =>
            Completes tag .invalidFirmwareSlot 0 s t ∧ Only [.intake] s t) ∧
          (s.chip.imageFails (s.chip.slotBytes slot) = none → Gives (.firmwareCommit tag) s fun t =>
            Completes tag .firmwareNeedsReset 0 s t ∧ t.chip.firstSlot = slot ∧ t.chip.sys.flash = s.chip.sys.flash ∧ Only [.intake, .sys] s t)) ∧
        (act = 0 ∨ act = 1 ∨ act = 3 → fs ≤ 2 →
          (∀ k, s.chip.imageFails img = some k → Gives (.firmwareCommit tag) s fun t =>
            Completes tag (if k = 4 then .firmwareProhibited else .invalidFirmwareImage) 0 s t ∧ Only [.intake] s t) ∧
          (s.chip.imageFails img = none → Gives (.firmwareCommit tag) s fun t =>
            t.chip.sys.flash = pset s.chip.sys.flash slot img ∧ t.chip.sys.pieces = [] ∧
            (act = 0 → Completes tag .success 0 s t ∧ t.chip.sys.bootRecs = s.chip.sys.bootRecs ∧ Only [.intake, .sys] s t) ∧
            (act = 1 → Completes tag .firmwareNeedsReset 0 s t ∧ t.chip.firstSlot = slot ∧ Only [.intake, .sys] s t) ∧
            (act = 3 → t.chip.firstSlot = slot ∧ t.chip.sys.commit = some (tag, slot) ∧ t.chip.fld F.SYS_FWACT_RESULT = 0 ∧
              t.chip.ctx tag = some { x with st := .firmware, kind := .admin } ∧ t.chip.intake.postQ = s.chip.intake.postQ ∧
              RegsBut [(.sysFwact, 0)] s t ∧ Only [.intake, .sys, .regs] s t)))))
end

