-- ==== Sys2Proof/Laws/Bits.lean ====
section
/-! SUPPORT. Laws of bit fields: what a field reads after a write of it, and after a write of another one. -/

namespace Sys2Proof.Machine

theorem bitsOf_lt (w hi lo : Nat) : bitsOf w hi lo < 2 ^ (hi + 1 - lo) := Nat.mod_lt _ (Nat.two_pow_pos _)

theorem bitsOf_testBit (w hi lo j : Nat) : (bitsOf w hi lo).testBit j = (decide (j < hi + 1 - lo) && w.testBit (lo + j)) := by
  unfold bitsOf
  rw [Nat.testBit_mod_two_pow, Nat.testBit_div_two_pow, Nat.add_comm j lo]

/-- The bits of a word after a field of it is written. -/
theorem putBits_testBit (w hi lo v j : Nat) (h : lo ≤ hi) :
    (putBits w hi lo v).testBit j = if lo ≤ j ∧ j ≤ hi then v.testBit (j - lo) else w.testBit j := by
  have e : putBits w hi lo v = 2 ^ lo * (2 ^ (hi + 1 - lo) * (w / 2 ^ (hi + 1)) + v % 2 ^ (hi + 1 - lo)) + w % 2 ^ lo := by
    unfold putBits
    have hp : (2 : Nat) ^ (hi + 1) = 2 ^ lo * 2 ^ (hi + 1 - lo) := by rw [← Nat.pow_add]; congr 1; omega
    generalize w / 2 ^ (hi + 1) = q
    have c : q * (2 ^ lo * 2 ^ (hi + 1 - lo)) = 2 ^ lo * (2 ^ (hi + 1 - lo) * q) := by
      rw [Nat.mul_comm q, Nat.mul_assoc]
    rw [hp, c, Nat.mul_add, Nat.mul_comm (v % _) (2 ^ lo)]
    omega
  rw [e, Nat.testBit_two_pow_mul_add _ (Nat.mod_lt _ (Nat.two_pow_pos _))]
  split
  · rename_i h1
    rw [if_neg (by omega), Nat.testBit_mod_two_pow]
    simp [h1]
  · rename_i h1
    rw [Nat.testBit_two_pow_mul_add _ (Nat.mod_lt _ (Nat.two_pow_pos _))]
    split
    · rename_i h2
      rw [if_pos (by omega), Nat.testBit_mod_two_pow]
      simp [h2]
    · rename_i h2
      rw [if_neg (by omega), Nat.testBit_div_two_pow]
      congr 1
      omega

@[simp] theorem bitsOf_putBits_same (w hi lo v : Nat) (h : lo ≤ hi) : bitsOf (putBits w hi lo v) hi lo = v % 2 ^ (hi + 1 - lo) := by
  apply Nat.eq_of_testBit_eq
  intro j
  rw [bitsOf_testBit, putBits_testBit _ _ _ _ _ h, Nat.testBit_mod_two_pow]
  by_cases hj : j < hi + 1 - lo
  · rw [if_pos (by omega)]
    congr 2
    omega
  · simp [hj]

theorem bitsOf_putBits_other (w hi lo v : Nat) {hi' lo' : Nat} (h : lo ≤ hi) (hd : hi' < lo ∨ hi < lo') :
    bitsOf (putBits w hi lo v) hi' lo' = bitsOf w hi' lo' := by
  apply Nat.eq_of_testBit_eq
  intro j
  rw [bitsOf_testBit, bitsOf_testBit, putBits_testBit _ _ _ _ _ h]
  by_cases hj : j < hi' + 1 - lo'
  · rw [if_neg (by omega)]
  · simp [hj]

theorem bitsOf_mod_word (w hi lo : Nat) (h : hi ≤ 63) : bitsOf (w % 2 ^ 64) hi lo = bitsOf w hi lo := by
  apply Nat.eq_of_testBit_eq
  intro j
  rw [bitsOf_testBit, bitsOf_testBit, Nat.testBit_mod_two_pow]
  by_cases hj : j < hi + 1 - lo
  · have : lo + j < 64 := by omega
    simp [this]
  · simp [hj]

theorem b2n_le (b : Bool) : b2n b ≤ 1 := by cases b <;> decide

theorem leBytes_length (n v : Nat) : (leBytes n v).length = n := by
  induction n generalizing v with
  | zero => rfl
  | succ n ih => simp [leBytes, ih]

theorem leNum_leBytes (n v : Nat) : leNum (leBytes n v) = v % 256 ^ n := by
  induction n generalizing v with
  | zero => simp [leBytes, leNum, Nat.mod_one]
  | succ n ih =>
    simp only [leBytes, leNum, ih, BitVec.toNat_ofNat]
    have e : (256 : Nat) ^ (n + 1) = 2 ^ 8 * 256 ^ n := Nat.pow_succ'
    rw [e]
    exact (Nat.mod_mul (x := v) (a := 2 ^ 8) (b := 256 ^ n)).symm

end Sys2Proof.Machine
end

