-- ==== Sys2Proof/Laws/Maps.lean ====
section
/-! SUPPORT. Laws of finite maps: what a read gives after a write, and that every operation keeps the keys rising. -/

namespace Sys2Proof.Machine

variable {α : Type}

@[simp] theorem pget_nil (k : Nat) : pget ([] : PMap α) k = none := rfl

@[simp] theorem pget_pset_same (m : PMap α) (k : Nat) (v : α) : pget (pset m k v) k = some v := by
  induction m with
  | nil => simp [pset, pget]
  | cons e t ih =>
    obtain ⟨k', v'⟩ := e
    simp only [pset]
    split
    · simp [pget]
    · split
      · simp [pget]
      · simp [pget, *]

theorem pget_pset_ne (m : PMap α) {k j : Nat} (v : α) (h : j ≠ k) : pget (pset m k v) j = pget m j := by
  induction m with
  | nil => simp [pset, pget, h]
  | cons e t ih =>
    obtain ⟨k', v'⟩ := e
    simp only [pset]
    split
    · simp [pget, h]
    · split
      · rename_i h1 h2
        subst h2
        simp [pget, h]
      · simp [pget, ih]

@[simp] theorem pget_pdel_same (m : PMap α) (k : Nat) : pget (pdel m k) k = none := by
  induction m with
  | nil => rfl
  | cons e t ih =>
    obtain ⟨k', v'⟩ := e
    simp only [pdel]
    split
    · exact ih
    · rename_i h
      simp [pget, h, ih]

theorem pget_pdel_ne (m : PMap α) {k j : Nat} (h : j ≠ k) : pget (pdel m k) j = pget m j := by
  induction m with
  | nil => rfl
  | cons e t ih =>
    obtain ⟨k', v'⟩ := e
    simp only [pdel]
    split
    · rename_i h1
      subst h1
      simp [pget, h, ih]
    · simp [pget, ih]

@[simp] theorem mget_mset_same [DecidableEq α] (d : α) (m : PMap α) (k : Nat) (v : α) : mget d (mset d m k v) k = v := by
  unfold mget mset
  split
  · rename_i h
    simp [h]
  · simp

theorem mget_mset_ne [DecidableEq α] (d : α) (m : PMap α) {k j : Nat} (v : α) (h : j ≠ k) : mget d (mset d m k v) j = mget d m j := by
  unfold mget mset
  split
  · rw [pget_pdel_ne m h]
  · rw [pget_pset_ne m v h]

theorem pget_pmod_same (m : PMap α) (k : Nat) (f : α → α) : pget (pmod m k f) k = (pget m k).map f := by
  unfold pmod
  split
  · rename_i v h
    simp [h]
  · rename_i h
    simp [h]

theorem pget_pmod_ne (m : PMap α) {k j : Nat} (f : α → α) (h : j ≠ k) : pget (pmod m k f) j = pget m j := by
  unfold pmod
  split
  · exact pget_pset_ne m _ h
  · rfl

/-- Keys above a bound: what the rising of keys says of a tail. -/
def above (b : Nat) (m : PMap α) : Prop := ∀ e ∈ m, b < e.1

theorem keysRise_cons (e : Nat × α) (t : PMap α) : keysRise (e :: t) = true ↔ above e.1 t ∧ keysRise t = true := by
  induction t generalizing e with
  | nil => simp [keysRise, above]
  | cons x t ih =>
    obtain ⟨k, v⟩ := e
    obtain ⟨k', v'⟩ := x
    simp only [keysRise, Bool.and_eq_true, decide_eq_true_eq]
    constructor
    · rintro ⟨h1, h2⟩
      refine ⟨?_, h2⟩
      intro e he
      rcases List.mem_cons.mp he with rfl | he
      · exact h1
      · exact Nat.lt_trans h1 ((ih (k', v')).mp h2 |>.1 e he)
    · rintro ⟨h1, h2⟩
      exact ⟨h1 (k', v') (by simp), h2⟩

theorem above_pset {m : PMap α} {b k : Nat} {v : α} (h : above b m) (hk : b < k) : above b (pset m k v) := by
  induction m with
  | nil => intro e he; simp [pset] at he; subst he; exact hk
  | cons x t ih =>
    obtain ⟨k', v'⟩ := x
    have ht : above b t := fun e he => h e (by simp [he])
    intro e he
    simp only [pset] at he
    split at he
    · rcases List.mem_cons.mp he with rfl | he
      · exact hk
      · exact h e he
    · split at he
      · rcases List.mem_cons.mp he with rfl | he
        · exact hk
        · exact ht e he
      · rcases List.mem_cons.mp he with rfl | he
        · exact h _ (by simp)
        · exact ih ht e he

theorem keysRise_pset {m : PMap α} (k : Nat) (v : α) (h : keysRise m = true) : keysRise (pset m k v) = true := by
  induction m with
  | nil => rfl
  | cons x t ih =>
    obtain ⟨k', v'⟩ := x
    obtain ⟨ha, ht⟩ := (keysRise_cons (k', v') t).mp h
    simp only [pset]
    split
    · rename_i hlt
      refine (keysRise_cons _ _).mpr ⟨?_, h⟩
      intro e he
      rcases List.mem_cons.mp he with rfl | he
      · exact hlt
      · exact Nat.lt_trans hlt (ha e he)
    · split
      · rename_i heq
        subst heq
        exact (keysRise_cons _ _).mpr ⟨ha, ht⟩
      · rename_i h1 h2
        exact (keysRise_cons _ _).mpr ⟨above_pset ha (by simp only at h1 h2 ⊢; omega), ih ht⟩

theorem mem_pdel {m : PMap α} {k : Nat} {e : Nat × α} (h : e ∈ pdel m k) : e ∈ m := by
  induction m with
  | nil => exact h
  | cons x t ih =>
    obtain ⟨k', v'⟩ := x
    simp only [pdel] at h
    split at h
    · exact List.mem_cons_of_mem _ (ih h)
    · rcases List.mem_cons.mp h with rfl | h
      · exact List.mem_cons_self
      · exact List.mem_cons_of_mem _ (ih h)

theorem keysRise_pdel {m : PMap α} (k : Nat) (h : keysRise m = true) : keysRise (pdel m k) = true := by
  induction m with
  | nil => rfl
  | cons x t ih =>
    obtain ⟨k', v'⟩ := x
    obtain ⟨ha, ht⟩ := (keysRise_cons (k', v') t).mp h
    simp only [pdel]
    split
    · exact ih ht
    · exact (keysRise_cons _ _).mpr ⟨fun e he => ha e (mem_pdel he), ih ht⟩

theorem mem_pset {m : PMap α} {k : Nat} {v : α} {e : Nat × α} (h : e ∈ pset m k v) : e = (k, v) ∨ e ∈ m := by
  induction m with
  | nil => left; simpa [pset] using h
  | cons x t ih =>
    obtain ⟨k', v'⟩ := x
    simp only [pset] at h
    split at h
    · rcases List.mem_cons.mp h with rfl | h
      · exact .inl rfl
      · exact .inr h
    · split at h
      · rcases List.mem_cons.mp h with rfl | h
        · exact .inl rfl
        · exact .inr (List.mem_cons_of_mem _ h)
      · rcases List.mem_cons.mp h with rfl | h
        · exact .inr List.mem_cons_self
        · rcases ih h with h | h
          · exact .inl h
          · exact .inr (List.mem_cons_of_mem _ h)

theorem keysRise_filter {m : PMap α} (p : Nat × α → Bool) (h : keysRise m = true) : keysRise (m.filter p) = true := by
  induction m with
  | nil => rfl
  | cons x t ih =>
    obtain ⟨ha, ht⟩ := (keysRise_cons x t).mp h
    simp only [List.filter]
    split
    · exact (keysRise_cons _ _).mpr ⟨fun e he => ha e (List.mem_filter.mp he).1, ih ht⟩
    · exact ih ht

end Sys2Proof.Machine
end

