-- ==== Sys2Proof/Laws/Regs.lean ====
section
/-! SUPPORT. Laws of the register file: what a register and a field read after a write, and what a write leaves alone. -/

namespace Sys2Proof.Machine

theorem ctorIdx_inj {r r' : RegId} (h : r.ctorIdx = r'.ctorIdx) : r = r' := by
  have := congrArg RegId.ofNat h
  rwa [RegId.ofNat_ctorIdx, RegId.ofNat_ctorIdx] at this

theorem regKey_inj {r r' : RegId} {i i' : Nat} (h : regKey r i = regKey r' i') (hi : i < 65536) (hi' : i' < 65536) : r = r' ∧ i = i' := by
  unfold regKey at h
  exact ⟨ctorIdx_inj (by omega), by omega⟩

theorem regKey_ne {r r' : RegId} {i i' : Nat} (hi : i < 65536) (hi' : i' < 65536) (h : r ≠ r' ∨ i ≠ i') : regKey r i ≠ regKey r' i' := by
  intro e
  obtain ⟨h1, h2⟩ := regKey_inj e hi hi'
  rcases h with h | h
  · exact h h1
  · exact h h2

@[simp] theorem reg_setReg_same (c : Chip) (r : RegId) (i v : Nat) : (c.setReg r i v).reg r i = v % 2 ^ 64 := by
  unfold Chip.setReg
  split
  · rename_i h
    simp only [Chip.reg, pget_pdel_same]
    exact h.symm
  · simp [Chip.reg]

theorem reg_setReg_ne (c : Chip) {r r' : RegId} {i i' : Nat} (v : Nat) (h : regKey r' i' ≠ regKey r i) :
    (c.setReg r i v).reg r' i' = c.reg r' i' := by
  unfold Chip.setReg
  split
  · simp only [Chip.reg, pget_pdel_ne _ h]
  · simp only [Chip.reg, pget_pset_ne _ _ h]

/-- A field reads what was written to it, cut to its width. -/
theorem fld_setFld_same (c : Chip) (f : Fld) (v i : Nat) (h : f.lo ≤ f.hi) (h' : f.hi ≤ 63) :
    (c.setFld f v i).fld f i = v % 2 ^ (f.hi + 1 - f.lo) := by
  unfold Chip.fld Chip.setFld
  rw [reg_setReg_same, bitsOf_mod_word _ _ _ h', bitsOf_putBits_same _ _ _ _ h]

/-- A write of a field leaves the other fields of its register alone. -/
theorem fld_setFld_disjoint (c : Chip) {f g : Fld} (v i : Nat) (hr : f.reg = g.reg) (h : f.lo ≤ f.hi) (hg : g.hi ≤ 63)
    (hd : g.hi < f.lo ∨ f.hi < g.lo) : (c.setFld f v i).fld g i = c.fld g i := by
  unfold Chip.fld Chip.setFld
  rw [← hr, reg_setReg_same, bitsOf_mod_word _ _ _ hg, bitsOf_putBits_other _ _ _ _ h hd]

/-- A write of a field leaves every other register alone. -/
theorem reg_setFld_ne (c : Chip) (f : Fld) (v i : Nat) {r : RegId} {j : Nat} (h : regKey r j ≠ regKey f.reg i) :
    (c.setFld f v i).reg r j = c.reg r j := reg_setReg_ne c _ h

theorem fld_setFld_ne (c : Chip) (f : Fld) (v i : Nat) {g : Fld} {j : Nat} (h : regKey g.reg j ≠ regKey f.reg i) :
    (c.setFld f v i).fld g j = c.fld g j := by
  unfold Chip.fld
  rw [reg_setFld_ne c f v i h]

theorem flag_setFld_ne (c : Chip) (f : Fld) (v i : Nat) {g : Fld} {j : Nat} (h : regKey g.reg j ≠ regKey f.reg i) :
    (c.setFld f v i).flag g j = c.flag g j := by
  unfold Chip.flag
  rw [fld_setFld_ne c f v i h]

/-- A recorder post changes the recorder, and of the registers EVREC_STAT alone. -/
theorem reg_postAs (c : Chip) (src id : Nat) (items : List Nat) (code : Nat) {r : RegId} {i : Nat} (h : regKey r i ≠ regKey .evrecStat 0) :
    (c.postAs src id items code).reg r i = c.reg r i := by
  unfold Chip.postAs
  split
  · dsimp only
    split
    · rfl
    · exact reg_setReg_ne _ _ h
  · rfl

theorem reg_post (c : Chip) (src id : Nat) (items : List Nat) {r : RegId} {i : Nat} (h : regKey r i ≠ regKey .evrecStat 0) :
    (c.post src id items).reg r i = c.reg r i := reg_postAs c src id items 0 h

/-- A source that is present takes an event into its queue while that holds fewer than sixteen. -/
theorem post_queue (c : Chip) (src id : Nat) (items : List Nat) (hp : c.sourcePresent src = true)
    (hq : ((pget c.ev.queues src).getD []).length < 16) :
    pget (c.post src id items).ev.queues src = some ((pget c.ev.queues src).getD [] ++ [⟨id, items, src, 0⟩]) := by
  unfold Chip.post Chip.postAs
  rw [if_pos hp]
  dsimp only
  rw [if_pos hq]
  simp

end Sys2Proof.Machine
end

