-- ==== Sys2Proof/Laws/Fields.lean ====
section
/-! SUPPORT. The fields of a register (R39 to R41): they lie inside 64 bits and do not overlap, so an operation over all of them acts on
each alone. -/

namespace Sys2Proof.Machine

/-- The fields of every register lie in the word. -/
theorem regFields_in_word (r : RegId) : ∀ f ∈ regFields r, f.lo ≤ f.hi ∧ f.hi ≤ 63 := by
  cases r <;> decide

/-- No two fields of a register share a bit. -/
theorem regFields_disjoint (r : RegId) : (regFields r).Pairwise fun f g => f.hi < g.lo ∨ g.hi < f.lo := by
  cases r <;> decide

/-- An operation over a list of fields leaves every bit outside them. -/
theorem bitsOf_foldl_other (l : List FieldSpec) (k : Nat → FieldSpec → Nat) (skip : FieldSpec → Bool) (w hi lo : Nat)
    (h1 : ∀ f ∈ l, f.lo ≤ f.hi) (h2 : ∀ f ∈ l, hi < f.lo ∨ f.hi < lo) :
    bitsOf (l.foldl (fun w f => if skip f then w else putBits w f.hi f.lo (k w f)) w) hi lo = bitsOf w hi lo := by
  induction l generalizing w with
  | nil => rfl
  | cons a t ih =>
    rw [List.foldl_cons, ih _ (fun f hf => h1 f (List.mem_cons_of_mem _ hf)) (fun f hf => h2 f (List.mem_cons_of_mem _ hf))]
    split
    · rfl
    · exact bitsOf_putBits_other _ _ _ _ (h1 a (by simp)) (h2 a (by simp))

/-- An operation over disjoint fields, each from its own bits, gives each field its own result. -/
theorem bitsOf_foldl_same (l : List FieldSpec) (k : Nat → FieldSpec → Nat) (skip : FieldSpec → Bool) (w : Nat) (f : FieldSpec) (hf : f ∈ l)
    (h1 : ∀ f ∈ l, f.lo ≤ f.hi) (h2 : l.Pairwise fun f g => f.hi < g.lo ∨ g.hi < f.lo)
    (hk : ∀ w w' f, bitsOf w f.hi f.lo = bitsOf w' f.hi f.lo → k w f = k w' f) :
    bitsOf (l.foldl (fun w f => if skip f then w else putBits w f.hi f.lo (k w f)) w) f.hi f.lo =
      if skip f then bitsOf w f.hi f.lo else k w f % 2 ^ (f.hi + 1 - f.lo) := by
  induction l generalizing w with
  | nil => cases hf
  | cons a t ih =>
    rw [List.foldl_cons]
    rw [List.pairwise_cons] at h2
    rcases List.mem_cons.mp hf with rfl | hf
    · rw [bitsOf_foldl_other t k skip _ _ _ (fun f hf => h1 f (List.mem_cons_of_mem _ hf)) (fun g hg => (h2.1 g hg))]
      split
      · rfl
      · exact bitsOf_putBits_same _ _ _ _ (h1 f (by simp))
    · rw [ih _ hf (fun f hf => h1 f (List.mem_cons_of_mem _ hf)) h2.2]
      have hd := h2.1 f hf
      have e : bitsOf (if skip a = true then w else putBits w a.hi a.lo (k w a)) f.hi f.lo = bitsOf w f.hi f.lo := by
        split
        · rfl
        · exact bitsOf_putBits_other _ _ _ _ (h1 a (by simp)) (by omega)
      rw [e, hk _ _ _ e]

/-- A full mask covers a field of the word. -/
theorem bitsOf_wholeMask (hi lo : Nat) (h : lo ≤ hi) (h' : hi ≤ 63) : bitsOf wholeMask hi lo = 2 ^ (hi + 1 - lo) - 1 := by
  apply Nat.eq_of_testBit_eq
  intro j
  rw [bitsOf_testBit, Nat.testBit_two_pow_sub_one]
  have e : wholeMask = 2 ^ 64 - 1 := rfl
  rw [e, Nat.testBit_two_pow_sub_one]
  by_cases hj : j < hi + 1 - lo
  · have : lo + j < 64 := by omega
    simp [hj, this]
  · simp [hj]

/-- A read of a register with all its bits reached returns its word, and leaves each field of type RC at 0 and every other field as it was. -/
theorem readClear_field (c : Chip) (r : RegId) (i : Nat) (f : FieldSpec) (hf : f ∈ regFields r) :
    bitsOf ((c.readClear r i wholeMask).2.reg r i) f.hi f.lo = if f.ty = .rc then 0 else bitsOf (c.reg r i) f.hi f.lo := by
  have h1 := regFields_in_word r
  have h2 := regFields_disjoint r
  unfold Chip.readClear
  simp only [reg_setReg_same]
  rw [bitsOf_mod_word _ _ _ (h1 f hf).2]
  have := bitsOf_foldl_same (regFields r) (fun w f => let o := bitsOf w f.hi f.lo; (o - (o &&& bitsOf wholeMask f.hi f.lo)))
    (fun f => !(f.ty == .rc)) (c.reg r i) f hf (fun f hf => (h1 f hf).1) h2 (fun w w' f h => by simp only [h])
  have e : (fun w (f : FieldSpec) => if (!(f.ty == FieldType.rc)) = true then w else
      putBits w f.hi f.lo (let o := bitsOf w f.hi f.lo; (o - (o &&& bitsOf wholeMask f.hi f.lo)))) =
      (fun w (f : FieldSpec) => if f.ty = .rc then let o := bitsOf w f.hi f.lo; putBits w f.hi f.lo (o - (o &&& bitsOf wholeMask f.hi f.lo)) else w) := by
    funext w f
    by_cases h : f.ty = .rc <;> simp [h]
  rw [e] at this
  rw [this]
  by_cases h : f.ty = .rc
  · have hm : bitsOf (c.reg r i) f.hi f.lo &&& (2 ^ (f.hi + 1 - f.lo) - 1) = bitsOf (c.reg r i) f.hi f.lo := by
      rw [Nat.and_two_pow_sub_one_eq_mod]
      exact Nat.mod_eq_of_lt (bitsOf_lt _ _ _)
    simp only [h, bitsOf_wholeMask _ _ (h1 f hf).1 (h1 f hf).2, hm, Nat.sub_self, Nat.zero_mod]
    rfl
  · simp [h]

end Sys2Proof.Machine
end

