-- ==== Sys2Proof/Laws/Memory.lean ====
section
/-! SUPPORT. Laws of memory: a read after a write, and that every operation keeps the canonical form. -/

namespace Sys2Proof.Machine

theorem wf_iff (m : List Host.Cell) : Memory.wf m = true ↔ keysRise m = true ∧ ∀ c ∈ m, c.2 ≠ memUnlisted := by
  simp [Memory.wf, List.all_eq_true]

theorem wf_mset {m : List Host.Cell} (a : Nat) (b : Byte) (h : Memory.wf m = true) : Memory.wf (mset memUnlisted m a b) = true := by
  obtain ⟨h1, h2⟩ := (wf_iff m).mp h
  refine (wf_iff _).mpr ?_
  unfold mset
  split
  · exact ⟨keysRise_pdel a h1, fun c hc => h2 c (mem_pdel hc)⟩
  · rename_i hb
    refine ⟨keysRise_pset a b h1, fun c hc => ?_⟩
    rcases mem_pset hc with rfl | hc
    · exact hb
    · exact h2 c hc

theorem writeByte_inv {s : State} (a : Nat) (b : Byte) (h : s.Inv) : (writeByte s a b).Inv := wf_mset a b h

theorem writeBytes_inv {s : State} (a : Nat) (bs : List Byte) (h : s.Inv) : (writeBytes s a bs).Inv := by
  induction bs generalizing s a with
  | nil => exact h
  | cons b t ih => exact ih (a + 1) (writeByte_inv a b h)

theorem writes_inv (l : List (Nat × List Byte)) {s : State} (h : s.Inv) : (l.foldl (fun s w => writeBytes s w.1 w.2) s).Inv := by
  induction l generalizing s with
  | nil => exact h
  | cons w t ih => exact ih (writeBytes_inv w.1 w.2 h)

theorem flushWrites_inv {s : State} (h : s.Inv) : (flushWrites s).Inv := writes_inv _ h

/-- What a meaning that acts on the part, and stores what it put down, keeps. -/
theorem onChipMem_inv (f : Chip → Chip) {s t : State} (h : s.Inv) (e : onChipMem f s = .next t) : t.Inv := by
  simp only [onChipMem, Host.Outcome.next.injEq] at e
  subst e
  exact flushWrites_inv h

theorem onChip_still (f : Chip → Chip) {s t : State} (e : onChip f s = .next t) : Still s t := by
  simp only [onChip, Host.Outcome.next.injEq] at e
  subst e
  exact ⟨rfl, rfl⟩

theorem onChip_inv (f : Chip → Chip) {s t : State} (h : s.Inv) (e : onChip f s = .next t) : t.Inv := by
  have := (onChip_still f e).1
  unfold State.Inv at *
  rw [this]
  exact h

theorem inv_of_mem {s t : State} (h : s.Inv) (e : t.mem = s.mem) : t.Inv := by
  unfold State.Inv at *
  rw [e]
  exact h

theorem filterMem_inv {s : State} (p : Host.Cell → Bool) (h : s.Inv) : ({ s with mem := s.mem.filter p } : State).Inv := by
  obtain ⟨h1, h2⟩ := (wf_iff _).mp h
  exact (wf_iff _).mpr ⟨keysRise_filter p h1, fun c hc => h2 c (List.mem_filter.mp hc).1⟩

theorem zeroRange_inv {s : State} (lo n : Nat) (h : s.Inv) : (zeroRange s lo n).Inv := filterMem_inv _ h

@[simp] theorem readByte_writeByte_same (s : State) (a : Nat) (b : Byte) : readByte (writeByte s a b) a = b := mget_mset_same _ _ _ _

theorem readByte_writeByte_ne (s : State) {a x : Nat} (b : Byte) (h : x ≠ a) : readByte (writeByte s a b) x = readByte s x :=
  mget_mset_ne _ _ _ h

/-- A write leaves every byte outside its range alone. -/
theorem readByte_writeBytes_out (s : State) (a : Nat) (bs : List Byte) {x : Nat} (h : ¬ (a ≤ x ∧ x < a + bs.length)) :
    readByte (writeBytes s a bs) x = readByte s x := by
  induction bs generalizing s a with
  | nil => rfl
  | cons b t ih =>
    simp only [List.length_cons] at h
    simp only [writeBytes]
    rw [ih (writeByte s a b) (a + 1) (by omega)]
    exact readByte_writeByte_ne s b (by omega)

/-- A write is what a read of its range gives. -/
theorem readBytes_writeBytes (s : State) (a : Nat) (bs : List Byte) : readBytes (writeBytes s a bs) a bs.length = bs := by
  induction bs generalizing s a with
  | nil => rfl
  | cons b t ih =>
    simp only [writeBytes, List.length_cons, readBytes]
    rw [ih, readByte_writeBytes_out _ _ _ (by omega), readByte_writeByte_same]

@[simp] theorem writeByte_chip (s : State) (a : Nat) (b : Byte) : (writeByte s a b).chip = s.chip := rfl
@[simp] theorem writeByte_pending (s : State) (a : Nat) (b : Byte) : (writeByte s a b).pending = s.pending := rfl

@[simp] theorem writeBytes_chip (s : State) (a : Nat) (bs : List Byte) : (writeBytes s a bs).chip = s.chip := by
  induction bs generalizing s a with
  | nil => rfl
  | cons b t ih => simp [writeBytes, ih]

@[simp] theorem writeBytes_pending (s : State) (a : Nat) (bs : List Byte) : (writeBytes s a bs).pending = s.pending := by
  induction bs generalizing s a with
  | nil => rfl
  | cons b t ih => simp [writeBytes, ih]

theorem writes_chip (l : List (Nat × List Byte)) (s : State) : (l.foldl (fun s w => writeBytes s w.1 w.2) s).chip = s.chip := by
  induction l generalizing s with
  | nil => rfl
  | cons w t ih => simp [ih]

theorem writes_pending (l : List (Nat × List Byte)) (s : State) : (l.foldl (fun s w => writeBytes s w.1 w.2) s).pending = s.pending := by
  induction l generalizing s with
  | nil => rfl
  | cons w t ih => simp [ih]

/-- Storing what a step put down changes memory, and leaves nothing put down. -/
@[simp] theorem flushWrites_chip (s : State) : (flushWrites s).chip = { s.chip with wr := [] } := by simp [flushWrites, writes_chip]
@[simp] theorem flushWrites_pending (s : State) : (flushWrites s).pending = s.pending := by simp [flushWrites, writes_pending]

theorem flushWrites_nothing (s : State) (h : s.chip.wr = []) : flushWrites s = s := by
  obtain ⟨m, c, p⟩ := s
  have : ({ c with wr := [] } : Chip) = c := by
    cases c
    simp at h
    simp [h]
  simp only at h
  simp [flushWrites, h, this]

/-- The memory of the part after reset is in its canonical form. -/
theorem reset_memory : Memory.wf State.reset.mem = true := rfl

end Sys2Proof.Machine
end

