-- ==== Sys2Proof/Laws/State.lean ====
section
/-! SUPPORT. What the updates of the state leave alone: one lemma per field per update, and the accessors that read an untouched field. -/

namespace Sys2Proof.Machine

@[simp] theorem Chip.emit_regs (c : Chip) (o : Out) : (c.emit o).regs = c.regs := rfl
@[simp] theorem Chip.emit_fuses (c : Chip) (o : Out) : (c.emit o).fuses = c.fuses := rfl
@[simp] theorem Chip.emit_epoch (c : Chip) (o : Out) : (c.emit o).epoch = c.epoch := rfl
@[simp] theorem Chip.emit_ports (c : Chip) (o : Out) : (c.emit o).ports = c.ports := rfl
@[simp] theorem Chip.emit_fns (c : Chip) (o : Out) : (c.emit o).fns = c.fns := rfl
@[simp] theorem Chip.emit_intake (c : Chip) (o : Out) : (c.emit o).intake = c.intake := rfl
@[simp] theorem Chip.emit_slices (c : Chip) (o : Out) : (c.emit o).slices = c.slices := rfl
@[simp] theorem Chip.emit_ev (c : Chip) (o : Out) : (c.emit o).ev = c.ev := rfl
@[simp] theorem Chip.emit_z (c : Chip) (o : Out) : (c.emit o).z = c.z := rfl
@[simp] theorem Chip.emit_m (c : Chip) (o : Out) : (c.emit o).m = c.m := rfl
@[simp] theorem Chip.emit_xts (c : Chip) (o : Out) : (c.emit o).xts = c.xts := rfl
@[simp] theorem Chip.emit_keys (c : Chip) (o : Out) : (c.emit o).keys = c.keys := rfl
@[simp] theorem Chip.emit_macKey (c : Chip) (o : Out) : (c.emit o).macKey = c.macKey := rfl
@[simp] theorem Chip.emit_digest (c : Chip) (o : Out) : (c.emit o).digest = c.digest := rfl
@[simp] theorem Chip.emit_pwr (c : Chip) (o : Out) : (c.emit o).pwr = c.pwr := rfl
@[simp] theorem Chip.emit_links (c : Chip) (o : Out) : (c.emit o).links = c.links := rfl
@[simp] theorem Chip.emit_supply (c : Chip) (o : Out) : (c.emit o).supply = c.supply := rfl
@[simp] theorem Chip.emit_drcs (c : Chip) (o : Out) : (c.emit o).drcs = c.drcs := rfl
@[simp] theorem Chip.emit_poison (c : Chip) (o : Out) : (c.emit o).poison = c.poison := rfl
@[simp] theorem Chip.emit_sys (c : Chip) (o : Out) : (c.emit o).sys = c.sys := rfl
@[simp] theorem Chip.emit_wr (c : Chip) (o : Out) : (c.emit o).wr = c.wr := rfl
@[simp] theorem Chip.emit_now (c : Chip) (o : Out) : (c.emit o).now = c.now := rfl
@[simp] theorem Chip.emit_fresh (c : Chip) (o : Out) : (c.emit o).fresh = c.fresh := rfl
@[simp] theorem Chip.emit_reg (c : Chip) (o : Out) (r : RegId) (j : Nat) : (c.emit o).reg r j = c.reg r j := rfl
@[simp] theorem Chip.emit_fld (c : Chip) (o : Out) (f : Fld) (j : Nat) : (c.emit o).fld f j = c.fld f j := rfl
@[simp] theorem Chip.emit_flag (c : Chip) (o : Out) (f : Fld) (j : Nat) : (c.emit o).flag f j = c.flag f j := rfl
@[simp] theorem Chip.emit_fn (c : Chip) (o : Out) (k : Nat) : (c.emit o).fn k = c.fn k := rfl
@[simp] theorem Chip.emit_ctx (c : Chip) (o : Out) (k : Nat) : (c.emit o).ctx k = c.ctx k := rfl
@[simp] theorem Chip.emit_port (c : Chip) (o : Out) (k : Nat) : (c.emit o).port k = c.port k := rfl
@[simp] theorem Chip.emit_link (c : Chip) (o : Out) (k : Nat) : (c.emit o).link k = c.link k := rfl
@[simp] theorem Chip.emit_drc (c : Chip) (o : Out) (k : Nat) : (c.emit o).drc k = c.drc k := rfl

@[simp] theorem Chip.advanceTo_regs (c : Chip) (t : Nat) : (c.advanceTo t).regs = c.regs := rfl
@[simp] theorem Chip.advanceTo_fuses (c : Chip) (t : Nat) : (c.advanceTo t).fuses = c.fuses := rfl
@[simp] theorem Chip.advanceTo_epoch (c : Chip) (t : Nat) : (c.advanceTo t).epoch = c.epoch := rfl
@[simp] theorem Chip.advanceTo_ports (c : Chip) (t : Nat) : (c.advanceTo t).ports = c.ports := rfl
@[simp] theorem Chip.advanceTo_fns (c : Chip) (t : Nat) : (c.advanceTo t).fns = c.fns := rfl
@[simp] theorem Chip.advanceTo_intake (c : Chip) (t : Nat) : (c.advanceTo t).intake = c.intake := rfl
@[simp] theorem Chip.advanceTo_slices (c : Chip) (t : Nat) : (c.advanceTo t).slices = c.slices := rfl
@[simp] theorem Chip.advanceTo_ev (c : Chip) (t : Nat) : (c.advanceTo t).ev = c.ev := rfl
@[simp] theorem Chip.advanceTo_z (c : Chip) (t : Nat) : (c.advanceTo t).z = c.z := rfl
@[simp] theorem Chip.advanceTo_m (c : Chip) (t : Nat) : (c.advanceTo t).m = c.m := rfl
@[simp] theorem Chip.advanceTo_xts (c : Chip) (t : Nat) : (c.advanceTo t).xts = c.xts := rfl
@[simp] theorem Chip.advanceTo_keys (c : Chip) (t : Nat) : (c.advanceTo t).keys = c.keys := rfl
@[simp] theorem Chip.advanceTo_macKey (c : Chip) (t : Nat) : (c.advanceTo t).macKey = c.macKey := rfl
@[simp] theorem Chip.advanceTo_digest (c : Chip) (t : Nat) : (c.advanceTo t).digest = c.digest := rfl
@[simp] theorem Chip.advanceTo_pwr (c : Chip) (t : Nat) : (c.advanceTo t).pwr = c.pwr := rfl
@[simp] theorem Chip.advanceTo_links (c : Chip) (t : Nat) : (c.advanceTo t).links = c.links := rfl
@[simp] theorem Chip.advanceTo_supply (c : Chip) (t : Nat) : (c.advanceTo t).supply = c.supply := rfl
@[simp] theorem Chip.advanceTo_drcs (c : Chip) (t : Nat) : (c.advanceTo t).drcs = c.drcs := rfl
@[simp] theorem Chip.advanceTo_poison (c : Chip) (t : Nat) : (c.advanceTo t).poison = c.poison := rfl
@[simp] theorem Chip.advanceTo_sys (c : Chip) (t : Nat) : (c.advanceTo t).sys = c.sys := rfl
@[simp] theorem Chip.advanceTo_wr (c : Chip) (t : Nat) : (c.advanceTo t).wr = c.wr := rfl
@[simp] theorem Chip.advanceTo_out (c : Chip) (t : Nat) : (c.advanceTo t).out = c.out := rfl
@[simp] theorem Chip.advanceTo_fresh (c : Chip) (t : Nat) : (c.advanceTo t).fresh = c.fresh := rfl
@[simp] theorem Chip.advanceTo_reg (c : Chip) (t : Nat) (r : RegId) (j : Nat) : (c.advanceTo t).reg r j = c.reg r j := rfl
@[simp] theorem Chip.advanceTo_fld (c : Chip) (t : Nat) (f : Fld) (j : Nat) : (c.advanceTo t).fld f j = c.fld f j := rfl
@[simp] theorem Chip.advanceTo_flag (c : Chip) (t : Nat) (f : Fld) (j : Nat) : (c.advanceTo t).flag f j = c.flag f j := rfl
@[simp] theorem Chip.advanceTo_fn (c : Chip) (t : Nat) (k : Nat) : (c.advanceTo t).fn k = c.fn k := rfl
@[simp] theorem Chip.advanceTo_ctx (c : Chip) (t : Nat) (k : Nat) : (c.advanceTo t).ctx k = c.ctx k := rfl
@[simp] theorem Chip.advanceTo_port (c : Chip) (t : Nat) (k : Nat) : (c.advanceTo t).port k = c.port k := rfl
@[simp] theorem Chip.advanceTo_link (c : Chip) (t : Nat) (k : Nat) : (c.advanceTo t).link k = c.link k := rfl
@[simp] theorem Chip.advanceTo_drc (c : Chip) (t : Nat) (k : Nat) : (c.advanceTo t).drc k = c.drc k := rfl

@[simp] theorem Chip.setFn_regs (c : Chip) (i : Nat) (x : FnRec) : (c.setFn i x).regs = c.regs := rfl
@[simp] theorem Chip.setFn_fuses (c : Chip) (i : Nat) (x : FnRec) : (c.setFn i x).fuses = c.fuses := rfl
@[simp] theorem Chip.setFn_epoch (c : Chip) (i : Nat) (x : FnRec) : (c.setFn i x).epoch = c.epoch := rfl
@[simp] theorem Chip.setFn_ports (c : Chip) (i : Nat) (x : FnRec) : (c.setFn i x).ports = c.ports := rfl
@[simp] theorem Chip.setFn_intake (c : Chip) (i : Nat) (x : FnRec) : (c.setFn i x).intake = c.intake := rfl
@[simp] theorem Chip.setFn_slices (c : Chip) (i : Nat) (x : FnRec) : (c.setFn i x).slices = c.slices := rfl
@[simp] theorem Chip.setFn_ev (c : Chip) (i : Nat) (x : FnRec) : (c.setFn i x).ev = c.ev := rfl
@[simp] theorem Chip.setFn_z (c : Chip) (i : Nat) (x : FnRec) : (c.setFn i x).z = c.z := rfl
@[simp] theorem Chip.setFn_m (c : Chip) (i : Nat) (x : FnRec) : (c.setFn i x).m = c.m := rfl
@[simp] theorem Chip.setFn_xts (c : Chip) (i : Nat) (x : FnRec) : (c.setFn i x).xts = c.xts := rfl
@[simp] theorem Chip.setFn_keys (c : Chip) (i : Nat) (x : FnRec) : (c.setFn i x).keys = c.keys := rfl
@[simp] theorem Chip.setFn_macKey (c : Chip) (i : Nat) (x : FnRec) : (c.setFn i x).macKey = c.macKey := rfl
@[simp] theorem Chip.setFn_digest (c : Chip) (i : Nat) (x : FnRec) : (c.setFn i x).digest = c.digest := rfl
@[simp] theorem Chip.setFn_pwr (c : Chip) (i : Nat) (x : FnRec) : (c.setFn i x).pwr = c.pwr := rfl
@[simp] theorem Chip.setFn_links (c : Chip) (i : Nat) (x : FnRec) : (c.setFn i x).links = c.links := rfl
@[simp] theorem Chip.setFn_supply (c : Chip) (i : Nat) (x : FnRec) : (c.setFn i x).supply = c.supply := rfl
@[simp] theorem Chip.setFn_drcs (c : Chip) (i : Nat) (x : FnRec) : (c.setFn i x).drcs = c.drcs := rfl
@[simp] theorem Chip.setFn_poison (c : Chip) (i : Nat) (x : FnRec) : (c.setFn i x).poison = c.poison := rfl
@[simp] theorem Chip.setFn_sys (c : Chip) (i : Nat) (x : FnRec) : (c.setFn i x).sys = c.sys := rfl
@[simp] theorem Chip.setFn_wr (c : Chip) (i : Nat) (x : FnRec) : (c.setFn i x).wr = c.wr := rfl
@[simp] theorem Chip.setFn_out (c : Chip) (i : Nat) (x : FnRec) : (c.setFn i x).out = c.out := rfl
@[simp] theorem Chip.setFn_now (c : Chip) (i : Nat) (x : FnRec) : (c.setFn i x).now = c.now := rfl
@[simp] theorem Chip.setFn_fresh (c : Chip) (i : Nat) (x : FnRec) : (c.setFn i x).fresh = c.fresh := rfl
@[simp] theorem Chip.setFn_reg (c : Chip) (i : Nat) (x : FnRec) (r : RegId) (j : Nat) : (c.setFn i x).reg r j = c.reg r j := rfl
@[simp] theorem Chip.setFn_fld (c : Chip) (i : Nat) (x : FnRec) (f : Fld) (j : Nat) : (c.setFn i x).fld f j = c.fld f j := rfl
@[simp] theorem Chip.setFn_flag (c : Chip) (i : Nat) (x : FnRec) (f : Fld) (j : Nat) : (c.setFn i x).flag f j = c.flag f j := rfl
@[simp] theorem Chip.setFn_ctx (c : Chip) (i : Nat) (x : FnRec) (k : Nat) : (c.setFn i x).ctx k = c.ctx k := rfl
@[simp] theorem Chip.setFn_port (c : Chip) (i : Nat) (x : FnRec) (k : Nat) : (c.setFn i x).port k = c.port k := rfl
@[simp] theorem Chip.setFn_link (c : Chip) (i : Nat) (x : FnRec) (k : Nat) : (c.setFn i x).link k = c.link k := rfl
@[simp] theorem Chip.setFn_drc (c : Chip) (i : Nat) (x : FnRec) (k : Nat) : (c.setFn i x).drc k = c.drc k := rfl

@[simp] theorem Chip.modFn_regs (c : Chip) (i : Nat) (g : FnRec → FnRec) : (c.modFn i g).regs = c.regs := rfl
@[simp] theorem Chip.modFn_fuses (c : Chip) (i : Nat) (g : FnRec → FnRec) : (c.modFn i g).fuses = c.fuses := rfl
@[simp] theorem Chip.modFn_epoch (c : Chip) (i : Nat) (g : FnRec → FnRec) : (c.modFn i g).epoch = c.epoch := rfl
@[simp] theorem Chip.modFn_ports (c : Chip) (i : Nat) (g : FnRec → FnRec) : (c.modFn i g).ports = c.ports := rfl
@[simp] theorem Chip.modFn_intake (c : Chip) (i : Nat) (g : FnRec → FnRec) : (c.modFn i g).intake = c.intake := rfl
@[simp] theorem Chip.modFn_slices (c : Chip) (i : Nat) (g : FnRec → FnRec) : (c.modFn i g).slices = c.slices := rfl
@[simp] theorem Chip.modFn_ev (c : Chip) (i : Nat) (g : FnRec → FnRec) : (c.modFn i g).ev = c.ev := rfl
@[simp] theorem Chip.modFn_z (c : Chip) (i : Nat) (g : FnRec → FnRec) : (c.modFn i g).z = c.z := rfl
@[simp] theorem Chip.modFn_m (c : Chip) (i : Nat) (g : FnRec → FnRec) : (c.modFn i g).m = c.m := rfl
@[simp] theorem Chip.modFn_xts (c : Chip) (i : Nat) (g : FnRec → FnRec) : (c.modFn i g).xts = c.xts := rfl
@[simp] theorem Chip.modFn_keys (c : Chip) (i : Nat) (g : FnRec → FnRec) : (c.modFn i g).keys = c.keys := rfl
@[simp] theorem Chip.modFn_macKey (c : Chip) (i : Nat) (g : FnRec → FnRec) : (c.modFn i g).macKey = c.macKey := rfl
@[simp] theorem Chip.modFn_digest (c : Chip) (i : Nat) (g : FnRec → FnRec) : (c.modFn i g).digest = c.digest := rfl
@[simp] theorem Chip.modFn_pwr (c : Chip) (i : Nat) (g : FnRec → FnRec) : (c.modFn i g).pwr = c.pwr := rfl
@[simp] theorem Chip.modFn_links (c : Chip) (i : Nat) (g : FnRec → FnRec) : (c.modFn i g).links = c.links := rfl
@[simp] theorem Chip.modFn_supply (c : Chip) (i : Nat) (g : FnRec → FnRec) : (c.modFn i g).supply = c.supply := rfl
@[simp] theorem Chip.modFn_drcs (c : Chip) (i : Nat) (g : FnRec → FnRec) : (c.modFn i g).drcs = c.drcs := rfl
@[simp] theorem Chip.modFn_poison (c : Chip) (i : Nat) (g : FnRec → FnRec) : (c.modFn i g).poison = c.poison := rfl
@[simp] theorem Chip.modFn_sys (c : Chip) (i : Nat) (g : FnRec → FnRec) : (c.modFn i g).sys = c.sys := rfl
@[simp] theorem Chip.modFn_wr (c : Chip) (i : Nat) (g : FnRec → FnRec) : (c.modFn i g).wr = c.wr := rfl
@[simp] theorem Chip.modFn_out (c : Chip) (i : Nat) (g : FnRec → FnRec) : (c.modFn i g).out = c.out := rfl
@[simp] theorem Chip.modFn_now (c : Chip) (i : Nat) (g : FnRec → FnRec) : (c.modFn i g).now = c.now := rfl
@[simp] theorem Chip.modFn_fresh (c : Chip) (i : Nat) (g : FnRec → FnRec) : (c.modFn i g).fresh = c.fresh := rfl
@[simp] theorem Chip.modFn_reg (c : Chip) (i : Nat) (g : FnRec → FnRec) (r : RegId) (j : Nat) : (c.modFn i g).reg r j = c.reg r j := rfl
@[simp] theorem Chip.modFn_fld (c : Chip) (i : Nat) (g : FnRec → FnRec) (f : Fld) (j : Nat) : (c.modFn i g).fld f j = c.fld f j := rfl
@[simp] theorem Chip.modFn_flag (c : Chip) (i : Nat) (g : FnRec → FnRec) (f : Fld) (j : Nat) : (c.modFn i g).flag f j = c.flag f j := rfl
@[simp] theorem Chip.modFn_ctx (c : Chip) (i : Nat) (g : FnRec → FnRec) (k : Nat) : (c.modFn i g).ctx k = c.ctx k := rfl
@[simp] theorem Chip.modFn_port (c : Chip) (i : Nat) (g : FnRec → FnRec) (k : Nat) : (c.modFn i g).port k = c.port k := rfl
@[simp] theorem Chip.modFn_link (c : Chip) (i : Nat) (g : FnRec → FnRec) (k : Nat) : (c.modFn i g).link k = c.link k := rfl
@[simp] theorem Chip.modFn_drc (c : Chip) (i : Nat) (g : FnRec → FnRec) (k : Nat) : (c.modFn i g).drc k = c.drc k := rfl

@[simp] theorem Chip.modCtx_regs (c : Chip) (i : Nat) (g : Ctx → Ctx) : (c.modCtx i g).regs = c.regs := rfl
@[simp] theorem Chip.modCtx_fuses (c : Chip) (i : Nat) (g : Ctx → Ctx) : (c.modCtx i g).fuses = c.fuses := rfl
@[simp] theorem Chip.modCtx_epoch (c : Chip) (i : Nat) (g : Ctx → Ctx) : (c.modCtx i g).epoch = c.epoch := rfl
@[simp] theorem Chip.modCtx_ports (c : Chip) (i : Nat) (g : Ctx → Ctx) : (c.modCtx i g).ports = c.ports := rfl
@[simp] theorem Chip.modCtx_fns (c : Chip) (i : Nat) (g : Ctx → Ctx) : (c.modCtx i g).fns = c.fns := rfl
@[simp] theorem Chip.modCtx_slices (c : Chip) (i : Nat) (g : Ctx → Ctx) : (c.modCtx i g).slices = c.slices := rfl
@[simp] theorem Chip.modCtx_ev (c : Chip) (i : Nat) (g : Ctx → Ctx) : (c.modCtx i g).ev = c.ev := rfl
@[simp] theorem Chip.modCtx_z (c : Chip) (i : Nat) (g : Ctx → Ctx) : (c.modCtx i g).z = c.z := rfl
@[simp] theorem Chip.modCtx_m (c : Chip) (i : Nat) (g : Ctx → Ctx) : (c.modCtx i g).m = c.m := rfl
@[simp] theorem Chip.modCtx_xts (c : Chip) (i : Nat) (g : Ctx → Ctx) : (c.modCtx i g).xts = c.xts := rfl
@[simp] theorem Chip.modCtx_keys (c : Chip) (i : Nat) (g : Ctx → Ctx) : (c.modCtx i g).keys = c.keys := rfl
@[simp] theorem Chip.modCtx_macKey (c : Chip) (i : Nat) (g : Ctx → Ctx) : (c.modCtx i g).macKey = c.macKey := rfl
@[simp] theorem Chip.modCtx_digest (c : Chip) (i : Nat) (g : Ctx → Ctx) : (c.modCtx i g).digest = c.digest := rfl
@[simp] theorem Chip.modCtx_pwr (c : Chip) (i : Nat) (g : Ctx → Ctx) : (c.modCtx i g).pwr = c.pwr := rfl
@[simp] theorem Chip.modCtx_links (c : Chip) (i : Nat) (g : Ctx → Ctx) : (c.modCtx i g).links = c.links := rfl
@[simp] theorem Chip.modCtx_supply (c : Chip) (i : Nat) (g : Ctx → Ctx) : (c.modCtx i g).supply = c.supply := rfl
@[simp] theorem Chip.modCtx_drcs (c : Chip) (i : Nat) (g : Ctx → Ctx) : (c.modCtx i g).drcs = c.drcs := rfl
@[simp] theorem Chip.modCtx_poison (c : Chip) (i : Nat) (g : Ctx → Ctx) : (c.modCtx i g).poison = c.poison := rfl
@[simp] theorem Chip.modCtx_sys (c : Chip) (i : Nat) (g : Ctx → Ctx) : (c.modCtx i g).sys = c.sys := rfl
@[simp] theorem Chip.modCtx_wr (c : Chip) (i : Nat) (g : Ctx → Ctx) : (c.modCtx i g).wr = c.wr := rfl
@[simp] theorem Chip.modCtx_out (c : Chip) (i : Nat) (g : Ctx → Ctx) : (c.modCtx i g).out = c.out := rfl
@[simp] theorem Chip.modCtx_now (c : Chip) (i : Nat) (g : Ctx → Ctx) : (c.modCtx i g).now = c.now := rfl
@[simp] theorem Chip.modCtx_fresh (c : Chip) (i : Nat) (g : Ctx → Ctx) : (c.modCtx i g).fresh = c.fresh := rfl
@[simp] theorem Chip.modCtx_reg (c : Chip) (i : Nat) (g : Ctx → Ctx) (r : RegId) (j : Nat) : (c.modCtx i g).reg r j = c.reg r j := rfl
@[simp] theorem Chip.modCtx_fld (c : Chip) (i : Nat) (g : Ctx → Ctx) (f : Fld) (j : Nat) : (c.modCtx i g).fld f j = c.fld f j := rfl
@[simp] theorem Chip.modCtx_flag (c : Chip) (i : Nat) (g : Ctx → Ctx) (f : Fld) (j : Nat) : (c.modCtx i g).flag f j = c.flag f j := rfl
@[simp] theorem Chip.modCtx_fn (c : Chip) (i : Nat) (g : Ctx → Ctx) (k : Nat) : (c.modCtx i g).fn k = c.fn k := rfl
@[simp] theorem Chip.modCtx_port (c : Chip) (i : Nat) (g : Ctx → Ctx) (k : Nat) : (c.modCtx i g).port k = c.port k := rfl
@[simp] theorem Chip.modCtx_link (c : Chip) (i : Nat) (g : Ctx → Ctx) (k : Nat) : (c.modCtx i g).link k = c.link k := rfl
@[simp] theorem Chip.modCtx_drc (c : Chip) (i : Nat) (g : Ctx → Ctx) (k : Nat) : (c.modCtx i g).drc k = c.drc k := rfl

@[simp] theorem Chip.put_regs (c : Chip) (a : Nat) (b : List Byte) : (c.put a b).regs = c.regs := rfl
@[simp] theorem Chip.put_fuses (c : Chip) (a : Nat) (b : List Byte) : (c.put a b).fuses = c.fuses := rfl
@[simp] theorem Chip.put_epoch (c : Chip) (a : Nat) (b : List Byte) : (c.put a b).epoch = c.epoch := rfl
@[simp] theorem Chip.put_ports (c : Chip) (a : Nat) (b : List Byte) : (c.put a b).ports = c.ports := rfl
@[simp] theorem Chip.put_fns (c : Chip) (a : Nat) (b : List Byte) : (c.put a b).fns = c.fns := rfl
@[simp] theorem Chip.put_intake (c : Chip) (a : Nat) (b : List Byte) : (c.put a b).intake = c.intake := rfl
@[simp] theorem Chip.put_slices (c : Chip) (a : Nat) (b : List Byte) : (c.put a b).slices = c.slices := rfl
@[simp] theorem Chip.put_ev (c : Chip) (a : Nat) (b : List Byte) : (c.put a b).ev = c.ev := rfl
@[simp] theorem Chip.put_z (c : Chip) (a : Nat) (b : List Byte) : (c.put a b).z = c.z := rfl
@[simp] theorem Chip.put_m (c : Chip) (a : Nat) (b : List Byte) : (c.put a b).m = c.m := rfl
@[simp] theorem Chip.put_xts (c : Chip) (a : Nat) (b : List Byte) : (c.put a b).xts = c.xts := rfl
@[simp] theorem Chip.put_keys (c : Chip) (a : Nat) (b : List Byte) : (c.put a b).keys = c.keys := rfl
@[simp] theorem Chip.put_macKey (c : Chip) (a : Nat) (b : List Byte) : (c.put a b).macKey = c.macKey := rfl
@[simp] theorem Chip.put_digest (c : Chip) (a : Nat) (b : List Byte) : (c.put a b).digest = c.digest := rfl
@[simp] theorem Chip.put_pwr (c : Chip) (a : Nat) (b : List Byte) : (c.put a b).pwr = c.pwr := rfl
@[simp] theorem Chip.put_links (c : Chip) (a : Nat) (b : List Byte) : (c.put a b).links = c.links := rfl
@[simp] theorem Chip.put_supply (c : Chip) (a : Nat) (b : List Byte) : (c.put a b).supply = c.supply := rfl
@[simp] theorem Chip.put_drcs (c : Chip) (a : Nat) (b : List Byte) : (c.put a b).drcs = c.drcs := rfl
@[simp] theorem Chip.put_poison (c : Chip) (a : Nat) (b : List Byte) : (c.put a b).poison = c.poison := rfl
@[simp] theorem Chip.put_sys (c : Chip) (a : Nat) (b : List Byte) : (c.put a b).sys = c.sys := rfl
@[simp] theorem Chip.put_out (c : Chip) (a : Nat) (b : List Byte) : (c.put a b).out = c.out := rfl
@[simp] theorem Chip.put_now (c : Chip) (a : Nat) (b : List Byte) : (c.put a b).now = c.now := rfl
@[simp] theorem Chip.put_fresh (c : Chip) (a : Nat) (b : List Byte) : (c.put a b).fresh = c.fresh := rfl
@[simp] theorem Chip.put_reg (c : Chip) (a : Nat) (b : List Byte) (r : RegId) (j : Nat) : (c.put a b).reg r j = c.reg r j := rfl
@[simp] theorem Chip.put_fld (c : Chip) (a : Nat) (b : List Byte) (f : Fld) (j : Nat) : (c.put a b).fld f j = c.fld f j := rfl
@[simp] theorem Chip.put_flag (c : Chip) (a : Nat) (b : List Byte) (f : Fld) (j : Nat) : (c.put a b).flag f j = c.flag f j := rfl
@[simp] theorem Chip.put_fn (c : Chip) (a : Nat) (b : List Byte) (k : Nat) : (c.put a b).fn k = c.fn k := rfl
@[simp] theorem Chip.put_ctx (c : Chip) (a : Nat) (b : List Byte) (k : Nat) : (c.put a b).ctx k = c.ctx k := rfl
@[simp] theorem Chip.put_port (c : Chip) (a : Nat) (b : List Byte) (k : Nat) : (c.put a b).port k = c.port k := rfl
@[simp] theorem Chip.put_link (c : Chip) (a : Nat) (b : List Byte) (k : Nat) : (c.put a b).link k = c.link k := rfl
@[simp] theorem Chip.put_drc (c : Chip) (a : Nat) (b : List Byte) (k : Nat) : (c.put a b).drc k = c.drc k := rfl

@[simp] theorem Chip.modPort_regs (c : Chip) (i : Nat) (g : Port → Port) : (c.modPort i g).regs = c.regs := rfl
@[simp] theorem Chip.modPort_fuses (c : Chip) (i : Nat) (g : Port → Port) : (c.modPort i g).fuses = c.fuses := rfl
@[simp] theorem Chip.modPort_epoch (c : Chip) (i : Nat) (g : Port → Port) : (c.modPort i g).epoch = c.epoch := rfl
@[simp] theorem Chip.modPort_fns (c : Chip) (i : Nat) (g : Port → Port) : (c.modPort i g).fns = c.fns := rfl
@[simp] theorem Chip.modPort_intake (c : Chip) (i : Nat) (g : Port → Port) : (c.modPort i g).intake = c.intake := rfl
@[simp] theorem Chip.modPort_slices (c : Chip) (i : Nat) (g : Port → Port) : (c.modPort i g).slices = c.slices := rfl
@[simp] theorem Chip.modPort_ev (c : Chip) (i : Nat) (g : Port → Port) : (c.modPort i g).ev = c.ev := rfl
@[simp] theorem Chip.modPort_z (c : Chip) (i : Nat) (g : Port → Port) : (c.modPort i g).z = c.z := rfl
@[simp] theorem Chip.modPort_m (c : Chip) (i : Nat) (g : Port → Port) : (c.modPort i g).m = c.m := rfl
@[simp] theorem Chip.modPort_xts (c : Chip) (i : Nat) (g : Port → Port) : (c.modPort i g).xts = c.xts := rfl
@[simp] theorem Chip.modPort_keys (c : Chip) (i : Nat) (g : Port → Port) : (c.modPort i g).keys = c.keys := rfl
@[simp] theorem Chip.modPort_macKey (c : Chip) (i : Nat) (g : Port → Port) : (c.modPort i g).macKey = c.macKey := rfl
@[simp] theorem Chip.modPort_digest (c : Chip) (i : Nat) (g : Port → Port) : (c.modPort i g).digest = c.digest := rfl
@[simp] theorem Chip.modPort_pwr (c : Chip) (i : Nat) (g : Port → Port) : (c.modPort i g).pwr = c.pwr := rfl
@[simp] theorem Chip.modPort_links (c : Chip) (i : Nat) (g : Port → Port) : (c.modPort i g).links = c.links := rfl
@[simp] theorem Chip.modPort_supply (c : Chip) (i : Nat) (g : Port → Port) : (c.modPort i g).supply = c.supply := rfl
@[simp] theorem Chip.modPort_drcs (c : Chip) (i : Nat) (g : Port → Port) : (c.modPort i g).drcs = c.drcs := rfl
@[simp] theorem Chip.modPort_poison (c : Chip) (i : Nat) (g : Port → Port) : (c.modPort i g).poison = c.poison := rfl
@[simp] theorem Chip.modPort_sys (c : Chip) (i : Nat) (g : Port → Port) : (c.modPort i g).sys = c.sys := rfl
@[simp] theorem Chip.modPort_wr (c : Chip) (i : Nat) (g : Port → Port) : (c.modPort i g).wr = c.wr := rfl
@[simp] theorem Chip.modPort_out (c : Chip) (i : Nat) (g : Port → Port) : (c.modPort i g).out = c.out := rfl
@[simp] theorem Chip.modPort_now (c : Chip) (i : Nat) (g : Port → Port) : (c.modPort i g).now = c.now := rfl
@[simp] theorem Chip.modPort_fresh (c : Chip) (i : Nat) (g : Port → Port) : (c.modPort i g).fresh = c.fresh := rfl
@[simp] theorem Chip.modPort_reg (c : Chip) (i : Nat) (g : Port → Port) (r : RegId) (j : Nat) : (c.modPort i g).reg r j = c.reg r j := rfl
@[simp] theorem Chip.modPort_fld (c : Chip) (i : Nat) (g : Port → Port) (f : Fld) (j : Nat) : (c.modPort i g).fld f j = c.fld f j := rfl
@[simp] theorem Chip.modPort_flag (c : Chip) (i : Nat) (g : Port → Port) (f : Fld) (j : Nat) : (c.modPort i g).flag f j = c.flag f j := rfl
@[simp] theorem Chip.modPort_fn (c : Chip) (i : Nat) (g : Port → Port) (k : Nat) : (c.modPort i g).fn k = c.fn k := rfl
@[simp] theorem Chip.modPort_ctx (c : Chip) (i : Nat) (g : Port → Port) (k : Nat) : (c.modPort i g).ctx k = c.ctx k := rfl
@[simp] theorem Chip.modPort_link (c : Chip) (i : Nat) (g : Port → Port) (k : Nat) : (c.modPort i g).link k = c.link k := rfl
@[simp] theorem Chip.modPort_drc (c : Chip) (i : Nat) (g : Port → Port) (k : Nat) : (c.modPort i g).drc k = c.drc k := rfl

@[simp] theorem Chip.modLink_regs (c : Chip) (i : Nat) (g : Link → Link) : (c.modLink i g).regs = c.regs := rfl
@[simp] theorem Chip.modLink_fuses (c : Chip) (i : Nat) (g : Link → Link) : (c.modLink i g).fuses = c.fuses := rfl
@[simp] theorem Chip.modLink_epoch (c : Chip) (i : Nat) (g : Link → Link) : (c.modLink i g).epoch = c.epoch := rfl
@[simp] theorem Chip.modLink_ports (c : Chip) (i : Nat) (g : Link → Link) : (c.modLink i g).ports = c.ports := rfl
@[simp] theorem Chip.modLink_fns (c : Chip) (i : Nat) (g : Link → Link) : (c.modLink i g).fns = c.fns := rfl
@[simp] theorem Chip.modLink_intake (c : Chip) (i : Nat) (g : Link → Link) : (c.modLink i g).intake = c.intake := rfl
@[simp] theorem Chip.modLink_slices (c : Chip) (i : Nat) (g : Link → Link) : (c.modLink i g).slices = c.slices := rfl
@[simp] theorem Chip.modLink_ev (c : Chip) (i : Nat) (g : Link → Link) : (c.modLink i g).ev = c.ev := rfl
@[simp] theorem Chip.modLink_z (c : Chip) (i : Nat) (g : Link → Link) : (c.modLink i g).z = c.z := rfl
@[simp] theorem Chip.modLink_m (c : Chip) (i : Nat) (g : Link → Link) : (c.modLink i g).m = c.m := rfl
@[simp] theorem Chip.modLink_xts (c : Chip) (i : Nat) (g : Link → Link) : (c.modLink i g).xts = c.xts := rfl
@[simp] theorem Chip.modLink_keys (c : Chip) (i : Nat) (g : Link → Link) : (c.modLink i g).keys = c.keys := rfl
@[simp] theorem Chip.modLink_macKey (c : Chip) (i : Nat) (g : Link → Link) : (c.modLink i g).macKey = c.macKey := rfl
@[simp] theorem Chip.modLink_digest (c : Chip) (i : Nat) (g : Link → Link) : (c.modLink i g).digest = c.digest := rfl
@[simp] theorem Chip.modLink_pwr (c : Chip) (i : Nat) (g : Link → Link) : (c.modLink i g).pwr = c.pwr := rfl
@[simp] theorem Chip.modLink_supply (c : Chip) (i : Nat) (g : Link → Link) : (c.modLink i g).supply = c.supply := rfl
@[simp] theorem Chip.modLink_drcs (c : Chip) (i : Nat) (g : Link → Link) : (c.modLink i g).drcs = c.drcs := rfl
@[simp] theorem Chip.modLink_poison (c : Chip) (i : Nat) (g : Link → Link) : (c.modLink i g).poison = c.poison := rfl
@[simp] theorem Chip.modLink_sys (c : Chip) (i : Nat) (g : Link → Link) : (c.modLink i g).sys = c.sys := rfl
@[simp] theorem Chip.modLink_wr (c : Chip) (i : Nat) (g : Link → Link) : (c.modLink i g).wr = c.wr := rfl
@[simp] theorem Chip.modLink_out (c : Chip) (i : Nat) (g : Link → Link) : (c.modLink i g).out = c.out := rfl
@[simp] theorem Chip.modLink_now (c : Chip) (i : Nat) (g : Link → Link) : (c.modLink i g).now = c.now := rfl
@[simp] theorem Chip.modLink_fresh (c : Chip) (i : Nat) (g : Link → Link) : (c.modLink i g).fresh = c.fresh := rfl
@[simp] theorem Chip.modLink_reg (c : Chip) (i : Nat) (g : Link → Link) (r : RegId) (j : Nat) : (c.modLink i g).reg r j = c.reg r j := rfl
@[simp] theorem Chip.modLink_fld (c : Chip) (i : Nat) (g : Link → Link) (f : Fld) (j : Nat) : (c.modLink i g).fld f j = c.fld f j := rfl
@[simp] theorem Chip.modLink_flag (c : Chip) (i : Nat) (g : Link → Link) (f : Fld) (j : Nat) : (c.modLink i g).flag f j = c.flag f j := rfl
@[simp] theorem Chip.modLink_fn (c : Chip) (i : Nat) (g : Link → Link) (k : Nat) : (c.modLink i g).fn k = c.fn k := rfl
@[simp] theorem Chip.modLink_ctx (c : Chip) (i : Nat) (g : Link → Link) (k : Nat) : (c.modLink i g).ctx k = c.ctx k := rfl
@[simp] theorem Chip.modLink_port (c : Chip) (i : Nat) (g : Link → Link) (k : Nat) : (c.modLink i g).port k = c.port k := rfl
@[simp] theorem Chip.modLink_drc (c : Chip) (i : Nat) (g : Link → Link) (k : Nat) : (c.modLink i g).drc k = c.drc k := rfl

@[simp] theorem Chip.modDrc_regs (c : Chip) (i : Nat) (g : Drc → Drc) : (c.modDrc i g).regs = c.regs := rfl
@[simp] theorem Chip.modDrc_fuses (c : Chip) (i : Nat) (g : Drc → Drc) : (c.modDrc i g).fuses = c.fuses := rfl
@[simp] theorem Chip.modDrc_epoch (c : Chip) (i : Nat) (g : Drc → Drc) : (c.modDrc i g).epoch = c.epoch := rfl
@[simp] theorem Chip.modDrc_ports (c : Chip) (i : Nat) (g : Drc → Drc) : (c.modDrc i g).ports = c.ports := rfl
@[simp] theorem Chip.modDrc_fns (c : Chip) (i : Nat) (g : Drc → Drc) : (c.modDrc i g).fns = c.fns := rfl
@[simp] theorem Chip.modDrc_intake (c : Chip) (i : Nat) (g : Drc → Drc) : (c.modDrc i g).intake = c.intake := rfl
@[simp] theorem Chip.modDrc_slices (c : Chip) (i : Nat) (g : Drc → Drc) : (c.modDrc i g).slices = c.slices := rfl
@[simp] theorem Chip.modDrc_ev (c : Chip) (i : Nat) (g : Drc → Drc) : (c.modDrc i g).ev = c.ev := rfl
@[simp] theorem Chip.modDrc_z (c : Chip) (i : Nat) (g : Drc → Drc) : (c.modDrc i g).z = c.z := rfl
@[simp] theorem Chip.modDrc_m (c : Chip) (i : Nat) (g : Drc → Drc) : (c.modDrc i g).m = c.m := rfl
@[simp] theorem Chip.modDrc_xts (c : Chip) (i : Nat) (g : Drc → Drc) : (c.modDrc i g).xts = c.xts := rfl
@[simp] theorem Chip.modDrc_keys (c : Chip) (i : Nat) (g : Drc → Drc) : (c.modDrc i g).keys = c.keys := rfl
@[simp] theorem Chip.modDrc_macKey (c : Chip) (i : Nat) (g : Drc → Drc) : (c.modDrc i g).macKey = c.macKey := rfl
@[simp] theorem Chip.modDrc_digest (c : Chip) (i : Nat) (g : Drc → Drc) : (c.modDrc i g).digest = c.digest := rfl
@[simp] theorem Chip.modDrc_pwr (c : Chip) (i : Nat) (g : Drc → Drc) : (c.modDrc i g).pwr = c.pwr := rfl
@[simp] theorem Chip.modDrc_links (c : Chip) (i : Nat) (g : Drc → Drc) : (c.modDrc i g).links = c.links := rfl
@[simp] theorem Chip.modDrc_supply (c : Chip) (i : Nat) (g : Drc → Drc) : (c.modDrc i g).supply = c.supply := rfl
@[simp] theorem Chip.modDrc_poison (c : Chip) (i : Nat) (g : Drc → Drc) : (c.modDrc i g).poison = c.poison := rfl
@[simp] theorem Chip.modDrc_sys (c : Chip) (i : Nat) (g : Drc → Drc) : (c.modDrc i g).sys = c.sys := rfl
@[simp] theorem Chip.modDrc_wr (c : Chip) (i : Nat) (g : Drc → Drc) : (c.modDrc i g).wr = c.wr := rfl
@[simp] theorem Chip.modDrc_out (c : Chip) (i : Nat) (g : Drc → Drc) : (c.modDrc i g).out = c.out := rfl
@[simp] theorem Chip.modDrc_now (c : Chip) (i : Nat) (g : Drc → Drc) : (c.modDrc i g).now = c.now := rfl
@[simp] theorem Chip.modDrc_fresh (c : Chip) (i : Nat) (g : Drc → Drc) : (c.modDrc i g).fresh = c.fresh := rfl
@[simp] theorem Chip.modDrc_reg (c : Chip) (i : Nat) (g : Drc → Drc) (r : RegId) (j : Nat) : (c.modDrc i g).reg r j = c.reg r j := rfl
@[simp] theorem Chip.modDrc_fld (c : Chip) (i : Nat) (g : Drc → Drc) (f : Fld) (j : Nat) : (c.modDrc i g).fld f j = c.fld f j := rfl
@[simp] theorem Chip.modDrc_flag (c : Chip) (i : Nat) (g : Drc → Drc) (f : Fld) (j : Nat) : (c.modDrc i g).flag f j = c.flag f j := rfl
@[simp] theorem Chip.modDrc_fn (c : Chip) (i : Nat) (g : Drc → Drc) (k : Nat) : (c.modDrc i g).fn k = c.fn k := rfl
@[simp] theorem Chip.modDrc_ctx (c : Chip) (i : Nat) (g : Drc → Drc) (k : Nat) : (c.modDrc i g).ctx k = c.ctx k := rfl
@[simp] theorem Chip.modDrc_port (c : Chip) (i : Nat) (g : Drc → Drc) (k : Nat) : (c.modDrc i g).port k = c.port k := rfl
@[simp] theorem Chip.modDrc_link (c : Chip) (i : Nat) (g : Drc → Drc) (k : Nat) : (c.modDrc i g).link k = c.link k := rfl

@[simp] theorem Chip.modEv_regs (c : Chip) (g : Recorder → Recorder) : (c.modEv g).regs = c.regs := rfl
@[simp] theorem Chip.modEv_fuses (c : Chip) (g : Recorder → Recorder) : (c.modEv g).fuses = c.fuses := rfl
@[simp] theorem Chip.modEv_epoch (c : Chip) (g : Recorder → Recorder) : (c.modEv g).epoch = c.epoch := rfl
@[simp] theorem Chip.modEv_ports (c : Chip) (g : Recorder → Recorder) : (c.modEv g).ports = c.ports := rfl
@[simp] theorem Chip.modEv_fns (c : Chip) (g : Recorder → Recorder) : (c.modEv g).fns = c.fns := rfl
@[simp] theorem Chip.modEv_intake (c : Chip) (g : Recorder → Recorder) : (c.modEv g).intake = c.intake := rfl
@[simp] theorem Chip.modEv_slices (c : Chip) (g : Recorder → Recorder) : (c.modEv g).slices = c.slices := rfl
@[simp] theorem Chip.modEv_z (c : Chip) (g : Recorder → Recorder) : (c.modEv g).z = c.z := rfl
@[simp] theorem Chip.modEv_m (c : Chip) (g : Recorder → Recorder) : (c.modEv g).m = c.m := rfl
@[simp] theorem Chip.modEv_xts (c : Chip) (g : Recorder → Recorder) : (c.modEv g).xts = c.xts := rfl
@[simp] theorem Chip.modEv_keys (c : Chip) (g : Recorder → Recorder) : (c.modEv g).keys = c.keys := rfl
@[simp] theorem Chip.modEv_macKey (c : Chip) (g : Recorder → Recorder) : (c.modEv g).macKey = c.macKey := rfl
@[simp] theorem Chip.modEv_digest (c : Chip) (g : Recorder → Recorder) : (c.modEv g).digest = c.digest := rfl
@[simp] theorem Chip.modEv_pwr (c : Chip) (g : Recorder → Recorder) : (c.modEv g).pwr = c.pwr := rfl
@[simp] theorem Chip.modEv_links (c : Chip) (g : Recorder → Recorder) : (c.modEv g).links = c.links := rfl
@[simp] theorem Chip.modEv_supply (c : Chip) (g : Recorder → Recorder) : (c.modEv g).supply = c.supply := rfl
@[simp] theorem Chip.modEv_drcs (c : Chip) (g : Recorder → Recorder) : (c.modEv g).drcs = c.drcs := rfl
@[simp] theorem Chip.modEv_poison (c : Chip) (g : Recorder → Recorder) : (c.modEv g).poison = c.poison := rfl
@[simp] theorem Chip.modEv_sys (c : Chip) (g : Recorder → Recorder) : (c.modEv g).sys = c.sys := rfl
@[simp] theorem Chip.modEv_wr (c : Chip) (g : Recorder → Recorder) : (c.modEv g).wr = c.wr := rfl
@[simp] theorem Chip.modEv_out (c : Chip) (g : Recorder → Recorder) : (c.modEv g).out = c.out := rfl
@[simp] theorem Chip.modEv_now (c : Chip) (g : Recorder → Recorder) : (c.modEv g).now = c.now := rfl
@[simp] theorem Chip.modEv_fresh (c : Chip) (g : Recorder → Recorder) : (c.modEv g).fresh = c.fresh := rfl
@[simp] theorem Chip.modEv_reg (c : Chip) (g : Recorder → Recorder) (r : RegId) (j : Nat) : (c.modEv g).reg r j = c.reg r j := rfl
@[simp] theorem Chip.modEv_fld (c : Chip) (g : Recorder → Recorder) (f : Fld) (j : Nat) : (c.modEv g).fld f j = c.fld f j := rfl
@[simp] theorem Chip.modEv_flag (c : Chip) (g : Recorder → Recorder) (f : Fld) (j : Nat) : (c.modEv g).flag f j = c.flag f j := rfl
@[simp] theorem Chip.modEv_fn (c : Chip) (g : Recorder → Recorder) (k : Nat) : (c.modEv g).fn k = c.fn k := rfl
@[simp] theorem Chip.modEv_ctx (c : Chip) (g : Recorder → Recorder) (k : Nat) : (c.modEv g).ctx k = c.ctx k := rfl
@[simp] theorem Chip.modEv_port (c : Chip) (g : Recorder → Recorder) (k : Nat) : (c.modEv g).port k = c.port k := rfl
@[simp] theorem Chip.modEv_link (c : Chip) (g : Recorder → Recorder) (k : Nat) : (c.modEv g).link k = c.link k := rfl
@[simp] theorem Chip.modEv_drc (c : Chip) (g : Recorder → Recorder) (k : Nat) : (c.modEv g).drc k = c.drc k := rfl

@[simp] theorem Chip.modZ_regs (c : Chip) (g : Zmap → Zmap) : (c.modZ g).regs = c.regs := rfl
@[simp] theorem Chip.modZ_fuses (c : Chip) (g : Zmap → Zmap) : (c.modZ g).fuses = c.fuses := rfl
@[simp] theorem Chip.modZ_epoch (c : Chip) (g : Zmap → Zmap) : (c.modZ g).epoch = c.epoch := rfl
@[simp] theorem Chip.modZ_ports (c : Chip) (g : Zmap → Zmap) : (c.modZ g).ports = c.ports := rfl
@[simp] theorem Chip.modZ_fns (c : Chip) (g : Zmap → Zmap) : (c.modZ g).fns = c.fns := rfl
@[simp] theorem Chip.modZ_intake (c : Chip) (g : Zmap → Zmap) : (c.modZ g).intake = c.intake := rfl
@[simp] theorem Chip.modZ_slices (c : Chip) (g : Zmap → Zmap) : (c.modZ g).slices = c.slices := rfl
@[simp] theorem Chip.modZ_ev (c : Chip) (g : Zmap → Zmap) : (c.modZ g).ev = c.ev := rfl
@[simp] theorem Chip.modZ_m (c : Chip) (g : Zmap → Zmap) : (c.modZ g).m = c.m := rfl
@[simp] theorem Chip.modZ_xts (c : Chip) (g : Zmap → Zmap) : (c.modZ g).xts = c.xts := rfl
@[simp] theorem Chip.modZ_keys (c : Chip) (g : Zmap → Zmap) : (c.modZ g).keys = c.keys := rfl
@[simp] theorem Chip.modZ_macKey (c : Chip) (g : Zmap → Zmap) : (c.modZ g).macKey = c.macKey := rfl
@[simp] theorem Chip.modZ_digest (c : Chip) (g : Zmap → Zmap) : (c.modZ g).digest = c.digest := rfl
@[simp] theorem Chip.modZ_pwr (c : Chip) (g : Zmap → Zmap) : (c.modZ g).pwr = c.pwr := rfl
@[simp] theorem Chip.modZ_links (c : Chip) (g : Zmap → Zmap) : (c.modZ g).links = c.links := rfl
@[simp] theorem Chip.modZ_supply (c : Chip) (g : Zmap → Zmap) : (c.modZ g).supply = c.supply := rfl
@[simp] theorem Chip.modZ_drcs (c : Chip) (g : Zmap → Zmap) : (c.modZ g).drcs = c.drcs := rfl
@[simp] theorem Chip.modZ_poison (c : Chip) (g : Zmap → Zmap) : (c.modZ g).poison = c.poison := rfl
@[simp] theorem Chip.modZ_sys (c : Chip) (g : Zmap → Zmap) : (c.modZ g).sys = c.sys := rfl
@[simp] theorem Chip.modZ_wr (c : Chip) (g : Zmap → Zmap) : (c.modZ g).wr = c.wr := rfl
@[simp] theorem Chip.modZ_out (c : Chip) (g : Zmap → Zmap) : (c.modZ g).out = c.out := rfl
@[simp] theorem Chip.modZ_now (c : Chip) (g : Zmap → Zmap) : (c.modZ g).now = c.now := rfl
@[simp] theorem Chip.modZ_fresh (c : Chip) (g : Zmap → Zmap) : (c.modZ g).fresh = c.fresh := rfl
@[simp] theorem Chip.modZ_reg (c : Chip) (g : Zmap → Zmap) (r : RegId) (j : Nat) : (c.modZ g).reg r j = c.reg r j := rfl
@[simp] theorem Chip.modZ_fld (c : Chip) (g : Zmap → Zmap) (f : Fld) (j : Nat) : (c.modZ g).fld f j = c.fld f j := rfl
@[simp] theorem Chip.modZ_flag (c : Chip) (g : Zmap → Zmap) (f : Fld) (j : Nat) : (c.modZ g).flag f j = c.flag f j := rfl
@[simp] theorem Chip.modZ_fn (c : Chip) (g : Zmap → Zmap) (k : Nat) : (c.modZ g).fn k = c.fn k := rfl
@[simp] theorem Chip.modZ_ctx (c : Chip) (g : Zmap → Zmap) (k : Nat) : (c.modZ g).ctx k = c.ctx k := rfl
@[simp] theorem Chip.modZ_port (c : Chip) (g : Zmap → Zmap) (k : Nat) : (c.modZ g).port k = c.port k := rfl
@[simp] theorem Chip.modZ_link (c : Chip) (g : Zmap → Zmap) (k : Nat) : (c.modZ g).link k = c.link k := rfl
@[simp] theorem Chip.modZ_drc (c : Chip) (g : Zmap → Zmap) (k : Nat) : (c.modZ g).drc k = c.drc k := rfl

@[simp] theorem Chip.modL_regs (c : Chip) (g : Ledger → Ledger) : (c.modL g).regs = c.regs := rfl
@[simp] theorem Chip.modL_fuses (c : Chip) (g : Ledger → Ledger) : (c.modL g).fuses = c.fuses := rfl
@[simp] theorem Chip.modL_epoch (c : Chip) (g : Ledger → Ledger) : (c.modL g).epoch = c.epoch := rfl
@[simp] theorem Chip.modL_ports (c : Chip) (g : Ledger → Ledger) : (c.modL g).ports = c.ports := rfl
@[simp] theorem Chip.modL_fns (c : Chip) (g : Ledger → Ledger) : (c.modL g).fns = c.fns := rfl
@[simp] theorem Chip.modL_intake (c : Chip) (g : Ledger → Ledger) : (c.modL g).intake = c.intake := rfl
@[simp] theorem Chip.modL_slices (c : Chip) (g : Ledger → Ledger) : (c.modL g).slices = c.slices := rfl
@[simp] theorem Chip.modL_ev (c : Chip) (g : Ledger → Ledger) : (c.modL g).ev = c.ev := rfl
@[simp] theorem Chip.modL_m (c : Chip) (g : Ledger → Ledger) : (c.modL g).m = c.m := rfl
@[simp] theorem Chip.modL_xts (c : Chip) (g : Ledger → Ledger) : (c.modL g).xts = c.xts := rfl
@[simp] theorem Chip.modL_keys (c : Chip) (g : Ledger → Ledger) : (c.modL g).keys = c.keys := rfl
@[simp] theorem Chip.modL_macKey (c : Chip) (g : Ledger → Ledger) : (c.modL g).macKey = c.macKey := rfl
@[simp] theorem Chip.modL_digest (c : Chip) (g : Ledger → Ledger) : (c.modL g).digest = c.digest := rfl
@[simp] theorem Chip.modL_pwr (c : Chip) (g : Ledger → Ledger) : (c.modL g).pwr = c.pwr := rfl
@[simp] theorem Chip.modL_links (c : Chip) (g : Ledger → Ledger) : (c.modL g).links = c.links := rfl
@[simp] theorem Chip.modL_supply (c : Chip) (g : Ledger → Ledger) : (c.modL g).supply = c.supply := rfl
@[simp] theorem Chip.modL_drcs (c : Chip) (g : Ledger → Ledger) : (c.modL g).drcs = c.drcs := rfl
@[simp] theorem Chip.modL_poison (c : Chip) (g : Ledger → Ledger) : (c.modL g).poison = c.poison := rfl
@[simp] theorem Chip.modL_sys (c : Chip) (g : Ledger → Ledger) : (c.modL g).sys = c.sys := rfl
@[simp] theorem Chip.modL_wr (c : Chip) (g : Ledger → Ledger) : (c.modL g).wr = c.wr := rfl
@[simp] theorem Chip.modL_out (c : Chip) (g : Ledger → Ledger) : (c.modL g).out = c.out := rfl
@[simp] theorem Chip.modL_now (c : Chip) (g : Ledger → Ledger) : (c.modL g).now = c.now := rfl
@[simp] theorem Chip.modL_fresh (c : Chip) (g : Ledger → Ledger) : (c.modL g).fresh = c.fresh := rfl
@[simp] theorem Chip.modL_reg (c : Chip) (g : Ledger → Ledger) (r : RegId) (j : Nat) : (c.modL g).reg r j = c.reg r j := rfl
@[simp] theorem Chip.modL_fld (c : Chip) (g : Ledger → Ledger) (f : Fld) (j : Nat) : (c.modL g).fld f j = c.fld f j := rfl
@[simp] theorem Chip.modL_flag (c : Chip) (g : Ledger → Ledger) (f : Fld) (j : Nat) : (c.modL g).flag f j = c.flag f j := rfl
@[simp] theorem Chip.modL_fn (c : Chip) (g : Ledger → Ledger) (k : Nat) : (c.modL g).fn k = c.fn k := rfl
@[simp] theorem Chip.modL_ctx (c : Chip) (g : Ledger → Ledger) (k : Nat) : (c.modL g).ctx k = c.ctx k := rfl
@[simp] theorem Chip.modL_port (c : Chip) (g : Ledger → Ledger) (k : Nat) : (c.modL g).port k = c.port k := rfl
@[simp] theorem Chip.modL_link (c : Chip) (g : Ledger → Ledger) (k : Nat) : (c.modL g).link k = c.link k := rfl
@[simp] theorem Chip.modL_drc (c : Chip) (g : Ledger → Ledger) (k : Nat) : (c.modL g).drc k = c.drc k := rfl

@[simp] theorem Chip.modM_regs (c : Chip) (g : Media → Media) : (c.modM g).regs = c.regs := rfl
@[simp] theorem Chip.modM_fuses (c : Chip) (g : Media → Media) : (c.modM g).fuses = c.fuses := rfl
@[simp] theorem Chip.modM_epoch (c : Chip) (g : Media → Media) : (c.modM g).epoch = c.epoch := rfl
@[simp] theorem Chip.modM_ports (c : Chip) (g : Media → Media) : (c.modM g).ports = c.ports := rfl
@[simp] theorem Chip.modM_fns (c : Chip) (g : Media → Media) : (c.modM g).fns = c.fns := rfl
@[simp] theorem Chip.modM_intake (c : Chip) (g : Media → Media) : (c.modM g).intake = c.intake := rfl
@[simp] theorem Chip.modM_slices (c : Chip) (g : Media → Media) : (c.modM g).slices = c.slices := rfl
@[simp] theorem Chip.modM_ev (c : Chip) (g : Media → Media) : (c.modM g).ev = c.ev := rfl
@[simp] theorem Chip.modM_z (c : Chip) (g : Media → Media) : (c.modM g).z = c.z := rfl
@[simp] theorem Chip.modM_xts (c : Chip) (g : Media → Media) : (c.modM g).xts = c.xts := rfl
@[simp] theorem Chip.modM_keys (c : Chip) (g : Media → Media) : (c.modM g).keys = c.keys := rfl
@[simp] theorem Chip.modM_macKey (c : Chip) (g : Media → Media) : (c.modM g).macKey = c.macKey := rfl
@[simp] theorem Chip.modM_digest (c : Chip) (g : Media → Media) : (c.modM g).digest = c.digest := rfl
@[simp] theorem Chip.modM_pwr (c : Chip) (g : Media → Media) : (c.modM g).pwr = c.pwr := rfl
@[simp] theorem Chip.modM_links (c : Chip) (g : Media → Media) : (c.modM g).links = c.links := rfl
@[simp] theorem Chip.modM_supply (c : Chip) (g : Media → Media) : (c.modM g).supply = c.supply := rfl
@[simp] theorem Chip.modM_drcs (c : Chip) (g : Media → Media) : (c.modM g).drcs = c.drcs := rfl
@[simp] theorem Chip.modM_poison (c : Chip) (g : Media → Media) : (c.modM g).poison = c.poison := rfl
@[simp] theorem Chip.modM_sys (c : Chip) (g : Media → Media) : (c.modM g).sys = c.sys := rfl
@[simp] theorem Chip.modM_wr (c : Chip) (g : Media → Media) : (c.modM g).wr = c.wr := rfl
@[simp] theorem Chip.modM_out (c : Chip) (g : Media → Media) : (c.modM g).out = c.out := rfl
@[simp] theorem Chip.modM_now (c : Chip) (g : Media → Media) : (c.modM g).now = c.now := rfl
@[simp] theorem Chip.modM_fresh (c : Chip) (g : Media → Media) : (c.modM g).fresh = c.fresh := rfl
@[simp] theorem Chip.modM_reg (c : Chip) (g : Media → Media) (r : RegId) (j : Nat) : (c.modM g).reg r j = c.reg r j := rfl
@[simp] theorem Chip.modM_fld (c : Chip) (g : Media → Media) (f : Fld) (j : Nat) : (c.modM g).fld f j = c.fld f j := rfl
@[simp] theorem Chip.modM_flag (c : Chip) (g : Media → Media) (f : Fld) (j : Nat) : (c.modM g).flag f j = c.flag f j := rfl
@[simp] theorem Chip.modM_fn (c : Chip) (g : Media → Media) (k : Nat) : (c.modM g).fn k = c.fn k := rfl
@[simp] theorem Chip.modM_ctx (c : Chip) (g : Media → Media) (k : Nat) : (c.modM g).ctx k = c.ctx k := rfl
@[simp] theorem Chip.modM_port (c : Chip) (g : Media → Media) (k : Nat) : (c.modM g).port k = c.port k := rfl
@[simp] theorem Chip.modM_link (c : Chip) (g : Media → Media) (k : Nat) : (c.modM g).link k = c.link k := rfl
@[simp] theorem Chip.modM_drc (c : Chip) (g : Media → Media) (k : Nat) : (c.modM g).drc k = c.drc k := rfl

@[simp] theorem Chip.modPwr_regs (c : Chip) (g : Power → Power) : (c.modPwr g).regs = c.regs := rfl
@[simp] theorem Chip.modPwr_fuses (c : Chip) (g : Power → Power) : (c.modPwr g).fuses = c.fuses := rfl
@[simp] theorem Chip.modPwr_epoch (c : Chip) (g : Power → Power) : (c.modPwr g).epoch = c.epoch := rfl
@[simp] theorem Chip.modPwr_ports (c : Chip) (g : Power → Power) : (c.modPwr g).ports = c.ports := rfl
@[simp] theorem Chip.modPwr_fns (c : Chip) (g : Power → Power) : (c.modPwr g).fns = c.fns := rfl
@[simp] theorem Chip.modPwr_intake (c : Chip) (g : Power → Power) : (c.modPwr g).intake = c.intake := rfl
@[simp] theorem Chip.modPwr_slices (c : Chip) (g : Power → Power) : (c.modPwr g).slices = c.slices := rfl
@[simp] theorem Chip.modPwr_ev (c : Chip) (g : Power → Power) : (c.modPwr g).ev = c.ev := rfl
@[simp] theorem Chip.modPwr_z (c : Chip) (g : Power → Power) : (c.modPwr g).z = c.z := rfl
@[simp] theorem Chip.modPwr_m (c : Chip) (g : Power → Power) : (c.modPwr g).m = c.m := rfl
@[simp] theorem Chip.modPwr_xts (c : Chip) (g : Power → Power) : (c.modPwr g).xts = c.xts := rfl
@[simp] theorem Chip.modPwr_keys (c : Chip) (g : Power → Power) : (c.modPwr g).keys = c.keys := rfl
@[simp] theorem Chip.modPwr_macKey (c : Chip) (g : Power → Power) : (c.modPwr g).macKey = c.macKey := rfl
@[simp] theorem Chip.modPwr_digest (c : Chip) (g : Power → Power) : (c.modPwr g).digest = c.digest := rfl
@[simp] theorem Chip.modPwr_links (c : Chip) (g : Power → Power) : (c.modPwr g).links = c.links := rfl
@[simp] theorem Chip.modPwr_supply (c : Chip) (g : Power → Power) : (c.modPwr g).supply = c.supply := rfl
@[simp] theorem Chip.modPwr_drcs (c : Chip) (g : Power → Power) : (c.modPwr g).drcs = c.drcs := rfl
@[simp] theorem Chip.modPwr_poison (c : Chip) (g : Power → Power) : (c.modPwr g).poison = c.poison := rfl
@[simp] theorem Chip.modPwr_sys (c : Chip) (g : Power → Power) : (c.modPwr g).sys = c.sys := rfl
@[simp] theorem Chip.modPwr_wr (c : Chip) (g : Power → Power) : (c.modPwr g).wr = c.wr := rfl
@[simp] theorem Chip.modPwr_out (c : Chip) (g : Power → Power) : (c.modPwr g).out = c.out := rfl
@[simp] theorem Chip.modPwr_now (c : Chip) (g : Power → Power) : (c.modPwr g).now = c.now := rfl
@[simp] theorem Chip.modPwr_fresh (c : Chip) (g : Power → Power) : (c.modPwr g).fresh = c.fresh := rfl
@[simp] theorem Chip.modPwr_reg (c : Chip) (g : Power → Power) (r : RegId) (j : Nat) : (c.modPwr g).reg r j = c.reg r j := rfl
@[simp] theorem Chip.modPwr_fld (c : Chip) (g : Power → Power) (f : Fld) (j : Nat) : (c.modPwr g).fld f j = c.fld f j := rfl
@[simp] theorem Chip.modPwr_flag (c : Chip) (g : Power → Power) (f : Fld) (j : Nat) : (c.modPwr g).flag f j = c.flag f j := rfl
@[simp] theorem Chip.modPwr_fn (c : Chip) (g : Power → Power) (k : Nat) : (c.modPwr g).fn k = c.fn k := rfl
@[simp] theorem Chip.modPwr_ctx (c : Chip) (g : Power → Power) (k : Nat) : (c.modPwr g).ctx k = c.ctx k := rfl
@[simp] theorem Chip.modPwr_port (c : Chip) (g : Power → Power) (k : Nat) : (c.modPwr g).port k = c.port k := rfl
@[simp] theorem Chip.modPwr_link (c : Chip) (g : Power → Power) (k : Nat) : (c.modPwr g).link k = c.link k := rfl
@[simp] theorem Chip.modPwr_drc (c : Chip) (g : Power → Power) (k : Nat) : (c.modPwr g).drc k = c.drc k := rfl

@[simp] theorem Chip.modSup_regs (c : Chip) (g : Supply → Supply) : (c.modSup g).regs = c.regs := rfl
@[simp] theorem Chip.modSup_fuses (c : Chip) (g : Supply → Supply) : (c.modSup g).fuses = c.fuses := rfl
@[simp] theorem Chip.modSup_epoch (c : Chip) (g : Supply → Supply) : (c.modSup g).epoch = c.epoch := rfl
@[simp] theorem Chip.modSup_ports (c : Chip) (g : Supply → Supply) : (c.modSup g).ports = c.ports := rfl
@[simp] theorem Chip.modSup_fns (c : Chip) (g : Supply → Supply) : (c.modSup g).fns = c.fns := rfl
@[simp] theorem Chip.modSup_intake (c : Chip) (g : Supply → Supply) : (c.modSup g).intake = c.intake := rfl
@[simp] theorem Chip.modSup_slices (c : Chip) (g : Supply → Supply) : (c.modSup g).slices = c.slices := rfl
@[simp] theorem Chip.modSup_ev (c : Chip) (g : Supply → Supply) : (c.modSup g).ev = c.ev := rfl
@[simp] theorem Chip.modSup_z (c : Chip) (g : Supply → Supply) : (c.modSup g).z = c.z := rfl
@[simp] theorem Chip.modSup_m (c : Chip) (g : Supply → Supply) : (c.modSup g).m = c.m := rfl
@[simp] theorem Chip.modSup_xts (c : Chip) (g : Supply → Supply) : (c.modSup g).xts = c.xts := rfl
@[simp] theorem Chip.modSup_keys (c : Chip) (g : Supply → Supply) : (c.modSup g).keys = c.keys := rfl
@[simp] theorem Chip.modSup_macKey (c : Chip) (g : Supply → Supply) : (c.modSup g).macKey = c.macKey := rfl
@[simp] theorem Chip.modSup_digest (c : Chip) (g : Supply → Supply) : (c.modSup g).digest = c.digest := rfl
@[simp] theorem Chip.modSup_pwr (c : Chip) (g : Supply → Supply) : (c.modSup g).pwr = c.pwr := rfl
@[simp] theorem Chip.modSup_links (c : Chip) (g : Supply → Supply) : (c.modSup g).links = c.links := rfl
@[simp] theorem Chip.modSup_drcs (c : Chip) (g : Supply → Supply) : (c.modSup g).drcs = c.drcs := rfl
@[simp] theorem Chip.modSup_poison (c : Chip) (g : Supply → Supply) : (c.modSup g).poison = c.poison := rfl
@[simp] theorem Chip.modSup_sys (c : Chip) (g : Supply → Supply) : (c.modSup g).sys = c.sys := rfl
@[simp] theorem Chip.modSup_wr (c : Chip) (g : Supply → Supply) : (c.modSup g).wr = c.wr := rfl
@[simp] theorem Chip.modSup_out (c : Chip) (g : Supply → Supply) : (c.modSup g).out = c.out := rfl
@[simp] theorem Chip.modSup_now (c : Chip) (g : Supply → Supply) : (c.modSup g).now = c.now := rfl
@[simp] theorem Chip.modSup_fresh (c : Chip) (g : Supply → Supply) : (c.modSup g).fresh = c.fresh := rfl
@[simp] theorem Chip.modSup_reg (c : Chip) (g : Supply → Supply) (r : RegId) (j : Nat) : (c.modSup g).reg r j = c.reg r j := rfl
@[simp] theorem Chip.modSup_fld (c : Chip) (g : Supply → Supply) (f : Fld) (j : Nat) : (c.modSup g).fld f j = c.fld f j := rfl
@[simp] theorem Chip.modSup_flag (c : Chip) (g : Supply → Supply) (f : Fld) (j : Nat) : (c.modSup g).flag f j = c.flag f j := rfl
@[simp] theorem Chip.modSup_fn (c : Chip) (g : Supply → Supply) (k : Nat) : (c.modSup g).fn k = c.fn k := rfl
@[simp] theorem Chip.modSup_ctx (c : Chip) (g : Supply → Supply) (k : Nat) : (c.modSup g).ctx k = c.ctx k := rfl
@[simp] theorem Chip.modSup_port (c : Chip) (g : Supply → Supply) (k : Nat) : (c.modSup g).port k = c.port k := rfl
@[simp] theorem Chip.modSup_link (c : Chip) (g : Supply → Supply) (k : Nat) : (c.modSup g).link k = c.link k := rfl
@[simp] theorem Chip.modSup_drc (c : Chip) (g : Supply → Supply) (k : Nat) : (c.modSup g).drc k = c.drc k := rfl

@[simp] theorem Chip.modSys_regs (c : Chip) (g : Sys → Sys) : (c.modSys g).regs = c.regs := rfl
@[simp] theorem Chip.modSys_fuses (c : Chip) (g : Sys → Sys) : (c.modSys g).fuses = c.fuses := rfl
@[simp] theorem Chip.modSys_epoch (c : Chip) (g : Sys → Sys) : (c.modSys g).epoch = c.epoch := rfl
@[simp] theorem Chip.modSys_ports (c : Chip) (g : Sys → Sys) : (c.modSys g).ports = c.ports := rfl
@[simp] theorem Chip.modSys_fns (c : Chip) (g : Sys → Sys) : (c.modSys g).fns = c.fns := rfl
@[simp] theorem Chip.modSys_intake (c : Chip) (g : Sys → Sys) : (c.modSys g).intake = c.intake := rfl
@[simp] theorem Chip.modSys_slices (c : Chip) (g : Sys → Sys) : (c.modSys g).slices = c.slices := rfl
@[simp] theorem Chip.modSys_ev (c : Chip) (g : Sys → Sys) : (c.modSys g).ev = c.ev := rfl
@[simp] theorem Chip.modSys_z (c : Chip) (g : Sys → Sys) : (c.modSys g).z = c.z := rfl
@[simp] theorem Chip.modSys_m (c : Chip) (g : Sys → Sys) : (c.modSys g).m = c.m := rfl
@[simp] theorem Chip.modSys_xts (c : Chip) (g : Sys → Sys) : (c.modSys g).xts = c.xts := rfl
@[simp] theorem Chip.modSys_keys (c : Chip) (g : Sys → Sys) : (c.modSys g).keys = c.keys := rfl
@[simp] theorem Chip.modSys_macKey (c : Chip) (g : Sys → Sys) : (c.modSys g).macKey = c.macKey := rfl
@[simp] theorem Chip.modSys_digest (c : Chip) (g : Sys → Sys) : (c.modSys g).digest = c.digest := rfl
@[simp] theorem Chip.modSys_pwr (c : Chip) (g : Sys → Sys) : (c.modSys g).pwr = c.pwr := rfl
@[simp] theorem Chip.modSys_links (c : Chip) (g : Sys → Sys) : (c.modSys g).links = c.links := rfl
@[simp] theorem Chip.modSys_supply (c : Chip) (g : Sys → Sys) : (c.modSys g).supply = c.supply := rfl
@[simp] theorem Chip.modSys_drcs (c : Chip) (g : Sys → Sys) : (c.modSys g).drcs = c.drcs := rfl
@[simp] theorem Chip.modSys_poison (c : Chip) (g : Sys → Sys) : (c.modSys g).poison = c.poison := rfl
@[simp] theorem Chip.modSys_wr (c : Chip) (g : Sys → Sys) : (c.modSys g).wr = c.wr := rfl
@[simp] theorem Chip.modSys_out (c : Chip) (g : Sys → Sys) : (c.modSys g).out = c.out := rfl
@[simp] theorem Chip.modSys_now (c : Chip) (g : Sys → Sys) : (c.modSys g).now = c.now := rfl
@[simp] theorem Chip.modSys_fresh (c : Chip) (g : Sys → Sys) : (c.modSys g).fresh = c.fresh := rfl
@[simp] theorem Chip.modSys_reg (c : Chip) (g : Sys → Sys) (r : RegId) (j : Nat) : (c.modSys g).reg r j = c.reg r j := rfl
@[simp] theorem Chip.modSys_fld (c : Chip) (g : Sys → Sys) (f : Fld) (j : Nat) : (c.modSys g).fld f j = c.fld f j := rfl
@[simp] theorem Chip.modSys_flag (c : Chip) (g : Sys → Sys) (f : Fld) (j : Nat) : (c.modSys g).flag f j = c.flag f j := rfl
@[simp] theorem Chip.modSys_fn (c : Chip) (g : Sys → Sys) (k : Nat) : (c.modSys g).fn k = c.fn k := rfl
@[simp] theorem Chip.modSys_ctx (c : Chip) (g : Sys → Sys) (k : Nat) : (c.modSys g).ctx k = c.ctx k := rfl
@[simp] theorem Chip.modSys_port (c : Chip) (g : Sys → Sys) (k : Nat) : (c.modSys g).port k = c.port k := rfl
@[simp] theorem Chip.modSys_link (c : Chip) (g : Sys → Sys) (k : Nat) : (c.modSys g).link k = c.link k := rfl
@[simp] theorem Chip.modSys_drc (c : Chip) (g : Sys → Sys) (k : Nat) : (c.modSys g).drc k = c.drc k := rfl

@[simp] theorem Chip.setKey_regs (c : Chip) (i : Nat) (x : KeySlot) : (c.setKey i x).regs = c.regs := rfl
@[simp] theorem Chip.setKey_fuses (c : Chip) (i : Nat) (x : KeySlot) : (c.setKey i x).fuses = c.fuses := rfl
@[simp] theorem Chip.setKey_epoch (c : Chip) (i : Nat) (x : KeySlot) : (c.setKey i x).epoch = c.epoch := rfl
@[simp] theorem Chip.setKey_ports (c : Chip) (i : Nat) (x : KeySlot) : (c.setKey i x).ports = c.ports := rfl
@[simp] theorem Chip.setKey_fns (c : Chip) (i : Nat) (x : KeySlot) : (c.setKey i x).fns = c.fns := rfl
@[simp] theorem Chip.setKey_intake (c : Chip) (i : Nat) (x : KeySlot) : (c.setKey i x).intake = c.intake := rfl
@[simp] theorem Chip.setKey_slices (c : Chip) (i : Nat) (x : KeySlot) : (c.setKey i x).slices = c.slices := rfl
@[simp] theorem Chip.setKey_ev (c : Chip) (i : Nat) (x : KeySlot) : (c.setKey i x).ev = c.ev := rfl
@[simp] theorem Chip.setKey_z (c : Chip) (i : Nat) (x : KeySlot) : (c.setKey i x).z = c.z := rfl
@[simp] theorem Chip.setKey_m (c : Chip) (i : Nat) (x : KeySlot) : (c.setKey i x).m = c.m := rfl
@[simp] theorem Chip.setKey_xts (c : Chip) (i : Nat) (x : KeySlot) : (c.setKey i x).xts = c.xts := rfl
@[simp] theorem Chip.setKey_macKey (c : Chip) (i : Nat) (x : KeySlot) : (c.setKey i x).macKey = c.macKey := rfl
@[simp] theorem Chip.setKey_digest (c : Chip) (i : Nat) (x : KeySlot) : (c.setKey i x).digest = c.digest := rfl
@[simp] theorem Chip.setKey_pwr (c : Chip) (i : Nat) (x : KeySlot) : (c.setKey i x).pwr = c.pwr := rfl
@[simp] theorem Chip.setKey_links (c : Chip) (i : Nat) (x : KeySlot) : (c.setKey i x).links = c.links := rfl
@[simp] theorem Chip.setKey_supply (c : Chip) (i : Nat) (x : KeySlot) : (c.setKey i x).supply = c.supply := rfl
@[simp] theorem Chip.setKey_drcs (c : Chip) (i : Nat) (x : KeySlot) : (c.setKey i x).drcs = c.drcs := rfl
@[simp] theorem Chip.setKey_poison (c : Chip) (i : Nat) (x : KeySlot) : (c.setKey i x).poison = c.poison := rfl
@[simp] theorem Chip.setKey_sys (c : Chip) (i : Nat) (x : KeySlot) : (c.setKey i x).sys = c.sys := rfl
@[simp] theorem Chip.setKey_wr (c : Chip) (i : Nat) (x : KeySlot) : (c.setKey i x).wr = c.wr := rfl
@[simp] theorem Chip.setKey_out (c : Chip) (i : Nat) (x : KeySlot) : (c.setKey i x).out = c.out := rfl
@[simp] theorem Chip.setKey_now (c : Chip) (i : Nat) (x : KeySlot) : (c.setKey i x).now = c.now := rfl
@[simp] theorem Chip.setKey_fresh (c : Chip) (i : Nat) (x : KeySlot) : (c.setKey i x).fresh = c.fresh := rfl
@[simp] theorem Chip.setKey_reg (c : Chip) (i : Nat) (x : KeySlot) (r : RegId) (j : Nat) : (c.setKey i x).reg r j = c.reg r j := rfl
@[simp] theorem Chip.setKey_fld (c : Chip) (i : Nat) (x : KeySlot) (f : Fld) (j : Nat) : (c.setKey i x).fld f j = c.fld f j := rfl
@[simp] theorem Chip.setKey_flag (c : Chip) (i : Nat) (x : KeySlot) (f : Fld) (j : Nat) : (c.setKey i x).flag f j = c.flag f j := rfl
@[simp] theorem Chip.setKey_fn (c : Chip) (i : Nat) (x : KeySlot) (k : Nat) : (c.setKey i x).fn k = c.fn k := rfl
@[simp] theorem Chip.setKey_ctx (c : Chip) (i : Nat) (x : KeySlot) (k : Nat) : (c.setKey i x).ctx k = c.ctx k := rfl
@[simp] theorem Chip.setKey_port (c : Chip) (i : Nat) (x : KeySlot) (k : Nat) : (c.setKey i x).port k = c.port k := rfl
@[simp] theorem Chip.setKey_link (c : Chip) (i : Nat) (x : KeySlot) (k : Nat) : (c.setKey i x).link k = c.link k := rfl
@[simp] theorem Chip.setKey_drc (c : Chip) (i : Nat) (x : KeySlot) (k : Nat) : (c.setKey i x).drc k = c.drc k := rfl

@[simp] theorem Chip.setReg_fuses (c : Chip) (r : RegId) (i v : Nat) : (c.setReg r i v).fuses = c.fuses := by unfold Chip.setReg; split <;> rfl
@[simp] theorem Chip.setReg_epoch (c : Chip) (r : RegId) (i v : Nat) : (c.setReg r i v).epoch = c.epoch := by unfold Chip.setReg; split <;> rfl
@[simp] theorem Chip.setReg_ports (c : Chip) (r : RegId) (i v : Nat) : (c.setReg r i v).ports = c.ports := by unfold Chip.setReg; split <;> rfl
@[simp] theorem Chip.setReg_fns (c : Chip) (r : RegId) (i v : Nat) : (c.setReg r i v).fns = c.fns := by unfold Chip.setReg; split <;> rfl
@[simp] theorem Chip.setReg_intake (c : Chip) (r : RegId) (i v : Nat) : (c.setReg r i v).intake = c.intake := by unfold Chip.setReg; split <;> rfl
@[simp] theorem Chip.setReg_slices (c : Chip) (r : RegId) (i v : Nat) : (c.setReg r i v).slices = c.slices := by unfold Chip.setReg; split <;> rfl
@[simp] theorem Chip.setReg_ev (c : Chip) (r : RegId) (i v : Nat) : (c.setReg r i v).ev = c.ev := by unfold Chip.setReg; split <;> rfl
@[simp] theorem Chip.setReg_z (c : Chip) (r : RegId) (i v : Nat) : (c.setReg r i v).z = c.z := by unfold Chip.setReg; split <;> rfl
@[simp] theorem Chip.setReg_m (c : Chip) (r : RegId) (i v : Nat) : (c.setReg r i v).m = c.m := by unfold Chip.setReg; split <;> rfl
@[simp] theorem Chip.setReg_xts (c : Chip) (r : RegId) (i v : Nat) : (c.setReg r i v).xts = c.xts := by unfold Chip.setReg; split <;> rfl
@[simp] theorem Chip.setReg_keys (c : Chip) (r : RegId) (i v : Nat) : (c.setReg r i v).keys = c.keys := by unfold Chip.setReg; split <;> rfl
@[simp] theorem Chip.setReg_macKey (c : Chip) (r : RegId) (i v : Nat) : (c.setReg r i v).macKey = c.macKey := by unfold Chip.setReg; split <;> rfl
@[simp] theorem Chip.setReg_digest (c : Chip) (r : RegId) (i v : Nat) : (c.setReg r i v).digest = c.digest := by unfold Chip.setReg; split <;> rfl
@[simp] theorem Chip.setReg_pwr (c : Chip) (r : RegId) (i v : Nat) : (c.setReg r i v).pwr = c.pwr := by unfold Chip.setReg; split <;> rfl
@[simp] theorem Chip.setReg_links (c : Chip) (r : RegId) (i v : Nat) : (c.setReg r i v).links = c.links := by unfold Chip.setReg; split <;> rfl
@[simp] theorem Chip.setReg_supply (c : Chip) (r : RegId) (i v : Nat) : (c.setReg r i v).supply = c.supply := by unfold Chip.setReg; split <;> rfl
@[simp] theorem Chip.setReg_drcs (c : Chip) (r : RegId) (i v : Nat) : (c.setReg r i v).drcs = c.drcs := by unfold Chip.setReg; split <;> rfl
@[simp] theorem Chip.setReg_poison (c : Chip) (r : RegId) (i v : Nat) : (c.setReg r i v).poison = c.poison := by unfold Chip.setReg; split <;> rfl
@[simp] theorem Chip.setReg_sys (c : Chip) (r : RegId) (i v : Nat) : (c.setReg r i v).sys = c.sys := by unfold Chip.setReg; split <;> rfl
@[simp] theorem Chip.setReg_wr (c : Chip) (r : RegId) (i v : Nat) : (c.setReg r i v).wr = c.wr := by unfold Chip.setReg; split <;> rfl
@[simp] theorem Chip.setReg_out (c : Chip) (r : RegId) (i v : Nat) : (c.setReg r i v).out = c.out := by unfold Chip.setReg; split <;> rfl
@[simp] theorem Chip.setReg_now (c : Chip) (r : RegId) (i v : Nat) : (c.setReg r i v).now = c.now := by unfold Chip.setReg; split <;> rfl
@[simp] theorem Chip.setReg_fresh (c : Chip) (r : RegId) (i v : Nat) : (c.setReg r i v).fresh = c.fresh := by unfold Chip.setReg; split <;> rfl
@[simp] theorem Chip.setReg_fn (c : Chip) (r : RegId) (i v : Nat) (k : Nat) : (c.setReg r i v).fn k = c.fn k := by simp [Chip.fn]
@[simp] theorem Chip.setReg_ctx (c : Chip) (r : RegId) (i v : Nat) (k : Nat) : (c.setReg r i v).ctx k = c.ctx k := by simp [Chip.ctx]
@[simp] theorem Chip.setReg_port (c : Chip) (r : RegId) (i v : Nat) (k : Nat) : (c.setReg r i v).port k = c.port k := by simp [Chip.port]
@[simp] theorem Chip.setReg_link (c : Chip) (r : RegId) (i v : Nat) (k : Nat) : (c.setReg r i v).link k = c.link k := by simp [Chip.link]
@[simp] theorem Chip.setReg_drc (c : Chip) (r : RegId) (i v : Nat) (k : Nat) : (c.setReg r i v).drc k = c.drc k := by simp [Chip.drc]

@[simp] theorem Chip.setFld_fuses (c : Chip) (f : Fld) (v i : Nat) : (c.setFld f v i).fuses = c.fuses := Chip.setReg_fuses _ _ _ _
@[simp] theorem Chip.setFld_epoch (c : Chip) (f : Fld) (v i : Nat) : (c.setFld f v i).epoch = c.epoch := Chip.setReg_epoch _ _ _ _
@[simp] theorem Chip.setFld_ports (c : Chip) (f : Fld) (v i : Nat) : (c.setFld f v i).ports = c.ports := Chip.setReg_ports _ _ _ _
@[simp] theorem Chip.setFld_fns (c : Chip) (f : Fld) (v i : Nat) : (c.setFld f v i).fns = c.fns := Chip.setReg_fns _ _ _ _
@[simp] theorem Chip.setFld_intake (c : Chip) (f : Fld) (v i : Nat) : (c.setFld f v i).intake = c.intake := Chip.setReg_intake _ _ _ _
@[simp] theorem Chip.setFld_slices (c : Chip) (f : Fld) (v i : Nat) : (c.setFld f v i).slices = c.slices := Chip.setReg_slices _ _ _ _
@[simp] theorem Chip.setFld_ev (c : Chip) (f : Fld) (v i : Nat) : (c.setFld f v i).ev = c.ev := Chip.setReg_ev _ _ _ _
@[simp] theorem Chip.setFld_z (c : Chip) (f : Fld) (v i : Nat) : (c.setFld f v i).z = c.z := Chip.setReg_z _ _ _ _
@[simp] theorem Chip.setFld_m (c : Chip) (f : Fld) (v i : Nat) : (c.setFld f v i).m = c.m := Chip.setReg_m _ _ _ _
@[simp] theorem Chip.setFld_xts (c : Chip) (f : Fld) (v i : Nat) : (c.setFld f v i).xts = c.xts := Chip.setReg_xts _ _ _ _
@[simp] theorem Chip.setFld_keys (c : Chip) (f : Fld) (v i : Nat) : (c.setFld f v i).keys = c.keys := Chip.setReg_keys _ _ _ _
@[simp] theorem Chip.setFld_macKey (c : Chip) (f : Fld) (v i : Nat) : (c.setFld f v i).macKey = c.macKey := Chip.setReg_macKey _ _ _ _
@[simp] theorem Chip.setFld_digest (c : Chip) (f : Fld) (v i : Nat) : (c.setFld f v i).digest = c.digest := Chip.setReg_digest _ _ _ _
@[simp] theorem Chip.setFld_pwr (c : Chip) (f : Fld) (v i : Nat) : (c.setFld f v i).pwr = c.pwr := Chip.setReg_pwr _ _ _ _
@[simp] theorem Chip.setFld_links (c : Chip) (f : Fld) (v i : Nat) : (c.setFld f v i).links = c.links := Chip.setReg_links _ _ _ _
@[simp] theorem Chip.setFld_supply (c : Chip) (f : Fld) (v i : Nat) : (c.setFld f v i).supply = c.supply := Chip.setReg_supply _ _ _ _
@[simp] theorem Chip.setFld_drcs (c : Chip) (f : Fld) (v i : Nat) : (c.setFld f v i).drcs = c.drcs := Chip.setReg_drcs _ _ _ _
@[simp] theorem Chip.setFld_poison (c : Chip) (f : Fld) (v i : Nat) : (c.setFld f v i).poison = c.poison := Chip.setReg_poison _ _ _ _
@[simp] theorem Chip.setFld_sys (c : Chip) (f : Fld) (v i : Nat) : (c.setFld f v i).sys = c.sys := Chip.setReg_sys _ _ _ _
@[simp] theorem Chip.setFld_wr (c : Chip) (f : Fld) (v i : Nat) : (c.setFld f v i).wr = c.wr := Chip.setReg_wr _ _ _ _
@[simp] theorem Chip.setFld_out (c : Chip) (f : Fld) (v i : Nat) : (c.setFld f v i).out = c.out := Chip.setReg_out _ _ _ _
@[simp] theorem Chip.setFld_now (c : Chip) (f : Fld) (v i : Nat) : (c.setFld f v i).now = c.now := Chip.setReg_now _ _ _ _
@[simp] theorem Chip.setFld_fresh (c : Chip) (f : Fld) (v i : Nat) : (c.setFld f v i).fresh = c.fresh := Chip.setReg_fresh _ _ _ _
@[simp] theorem Chip.setFld_fn (c : Chip) (f : Fld) (v i : Nat) (k : Nat) : (c.setFld f v i).fn k = c.fn k := by simp [Chip.fn]
@[simp] theorem Chip.setFld_ctx (c : Chip) (f : Fld) (v i : Nat) (k : Nat) : (c.setFld f v i).ctx k = c.ctx k := by simp [Chip.ctx]
@[simp] theorem Chip.setFld_port (c : Chip) (f : Fld) (v i : Nat) (k : Nat) : (c.setFld f v i).port k = c.port k := by simp [Chip.port]
@[simp] theorem Chip.setFld_link (c : Chip) (f : Fld) (v i : Nat) (k : Nat) : (c.setFld f v i).link k = c.link k := by simp [Chip.link]
@[simp] theorem Chip.setFld_drc (c : Chip) (f : Fld) (v i : Nat) (k : Nat) : (c.setFld f v i).drc k = c.drc k := by simp [Chip.drc]

@[simp] theorem Chip.addFld_fuses (c : Chip) (f : Fld) (n i : Nat) : (c.addFld f n i).fuses = c.fuses := Chip.setReg_fuses _ _ _ _
@[simp] theorem Chip.addFld_epoch (c : Chip) (f : Fld) (n i : Nat) : (c.addFld f n i).epoch = c.epoch := Chip.setReg_epoch _ _ _ _
@[simp] theorem Chip.addFld_ports (c : Chip) (f : Fld) (n i : Nat) : (c.addFld f n i).ports = c.ports := Chip.setReg_ports _ _ _ _
@[simp] theorem Chip.addFld_fns (c : Chip) (f : Fld) (n i : Nat) : (c.addFld f n i).fns = c.fns := Chip.setReg_fns _ _ _ _
@[simp] theorem Chip.addFld_intake (c : Chip) (f : Fld) (n i : Nat) : (c.addFld f n i).intake = c.intake := Chip.setReg_intake _ _ _ _
@[simp] theorem Chip.addFld_slices (c : Chip) (f : Fld) (n i : Nat) : (c.addFld f n i).slices = c.slices := Chip.setReg_slices _ _ _ _
@[simp] theorem Chip.addFld_ev (c : Chip) (f : Fld) (n i : Nat) : (c.addFld f n i).ev = c.ev := Chip.setReg_ev _ _ _ _
@[simp] theorem Chip.addFld_z (c : Chip) (f : Fld) (n i : Nat) : (c.addFld f n i).z = c.z := Chip.setReg_z _ _ _ _
@[simp] theorem Chip.addFld_m (c : Chip) (f : Fld) (n i : Nat) : (c.addFld f n i).m = c.m := Chip.setReg_m _ _ _ _
@[simp] theorem Chip.addFld_xts (c : Chip) (f : Fld) (n i : Nat) : (c.addFld f n i).xts = c.xts := Chip.setReg_xts _ _ _ _
@[simp] theorem Chip.addFld_keys (c : Chip) (f : Fld) (n i : Nat) : (c.addFld f n i).keys = c.keys := Chip.setReg_keys _ _ _ _
@[simp] theorem Chip.addFld_macKey (c : Chip) (f : Fld) (n i : Nat) : (c.addFld f n i).macKey = c.macKey := Chip.setReg_macKey _ _ _ _
@[simp] theorem Chip.addFld_digest (c : Chip) (f : Fld) (n i : Nat) : (c.addFld f n i).digest = c.digest := Chip.setReg_digest _ _ _ _
@[simp] theorem Chip.addFld_pwr (c : Chip) (f : Fld) (n i : Nat) : (c.addFld f n i).pwr = c.pwr := Chip.setReg_pwr _ _ _ _
@[simp] theorem Chip.addFld_links (c : Chip) (f : Fld) (n i : Nat) : (c.addFld f n i).links = c.links := Chip.setReg_links _ _ _ _
@[simp] theorem Chip.addFld_supply (c : Chip) (f : Fld) (n i : Nat) : (c.addFld f n i).supply = c.supply := Chip.setReg_supply _ _ _ _
@[simp] theorem Chip.addFld_drcs (c : Chip) (f : Fld) (n i : Nat) : (c.addFld f n i).drcs = c.drcs := Chip.setReg_drcs _ _ _ _
@[simp] theorem Chip.addFld_poison (c : Chip) (f : Fld) (n i : Nat) : (c.addFld f n i).poison = c.poison := Chip.setReg_poison _ _ _ _
@[simp] theorem Chip.addFld_sys (c : Chip) (f : Fld) (n i : Nat) : (c.addFld f n i).sys = c.sys := Chip.setReg_sys _ _ _ _
@[simp] theorem Chip.addFld_wr (c : Chip) (f : Fld) (n i : Nat) : (c.addFld f n i).wr = c.wr := Chip.setReg_wr _ _ _ _
@[simp] theorem Chip.addFld_out (c : Chip) (f : Fld) (n i : Nat) : (c.addFld f n i).out = c.out := Chip.setReg_out _ _ _ _
@[simp] theorem Chip.addFld_now (c : Chip) (f : Fld) (n i : Nat) : (c.addFld f n i).now = c.now := Chip.setReg_now _ _ _ _
@[simp] theorem Chip.addFld_fresh (c : Chip) (f : Fld) (n i : Nat) : (c.addFld f n i).fresh = c.fresh := Chip.setReg_fresh _ _ _ _
@[simp] theorem Chip.addFld_fn (c : Chip) (f : Fld) (n i : Nat) (k : Nat) : (c.addFld f n i).fn k = c.fn k := by simp [Chip.fn]
@[simp] theorem Chip.addFld_ctx (c : Chip) (f : Fld) (n i : Nat) (k : Nat) : (c.addFld f n i).ctx k = c.ctx k := by simp [Chip.ctx]
@[simp] theorem Chip.addFld_port (c : Chip) (f : Fld) (n i : Nat) (k : Nat) : (c.addFld f n i).port k = c.port k := by simp [Chip.port]
@[simp] theorem Chip.addFld_link (c : Chip) (f : Fld) (n i : Nat) (k : Nat) : (c.addFld f n i).link k = c.link k := by simp [Chip.link]
@[simp] theorem Chip.addFld_drc (c : Chip) (f : Fld) (n i : Nat) (k : Nat) : (c.addFld f n i).drc k = c.drc k := by simp [Chip.drc]

@[simp] theorem Chip.count_fuses (c : Chip) (e : Event) : (c.count e).fuses = c.fuses := rfl
@[simp] theorem Chip.leftOut_fuses (c : Chip) : c.leftOut.fuses = c.fuses := rfl
@[simp] theorem Chip.postAs_fuses (c : Chip) (src id : Nat) (l : List Nat) (k : Nat) : (c.postAs src id l k).fuses = c.fuses := by
  unfold Chip.postAs; split <;> (try dsimp only) <;> (try split) <;> simp
@[simp] theorem Chip.post_fuses (c : Chip) (src id : Nat) (l : List Nat) : (c.post src id l).fuses = c.fuses := Chip.postAs_fuses c src id l 0
@[simp] theorem Chip.count_epoch (c : Chip) (e : Event) : (c.count e).epoch = c.epoch := rfl
@[simp] theorem Chip.leftOut_epoch (c : Chip) : c.leftOut.epoch = c.epoch := rfl
@[simp] theorem Chip.postAs_epoch (c : Chip) (src id : Nat) (l : List Nat) (k : Nat) : (c.postAs src id l k).epoch = c.epoch := by
  unfold Chip.postAs; split <;> (try dsimp only) <;> (try split) <;> simp
@[simp] theorem Chip.post_epoch (c : Chip) (src id : Nat) (l : List Nat) : (c.post src id l).epoch = c.epoch := Chip.postAs_epoch c src id l 0
@[simp] theorem Chip.count_ports (c : Chip) (e : Event) : (c.count e).ports = c.ports := rfl
@[simp] theorem Chip.leftOut_ports (c : Chip) : c.leftOut.ports = c.ports := rfl
@[simp] theorem Chip.postAs_ports (c : Chip) (src id : Nat) (l : List Nat) (k : Nat) : (c.postAs src id l k).ports = c.ports := by
  unfold Chip.postAs; split <;> (try dsimp only) <;> (try split) <;> simp
@[simp] theorem Chip.post_ports (c : Chip) (src id : Nat) (l : List Nat) : (c.post src id l).ports = c.ports := Chip.postAs_ports c src id l 0
@[simp] theorem Chip.count_fns (c : Chip) (e : Event) : (c.count e).fns = c.fns := rfl
@[simp] theorem Chip.leftOut_fns (c : Chip) : c.leftOut.fns = c.fns := rfl
@[simp] theorem Chip.postAs_fns (c : Chip) (src id : Nat) (l : List Nat) (k : Nat) : (c.postAs src id l k).fns = c.fns := by
  unfold Chip.postAs; split <;> (try dsimp only) <;> (try split) <;> simp
@[simp] theorem Chip.post_fns (c : Chip) (src id : Nat) (l : List Nat) : (c.post src id l).fns = c.fns := Chip.postAs_fns c src id l 0
@[simp] theorem Chip.count_intake (c : Chip) (e : Event) : (c.count e).intake = c.intake := rfl
@[simp] theorem Chip.leftOut_intake (c : Chip) : c.leftOut.intake = c.intake := rfl
@[simp] theorem Chip.postAs_intake (c : Chip) (src id : Nat) (l : List Nat) (k : Nat) : (c.postAs src id l k).intake = c.intake := by
  unfold Chip.postAs; split <;> (try dsimp only) <;> (try split) <;> simp
@[simp] theorem Chip.post_intake (c : Chip) (src id : Nat) (l : List Nat) : (c.post src id l).intake = c.intake := Chip.postAs_intake c src id l 0
@[simp] theorem Chip.count_slices (c : Chip) (e : Event) : (c.count e).slices = c.slices := rfl
@[simp] theorem Chip.leftOut_slices (c : Chip) : c.leftOut.slices = c.slices := rfl
@[simp] theorem Chip.postAs_slices (c : Chip) (src id : Nat) (l : List Nat) (k : Nat) : (c.postAs src id l k).slices = c.slices := by
  unfold Chip.postAs; split <;> (try dsimp only) <;> (try split) <;> simp
@[simp] theorem Chip.post_slices (c : Chip) (src id : Nat) (l : List Nat) : (c.post src id l).slices = c.slices := Chip.postAs_slices c src id l 0
@[simp] theorem Chip.count_z (c : Chip) (e : Event) : (c.count e).z = c.z := rfl
@[simp] theorem Chip.leftOut_z (c : Chip) : c.leftOut.z = c.z := rfl
@[simp] theorem Chip.postAs_z (c : Chip) (src id : Nat) (l : List Nat) (k : Nat) : (c.postAs src id l k).z = c.z := by
  unfold Chip.postAs; split <;> (try dsimp only) <;> (try split) <;> simp
@[simp] theorem Chip.post_z (c : Chip) (src id : Nat) (l : List Nat) : (c.post src id l).z = c.z := Chip.postAs_z c src id l 0
@[simp] theorem Chip.count_m (c : Chip) (e : Event) : (c.count e).m = c.m := rfl
@[simp] theorem Chip.leftOut_m (c : Chip) : c.leftOut.m = c.m := rfl
@[simp] theorem Chip.postAs_m (c : Chip) (src id : Nat) (l : List Nat) (k : Nat) : (c.postAs src id l k).m = c.m := by
  unfold Chip.postAs; split <;> (try dsimp only) <;> (try split) <;> simp
@[simp] theorem Chip.post_m (c : Chip) (src id : Nat) (l : List Nat) : (c.post src id l).m = c.m := Chip.postAs_m c src id l 0
@[simp] theorem Chip.count_xts (c : Chip) (e : Event) : (c.count e).xts = c.xts := rfl
@[simp] theorem Chip.leftOut_xts (c : Chip) : c.leftOut.xts = c.xts := rfl
@[simp] theorem Chip.postAs_xts (c : Chip) (src id : Nat) (l : List Nat) (k : Nat) : (c.postAs src id l k).xts = c.xts := by
  unfold Chip.postAs; split <;> (try dsimp only) <;> (try split) <;> simp
@[simp] theorem Chip.post_xts (c : Chip) (src id : Nat) (l : List Nat) : (c.post src id l).xts = c.xts := Chip.postAs_xts c src id l 0
@[simp] theorem Chip.count_keys (c : Chip) (e : Event) : (c.count e).keys = c.keys := rfl
@[simp] theorem Chip.leftOut_keys (c : Chip) : c.leftOut.keys = c.keys := rfl
@[simp] theorem Chip.postAs_keys (c : Chip) (src id : Nat) (l : List Nat) (k : Nat) : (c.postAs src id l k).keys = c.keys := by
  unfold Chip.postAs; split <;> (try dsimp only) <;> (try split) <;> simp
@[simp] theorem Chip.post_keys (c : Chip) (src id : Nat) (l : List Nat) : (c.post src id l).keys = c.keys := Chip.postAs_keys c src id l 0
@[simp] theorem Chip.count_macKey (c : Chip) (e : Event) : (c.count e).macKey = c.macKey := rfl
@[simp] theorem Chip.leftOut_macKey (c : Chip) : c.leftOut.macKey = c.macKey := rfl
@[simp] theorem Chip.postAs_macKey (c : Chip) (src id : Nat) (l : List Nat) (k : Nat) : (c.postAs src id l k).macKey = c.macKey := by
  unfold Chip.postAs; split <;> (try dsimp only) <;> (try split) <;> simp
@[simp] theorem Chip.post_macKey (c : Chip) (src id : Nat) (l : List Nat) : (c.post src id l).macKey = c.macKey := Chip.postAs_macKey c src id l 0
@[simp] theorem Chip.count_digest (c : Chip) (e : Event) : (c.count e).digest = c.digest := rfl
@[simp] theorem Chip.leftOut_digest (c : Chip) : c.leftOut.digest = c.digest := rfl
@[simp] theorem Chip.postAs_digest (c : Chip) (src id : Nat) (l : List Nat) (k : Nat) : (c.postAs src id l k).digest = c.digest := by
  unfold Chip.postAs; split <;> (try dsimp only) <;> (try split) <;> simp
@[simp] theorem Chip.post_digest (c : Chip) (src id : Nat) (l : List Nat) : (c.post src id l).digest = c.digest := Chip.postAs_digest c src id l 0
@[simp] theorem Chip.count_pwr (c : Chip) (e : Event) : (c.count e).pwr = c.pwr := rfl
@[simp] theorem Chip.leftOut_pwr (c : Chip) : c.leftOut.pwr = c.pwr := rfl
@[simp] theorem Chip.postAs_pwr (c : Chip) (src id : Nat) (l : List Nat) (k : Nat) : (c.postAs src id l k).pwr = c.pwr := by
  unfold Chip.postAs; split <;> (try dsimp only) <;> (try split) <;> simp
@[simp] theorem Chip.post_pwr (c : Chip) (src id : Nat) (l : List Nat) : (c.post src id l).pwr = c.pwr := Chip.postAs_pwr c src id l 0
@[simp] theorem Chip.count_links (c : Chip) (e : Event) : (c.count e).links = c.links := rfl
@[simp] theorem Chip.leftOut_links (c : Chip) : c.leftOut.links = c.links := rfl
@[simp] theorem Chip.postAs_links (c : Chip) (src id : Nat) (l : List Nat) (k : Nat) : (c.postAs src id l k).links = c.links := by
  unfold Chip.postAs; split <;> (try dsimp only) <;> (try split) <;> simp
@[simp] theorem Chip.post_links (c : Chip) (src id : Nat) (l : List Nat) : (c.post src id l).links = c.links := Chip.postAs_links c src id l 0
@[simp] theorem Chip.count_supply (c : Chip) (e : Event) : (c.count e).supply = c.supply := rfl
@[simp] theorem Chip.leftOut_supply (c : Chip) : c.leftOut.supply = c.supply := rfl
@[simp] theorem Chip.postAs_supply (c : Chip) (src id : Nat) (l : List Nat) (k : Nat) : (c.postAs src id l k).supply = c.supply := by
  unfold Chip.postAs; split <;> (try dsimp only) <;> (try split) <;> simp
@[simp] theorem Chip.post_supply (c : Chip) (src id : Nat) (l : List Nat) : (c.post src id l).supply = c.supply := Chip.postAs_supply c src id l 0
@[simp] theorem Chip.count_drcs (c : Chip) (e : Event) : (c.count e).drcs = c.drcs := rfl
@[simp] theorem Chip.leftOut_drcs (c : Chip) : c.leftOut.drcs = c.drcs := rfl
@[simp] theorem Chip.postAs_drcs (c : Chip) (src id : Nat) (l : List Nat) (k : Nat) : (c.postAs src id l k).drcs = c.drcs := by
  unfold Chip.postAs; split <;> (try dsimp only) <;> (try split) <;> simp
@[simp] theorem Chip.post_drcs (c : Chip) (src id : Nat) (l : List Nat) : (c.post src id l).drcs = c.drcs := Chip.postAs_drcs c src id l 0
@[simp] theorem Chip.count_poison (c : Chip) (e : Event) : (c.count e).poison = c.poison := rfl
@[simp] theorem Chip.leftOut_poison (c : Chip) : c.leftOut.poison = c.poison := rfl
@[simp] theorem Chip.postAs_poison (c : Chip) (src id : Nat) (l : List Nat) (k : Nat) : (c.postAs src id l k).poison = c.poison := by
  unfold Chip.postAs; split <;> (try dsimp only) <;> (try split) <;> simp
@[simp] theorem Chip.post_poison (c : Chip) (src id : Nat) (l : List Nat) : (c.post src id l).poison = c.poison := Chip.postAs_poison c src id l 0
@[simp] theorem Chip.count_sys (c : Chip) (e : Event) : (c.count e).sys = c.sys := rfl
@[simp] theorem Chip.leftOut_sys (c : Chip) : c.leftOut.sys = c.sys := rfl
@[simp] theorem Chip.postAs_sys (c : Chip) (src id : Nat) (l : List Nat) (k : Nat) : (c.postAs src id l k).sys = c.sys := by
  unfold Chip.postAs; split <;> (try dsimp only) <;> (try split) <;> simp
@[simp] theorem Chip.post_sys (c : Chip) (src id : Nat) (l : List Nat) : (c.post src id l).sys = c.sys := Chip.postAs_sys c src id l 0
@[simp] theorem Chip.count_wr (c : Chip) (e : Event) : (c.count e).wr = c.wr := rfl
@[simp] theorem Chip.leftOut_wr (c : Chip) : c.leftOut.wr = c.wr := rfl
@[simp] theorem Chip.postAs_wr (c : Chip) (src id : Nat) (l : List Nat) (k : Nat) : (c.postAs src id l k).wr = c.wr := by
  unfold Chip.postAs; split <;> (try dsimp only) <;> (try split) <;> simp
@[simp] theorem Chip.post_wr (c : Chip) (src id : Nat) (l : List Nat) : (c.post src id l).wr = c.wr := Chip.postAs_wr c src id l 0
@[simp] theorem Chip.count_out (c : Chip) (e : Event) : (c.count e).out = c.out := rfl
@[simp] theorem Chip.leftOut_out (c : Chip) : c.leftOut.out = c.out := rfl
@[simp] theorem Chip.postAs_out (c : Chip) (src id : Nat) (l : List Nat) (k : Nat) : (c.postAs src id l k).out = c.out := by
  unfold Chip.postAs; split <;> (try dsimp only) <;> (try split) <;> simp
@[simp] theorem Chip.post_out (c : Chip) (src id : Nat) (l : List Nat) : (c.post src id l).out = c.out := Chip.postAs_out c src id l 0
@[simp] theorem Chip.count_now (c : Chip) (e : Event) : (c.count e).now = c.now := rfl
@[simp] theorem Chip.leftOut_now (c : Chip) : c.leftOut.now = c.now := rfl
@[simp] theorem Chip.postAs_now (c : Chip) (src id : Nat) (l : List Nat) (k : Nat) : (c.postAs src id l k).now = c.now := by
  unfold Chip.postAs; split <;> (try dsimp only) <;> (try split) <;> simp
@[simp] theorem Chip.post_now (c : Chip) (src id : Nat) (l : List Nat) : (c.post src id l).now = c.now := Chip.postAs_now c src id l 0
@[simp] theorem Chip.count_fresh (c : Chip) (e : Event) : (c.count e).fresh = c.fresh := rfl
@[simp] theorem Chip.leftOut_fresh (c : Chip) : c.leftOut.fresh = c.fresh := rfl
@[simp] theorem Chip.postAs_fresh (c : Chip) (src id : Nat) (l : List Nat) (k : Nat) : (c.postAs src id l k).fresh = c.fresh := by
  unfold Chip.postAs; split <;> (try dsimp only) <;> (try split) <;> simp
@[simp] theorem Chip.post_fresh (c : Chip) (src id : Nat) (l : List Nat) : (c.post src id l).fresh = c.fresh := Chip.postAs_fresh c src id l 0
@[simp] theorem Chip.post_fn (c : Chip) (src id : Nat) (l : List Nat) (k : Nat) : (c.post src id l).fn k = c.fn k := by simp [Chip.fn]
@[simp] theorem Chip.post_ctx (c : Chip) (src id : Nat) (l : List Nat) (k : Nat) : (c.post src id l).ctx k = c.ctx k := by simp [Chip.ctx]
@[simp] theorem Chip.post_port (c : Chip) (src id : Nat) (l : List Nat) (k : Nat) : (c.post src id l).port k = c.port k := by simp [Chip.port]
@[simp] theorem Chip.post_link (c : Chip) (src id : Nat) (l : List Nat) (k : Nat) : (c.post src id l).link k = c.link k := by simp [Chip.link]
@[simp] theorem Chip.post_drc (c : Chip) (src id : Nat) (l : List Nat) (k : Nat) : (c.post src id l).drc k = c.drc k := by simp [Chip.drc]

@[simp] theorem Chip.emit_out (c : Chip) (o : Out) : (c.emit o).out = o :: c.out := rfl
@[simp] theorem Chip.setFn_fn_same (c : Chip) (k : Nat) (x : FnRec) : (c.setFn k x).fn k = x := by simp [Chip.setFn, Chip.fn]
@[simp] theorem Chip.modFn_fn_same (c : Chip) (k : Nat) (g : FnRec → FnRec) : (c.modFn k g).fn k = g (c.fn k) := by simp [Chip.modFn]
theorem Chip.modFn_fn_ne (c : Chip) {k j : Nat} (g : FnRec → FnRec) (h : j ≠ k) : (c.modFn k g).fn j = c.fn j := by
  simp [Chip.modFn, Chip.setFn, Chip.fn, pget_pset_ne _ _ h]
@[simp] theorem Chip.modPort_port_same (c : Chip) (k : Nat) (g : Port → Port) : (c.modPort k g).port k = g (c.port k) := by simp [Chip.modPort, Chip.port]
@[simp] theorem Chip.modLink_link_same (c : Chip) (k : Nat) (g : Link → Link) : (c.modLink k g).link k = g (c.link k) := by simp [Chip.modLink, Chip.link]
@[simp] theorem Chip.modDrc_drc_same (c : Chip) (k : Nat) (g : Drc → Drc) : (c.modDrc k g).drc k = g (c.drc k) := by simp [Chip.modDrc, Chip.drc]
@[simp] theorem Chip.modCtx_ctx_same (c : Chip) (k : Nat) (g : Ctx → Ctx) : (c.modCtx k g).ctx k = (c.ctx k).map g := by simp [Chip.modCtx, Chip.ctx, pget_pmod_same]
@[simp] theorem Chip.modPwr_pwr (c : Chip) (g : Power → Power) : (c.modPwr g).pwr = g c.pwr := rfl
@[simp] theorem Chip.modSup_supply (c : Chip) (g : Supply → Supply) : (c.modSup g).supply = g c.supply := rfl
@[simp] theorem Chip.modSys_sys (c : Chip) (g : Sys → Sys) : (c.modSys g).sys = g c.sys := rfl
@[simp] theorem Chip.modM_m (c : Chip) (g : Media → Media) : (c.modM g).m = g c.m := rfl
@[simp] theorem Chip.modZ_z (c : Chip) (g : Zmap → Zmap) : (c.modZ g).z = g c.z := rfl
@[simp] theorem Chip.modEv_ev (c : Chip) (g : Recorder → Recorder) : (c.modEv g).ev = g c.ev := rfl

end Sys2Proof.Machine
end

