-- ==== Sys2Proof/Tests/Slice0.lean ====
section
/-! SUPPORT. Tests: ill-formed commands refused, worked examples of the manual, and for every statement of the obligations that has
hypotheses, states and operands that meet all of them. Where a hypothesis rests on an opaque function, the witness assumes its answer. -/

set_option maxRecDepth 100000

namespace Sys2Proof.Tests
open Sys2Proof Sys2Proof.Machine

-- one theorem is checked at a time, so that the check stays within its memory
set_option Elab.async false

/-! States built from the part after a release of the WARM reset. -/

def base : Chip := { State.reset.chip with supply := { State.reset.chip.supply with held := false, mainPg := true, porLow := false } }
def on (c : Chip) : State := { mem := [], chip := c, pending := [] }
def s1 : State := on base
def upPort : Port := { portReset with perst := false, up := true }
def up (p : Nat) : Chip := (((base.modPort p fun _ => upPort).setFld F.HP_LSTAT_LINK_UP 1 p).setFld F.HP_LSTAT_SPEED 6 p).setFld F.HP_LSTAT_WIDTH 16 p
def mrg : Chip := { base with fuses := { base.fuses with mrg0 := true, mrg1 := true } }
def cores1 : Chip := { base with sys := { base.sys with cores := [(2, ⟨true, 0x1000, [], 40⟩), (15, ⟨true, 0x2000, [7], 40⟩)], running := some ⟨1, 3, false, 0x100, 0x200, 0x300, []⟩, wdogAt := 5 }, pwr := {base.pwr with wfi := [2]} }
def rd0 : RestartData := ⟨[], 70000, 3, none⟩
def rd1 : RestartData := ⟨[], 1, 3, some 1⟩
def sqe (opc nsid d10 d11 d12 d13 : Nat) : Sqe := [opc, nsid, 0, 0, 0, 0, 0x1000, 0, 0, 0, d10, d11, d12, d13, 0, 0]
def cmd (f qid : Nat) (e : Sqe) : Ctx := { ctxNew f qid qid .guaranteed 0 with sqe := e }
def tag (t : Nat) (x : Ctx) (c : Chip) : Chip := { c with intake := { c.intake with tags := pset c.intake.tags t x } }
def adm (e : Sqe) : Ctx := cmd 0 0 e
def io (e : Sqe) : Ctx := cmd 0 1 e
def nsC : NsRec := ⟨false, 0, false, 0x100000, 1, [0], 1024, 0, 0, false, 0, 2, 0⟩
def nsZ : NsRec := ⟨true, 0, false, 0x400000, 1, [], 1024, 0, 0, false, 0, 2, 0⟩
def nsd (n : NsRec) (c : Chip) : Chip := ({ c with z := { c.z with nss := [(1, n)] } }).modFn 0 fun r => { r with nsids := [1] }
def lock (c : Chip) : Chip := c.setFld F.CONF_CTL_SEQ_LOCK 1
def queues (c : Chip) : Chip := c.modFn 0 fun r => { r with cc := 1, rdy := true, sqs := [(0, ⟨0x10000, 16, 0, 1, 0, 0⟩), (1, ⟨0x20000, 16, 0, 0, 1, 0⟩)], cqs := [(0, ⟨0x30000, 16, 0, 0, true, false, 0, [], false⟩), (1, ⟨0x40000, 16, 0, 15, true, false, 1, [], false⟩)] }
def resvd (r : Resv) (c : Chip) : Chip := { c with z := { c.z with resvs := [(1, r)] } }
def hostId (h : Nat) (c : Chip) : Chip := c.modFn 0 fun r => { r with hostId := h }
def zone (g : Nat) (z : ZoneRec) (c : Chip) : Chip := c.modZ fun y => { y with zones := pset y.zones g z }
def zo (st : ZState) (wp : Nat) : ZoneRec := { zoneReset 1 0 with st := st, wpOff := wp, pool := some 7 }
def ops (l : PMap Op) (c : Chip) : Chip := c.modM fun m => { m with ops := l, nextOp := 100 }
def waiting1 (f : Nat) (c : Chip) : Chip := c.modFn f fun r => { r with cc := 1, rdy := true, sqs := [(0, ⟨0x10000, 16, 15, 0, 0, 0⟩)], cqs := [(0, ⟨0x30000, 16, 0, 0, true, false, 0, [], false⟩)] }
def fenced := base.modFn 0 fun r => {r with fence := some 6}
def att (d : Nat) := adm (sqe 0x15 1 d 0 0 0)
def ide : Chip := (base.modPort 1 fun _ => {upPort with secure := [7]}).modFn 256 fun r => {r with stream := some 7}
def rg (d : Nat) := adm (sqe 0xD 1 d 0 0 0)
def R0 : Resv := ⟨0, 0, [⟨5, 77⟩], 2, false⟩
def R1 : Resv := ⟨3, 5, [⟨5, 77⟩, ⟨6, 78⟩], 2, false⟩
def rdx : Ctx := { cmd 768 1 (sqe 2 1 0 0 0 0) with st := .data, kind := .write }
def f1 := (queues base)
def f2 := waiting1 0 (base.setFld F.INTAKE_CTL_FETCH_EN 1)
def starved : Chip := f2.modFn 0 fun r => {r with asg := {r.asg with tagMin := 0, tagMax := 0}}
def adm64 (c : Chip) : Chip := { c with intake := { c.intake with tags := (List.range 64).map fun t => (t, { ctxNew 256 0 0 .adminReserve 0 with sqe := [12] }) } }
def fresh (q : Nat) := cmd 0 q []
def badop := sqe 0x77 1 0 0 0 0
def wr1 : Ctx := { io (sqe 1 1 0 0 1 0) with st := .data, kind := .write, seq := some 5, dlen := 8192 }
def wr0 : Ctx := { wr1 with seq := none }
def op1 : Op := mkOp .erase 129 5 0 false .b (.blockErase 3)
def rich (c : Chip) : Chip := c.modL fun l => { l with eUse := 8000000 }
def wc : Ctx := { io (sqe 1 1 0 0 1 0) with st := .data, kind := .write, dlen := 8192 }
def land (c : Chip) : Chip := c.modZ fun z => { z with landRes := List.range 64 }
def postQ (l : List PostEvent) (c : Chip) : Chip := { c with intake := { c.intake with postQ := l } }
def modCq (g : CqRec → CqRec) (c : Chip) : Chip := c.modFn 0 fun r => { r with cqs := r.cqs.map fun e => (e.1, g e.2) }
def dn : Ctx := { io (sqe 2 1 0 0 0 0) with st := .post, sent := true, slices := [3], granted := [3] }
def fd := postQ [.done 9 .success 0] (tag 9 dn (nsd nsC f1))
def room : CqRec := ⟨0x40000, 16, 3, 15, true, false, 1, [], false⟩
def fd2 := modCq (fun q => {q with head := 3}) fd
def ab : Ctx := adm (sqe 8 0 0x30001 0 0 0)
def victim : Ctx := { io ([2 + 3 * 65536, 1] ++ List.replicate 14 0) with st := .data }
def abf : Ctx := { ab with st := .firmware }
def idle0 : FnRec := { base.fn 5 with asq := 0x5000, acq := 0x6000, aqa := 0x1F000F }
def dr : Chip := tag 7 {io (sqe 1 1 0 0 0 0) with committed := true, st := .media} (f1.modFn 0 fun r => {r with resetAt := some 3, cc := 0})
def drq : Chip := { (f1.setFld F.INTAKE_FWACT_DRAIN_REQ 1) with now := 90000000, intake := { f1.intake with drainAt := some 1000 } }
def run0 : Running := ⟨1, 3, false, 0x100, 0x200, 0x300, []⟩
def runs (c : Chip) : Chip := { c with sys := { c.sys with running := some run0, cores := [(2, ⟨true, 0x1000, [], 40⟩)] } }
def clm (g : Bool) : Claim := ⟨9, .w, [⟨1, 0, 7⟩], g⟩
def cx : Ctx := { io (sqe 1 1 0 0 0 0) with st := .claim, kind := .write, claimKind := .w, ranges := [⟨1, 0, 7⟩], slices := [0, 5] }
def sl (l : PMap Slice) (c : Chip) : Chip := { c with slices := l }
def cx2 : Ctx := { cx with granted := [0] }
def ab64c (c : Chip) : Chip := { c with intake := { c.intake with tags := c.intake.tags ++ (List.range 64).map fun t => (t + 100, { adm (sqe 8 0 0 0 0 0) with st := .post, kind := .admin }) } }
def adm0 (d10 d11 : Nat) := adm (sqe 0xD 1 d10 d11 0 0)
def exns (c : Chip) := match c.createNs false 4096 0 false 1 [0] with | .ok p => p | .error _ => (c, 99)
def S (e : Sqe) (n : NsRec) : State := on (lock (tag 9 (io e) (nsd n f1)))
def wI := sqe 1 1 8 0 7 0
def dI := sqe 9 1 0 4 0 0
def oI := sqe 1 1 0xFFFFF 0 1 0
def Z (e : Sqe) (z : ZoneRec) : State := on (lock (tag 9 (io e) (nsd nsZ (zone 1 z base))))
def zw := sqe 1 1 0x80010 0 7 0
def za := sqe 0x7d 1 0x80000 0 7 0
def zm (d13 : Nat) := sqe 0x79 1 0x80000 0 0 d13
def zkey (c : Chip) : Chip := { c with keys := [(2, ⟨2, 3, 16, 0, List.replicate 64 5⟩)] }
def ZK (e : Sqe) (z : ZoneRec) : State := on (zkey (Z e z).chip)
def binding (c : Chip) : Chip := zone 1 (zoneReset 1 1) (c.modZ fun z => { z with reserve := [7, 8], bindQ := [(9, 1, true, 500)] })
def bx : Ctx := { io (zm 3) with st := .media, kind := .zoneMgmt, waiting := [1] }
def bindS : State := on ((binding (tag 9 bx (nsd nsZ base))).setFld F.ZMAP_POOLRES_LOW 1)
def spare36 (c : Chip) : Chip := c.modZ fun z => { z with eraseQ := [3] }
def hOpen : OpenPool := ⟨7, 3, none, some 1000⟩
def pool7 : Pool := ⟨0, 2, 1, [], [⟨0, 5, none, none, 0, 1, 0⟩], [0, 1], some 10, none⟩
def pools (l : PMap Pool) (c : Chip) : Chip := c.modM fun m => { m with pools := l }
def cand : Chip := pools [(7, pool7)] ((nsd nsC base).modZ fun z => { z with map := [(0, mapPool 7 3), (1, mapPool 7 4)] })
def candA := (cand.setFld F.RECLAIM_CTL_AUTO 1).setFld F.ZMAP_POOLRES_TARGET 4
def part5 : Part := { tag := 9, commit := 1, seq := 4, nsid := 1, zone := none, first := 3, units := [[1#8], [2#8]], sb := [[1#8], [2#8]], handle := 0, route := .row, row := some 5, rowOff := 0, pair := none, pairOff := 0, committedAt := 100, jsns := [], rowOk := false, basinOk := false, sbFreed := false, landTry := 0, landDie := 0 }
def row5 : RowRec := rowReset 7 0 (.handle 0) 1 50
def pair3 : PairRec := { a := 4096 * 3 + 9, b := 4096 * 130 + 9, zone := none, handle := 0, next := 4, gatherAt := some 90, gathered := 0, okCopies := [], closed := false, units := [], landing := false }
def basin : Chip := (nsd nsC base).modZ fun z => { z with parts := [(2, part5)], rows := [(5, row5)], pairs := [(3, pair3)], hPairs := [(0, 3)], totalPairs := 4, freePairs := [(1, 2), (3, 4)], nextPart := 3, nextPair := 4, nextRowId := 6 }
def pair3b : PairRec := { pair3 with next := 5 }
def pair3f : PairRec := { pair3 with closed := true, next := 32, gathered := 32, gatherAt := none, units := [(0, (1, 3, [])), (7, (1, 4, []))] }
def foldS := basin.modZ fun z => {z with pairs := [(3, pair3f)], map := [(0, mapBasin 3 0), (1, mapBasin 3 7)], parts := [], rows := []}
def jS : Chip := base.modZ fun z => { z with journal := { z.journal with opened := [⟨1, 2, 0, .zwp 1 0 2⟩], nextJsn := 1, openAt := 77, trioCist := [5, 6, 7] } }
def warn : Chip := (base.setFld F.RESV_PFSTAT_WARN 1).setFld F.RESV_PFSTAT_WINDOW 1
def win : Chip := warn.modSup fun u => { u with windowAt := some 900 }
def pf (st : PfStep) (c : Chip) : Chip := c.modL fun l => { l with pfCommit := true, frozen := true, step := st, pfAt := 100, landed := 3 }
def prd : Rd := mkRd (.patrol 4) ⟨130, 5, 3, 1, false⟩ none none (0, 0) false
def rds (l : PMap Rd) (c : Chip) : Chip := c.modM fun m => { m with rds := l, nextRd := 50 }
def sr : Op := { mkOp .read 130 5 3 false .d1 (.read 3) with stage := .queued, arrived := 100 }
def sp : Op := { mkOp .programQlc 130 6 3 false .b (.strip 1 2) with stage := .running, started := true, runAt := 50 }
def dieP (c : Chip) : Chip := c.modDie 130 fun d => { d with st := .program, queue := [4], posted := [8] }
def sched : Chip := { (ops [(4, sr), (8, sp)] (dieP base)) with now := 5000 }
def susp : Chip := { (ops [(8, {sp with stage := .suspended})] (base.modDie 130 fun d => { d with st := .prgSusp, susp := some 8, confAt := some 70, posted := [8] })) with now := 5000 }
def dr0 : Rd := { prd with here := true, await := true, level := 0 }
def dec (r : Rd) : State := on ((rds [(3, r)] base).modM fun m => { m with patrol := { m.patrol with open_ := [(4, (2, 1))] } })
def lap : Chip := (base.setFld F.PATROL_CTL_EN 1).modM fun m => { m with bst := [(130 * 4096 + 5, ⟨3, 1, 10, false, .opened, false⟩)], patrol := { m.patrol with todo := [(130 * 4096 + 5, 0, 10)], done := false, total := 40, pages := 2, page := 2 }, nextRd := 50 }
def er : Op := { mkOp .erase 130 5 0 false .b (.blockErase 1) with stage := .queued, arrived := 60 }
def pinned1 : Chip := (ops [(4, er)] base).modM fun m => { m with pins := [((ops [(4, er)] base).pinKey 130 5, 1)] }
def scn : Chip := (nsd nsC base).modZ fun z => { z with scanning := [6] }
def dec0 (r : Rd) : State := on ((dec r).chip.setFld F.LDPC_CTL_HINT_EN 0)
def lk (p : Nat) (l : Link) (st : Nat) (c : Chip) : Chip := ({ c with links := [(p, l)] }).setFld F.BINOR_STAT_STATE st p
def L0 : Link := { linkReset with rxSeq := 1023, txSeq := 7, held := [⟨5, 2, 90⟩, ⟨6, 0, 95⟩], unacked := 3, ackAt := 50 }
def A (l : Link) : State := on { (lk 35 l 6 base) with now := 7000 }
def ts7 : Link := { L0 with ts2 := [(1, 7)] }
def cf : Link := { L0 with full := false, cfg := [0x100, 5, 9, 7, 3], cfgSeen := 3 }
def fr (k : FrameKind) : BFrame := ⟨1, 9, 35 * 128 + 17, some 4, k, 1, [], 40⟩
def rdOp : Op := { mkOp .read (35 * 128 + 17) 5 3 false .b (.read 3) with stage := .running, phase := .start, started := true }
def brL (k : FrameKind) : Link := { L0 with frames := [fr k] }
def frR : BFrame := ⟨3, 9, 35 * 128 + 17, some 4, .reg, 0, [], 40⟩
def rgOp : Op := { mkOp .bridgeReg (35 * 128 + 17) 5 3 false .b (.firmware 35 0x12345678 2) with stage := .running, phase := .start }
def brR : Link := { L0 with frames := [frR] }
def opP (rt : Routine) : Op := { mkOp rt (35 * 128 + 17) 5 3 false .b (.firmware 35 7 0) with stage := .posted }
def RS (rt : Routine) : State := on ((ops [(4, opP rt)] (lk 35 L0 6 base)).modDie (35 * 128 + 17) fun d => { d with posted := [4] })
def opS (rt : Routine) (p : Purpose) : Op := { opP rt with purpose := p }
def RSS (rt : Routine) (p : Purpose) : State := on ((ops [(4, opS rt p), (8, {sp with die := 35 * 128 + 17})] (lk 35 L0 6 base)).modDie (35 * 128 + 17) fun d => { d with posted := [8, 4], susp := some 8, st := .suspending })
def warmB (c : Chip) : Chip := (c.setFld F.BINOR_TEMP_VALID 1 (35 * 9 + 2)).setFld F.BINOR_TEMP_VALUE 200 (35 * 9 + 2)
def open5 (st : BState) (ptr : Nat) (slc : Bool) (c : Chip) : Chip := c.modM fun m => { m with bst := [(bkey (35 * 128 + 17) 5, ⟨3, 0, ptr, slc, st, false⟩)] }
def prgS : State := on (warmB (open5 .opened 3 false (RS .programQlc).chip))
def opE : Op := { opP .erase with purpose := .blockErase 1, wl := 0 }
def erS (st : BState) : State := on ((warmB (open5 st 384 false (RS .erase).chip)).modM fun m => {m with ops := [(4, opE)]})
def fq (c : Chip) : Chip := ((((c.setFld F.SEQ_CTL_FDQ_EN 1 35).setFld F.SEQ_CTL_EN 1 35).setFld F.SEQ_FDQ_BASE 5 35).setFld F.SEQ_FCQ_BASE 9 35).setFld F.SEQ_FDQ_PTR_TAIL 1 35
def desc (s : List Byte) (c : Chip) : State := { on c with mem := (s.zipIdx.map fun x => (5 * 4096 + x.2, x.1)).filter (·.2 != 0) }
def pollOp : Op := { rdOp with phase := .poll, runAt := 60 }
def prof : Profile := { id := 1, version := 1, blocks := 4096, tR := 60, tRSlc := 30, tProg := 2000, tProgSlc := 300, tBers := 8000, tSuspP := 30, tSuspE := 50, tResume := 20, maxR := 200, maxProg := 5000, maxBers := 20000, pollR := 5, pollP := 50, pollE := 100, features := [], peQlc := 3000, peSlc := 60000, iface := 0, rate := 2400, planes := 4, spare := 0, wls := 384, tablesOk := true, status := [], idMatch := [] }
def withProf (c : Chip) : Chip := c.modM fun m => { m with profile := some prof }
def brS : Link := { L0 with frames := [fr .start] }
def derase : List Byte := [6, 2, 0, 0, 0x78, 0x56, 0x34, 0x12, 35, 1, 1, 15, 5, 0, 0, 0, 0, 0, 4, 0, 0, 0, 0, 0, 0, 1, 0, 5] ++ List.replicate 36 0
def fqE : Chip := fq (base.modM fun m => { m with bst := [(bkey 4497 5, ⟨3, 5, 384, true, .full, false⟩)] })
def tv := base.setFld F.RESV_TRES_VALID 1
def owed : Chip := (base.setFld F.RESV_RSTAT_CHARGED 1).modSup fun u => { u with owed := some 4 }
def testing (k : Nat) : Chip := base.modSup fun u => { u with test := some ⟨k, 500, 70, 4000, 3900, 12⟩ }
def slOp : Op := { mkOp .erase 130 5 0 false .b (.blockErase 1) with stage := .admitted }
def slB : Chip := (ops [(4, slOp)] base).setFld F.SLUICE_BUDGET_FLASH_MW 100000
def slL2 : Chip := ((ops [(4, slOp)] base).setFld F.SLUICE_BUDGET_FLASH_MW 4000).modM fun m => { m with sluice := ⟨[⟨20, 90000, .b⟩], [], []⟩ }
def entry (pt : Nat) : List Byte := (leBytes 2 pt ++ List.replicate 0x56 0 ++ ((List.range 18).flatMap fun j => leBytes 1 (2 * j) ++ leBytes 1 5 ++ leBytes 2 9 ++ List.replicate 16 0)) ++ []
def place (a : Nat) (b : List Byte) (s : State) : State := { s with mem := s.mem ++ (b.zipIdx.map fun x => (a + x.2, x.1)).filter (·.2 != 0) }
def ptC (st : BState) : Chip := ((((base.setFld F.STRIPE_PT_BASE 16).setFld F.STRIPE_LAYOUT_BASE 1).setFld F.STRIPE_LAYOUT_NPAT 4).setFld F.STRIPE_PTCNT_COUNT 10).modM fun m => { m with bst := (List.range 18).map fun j => (bkey (2 * j * 128 + 5) 9, ⟨0, 6, 0, false, st, false⟩) }
def ptS (st : BState) : State := place (16 * 4096 + 448 * 3) (entry 2) (place (4096 + 64) ((List.range 18).map fun j => BitVec.ofNat 8 (2 * j)) (on (ptC st)))
def pool8 : Pool := { pool7 with slots := [⟨0, 5, none, none, 0, 1, 1⟩, ⟨130, 6, none, none, 0, 0, 0⟩] }
def rbC : Chip := (pools [(7, pool8)] base).modM fun m => { m with jobs := [(0, false)] }
def pool9 (d : Nat) : Pool := { pool8 with slots := [⟨0, 5, some (256, 9), none, d, 2, 1⟩, ⟨130, 6, none, none, 0, 0, 0⟩] }
def rb9 (d : Nat) (st : BState) : Chip := ((pools [(7, pool9 d), (8, pool8)] base).setFld F.SLUICE_BUDGET_FLASH_MW 100000).modM fun m => { m with bst := [(bkey 256 9, ⟨1, 0, d, false, st, false⟩)], nextRd := 10, jobs := [(0, false)] }
def sealP : Part := { part5 with zone := some 1, first := 4 }
def sealC (c : Chip) : Chip := { (zone 1 (zo .zsio 24) (nsd nsZ c)) with keys := [(2, ⟨2, 3, 16, 0, List.replicate 64 5⟩)] }
def sealS : Chip := (sealC base).modZ fun z => { z with parts := [(2, sealP)] }
def ch4 : SealChain := { chainReset with next := 4, all := [[], [], [], []] }
def laneS (z1 : ZoneRec) : Chip := (zone 1 z1 sealS).modZ fun z => { z with lanes := [(1, 4)], chains := [(1, ch4)] }
def rbz : Chip := (sealC base).modZ fun z => { z with rebuilds := [1] }
def sq (d10 d11 : Nat) : Ctx := io (sqe 0xC1 1 d10 d11 0 0)
def sealedZ : ZoneRec := { zoneReset 1 1 with st := .zsf, wpOff := 16, sealState := 2, sealVal := [3, 4], label := 5 }
def imp : List Byte := leBytes 8 0x80000 ++ leBytes 8 16 ++ padTo 32 [3, 4] ++ leBytes 16 5
def few (l : List Nat) (c : Chip) : Chip := { c with fuses := { c.fuses with fport := (l.map fun k => 2 ^ k).sum } }
def prof25 : Profile := { prof with blocks := 25 }
def rbF (l : List Nat) (bs : PMap Bst) : Chip := few l (rbC.modM fun m => { m with profile := some prof25, bst := bs })
def dg (d : DigestCtx) (c : Chip) : State := on { c with digest := [(0, digestNew 3), (1, d)] }
def drn : DigestCtx := { digestNew 2 with running := true }
def dfn : DigestCtx := { drn with final := true, algo := 1, msg := [1#8], buf := 8 }
def dfd : DigestCtx := { dfn with destEn := true, destSlot := 63, destUsage := 4 }
def kc : Chip := { (base.setFld F.KEYS_WTBL_BASE 3) with keys := [(1, ⟨2, 1, 16, 0, List.replicate 64 9⟩), (511, ⟨2, 1, 16, 0, List.replicate 64 7⟩)] }
def dfd1 : DigestCtx := { dfd with destUsage := 16 }
def vf : Chip := (base.modFn 0 fun r => {r with vfe := true}).modFn 5 fun r => { r with cc := 1, rdy := true, sqs := [(0, ⟨0x10000, 16, 3, 3, 0, 0⟩)], cqs := [(0, ⟨0x30000, 16, 0, 0, true, true, 0, [], false⟩)] }
def mg (d11 : Nat) : Ctx := adm (sqe 0xC6 0 5 d11 0 0)
def M (d11 : Nat) (g : FnRec → FnRec) : State := on (tag 9 (mg d11) (vf.modFn 5 g))
def fz (r : FnRec) : FnRec := { r with mstate := .frozen }
def frec (d : Nat) : FnRec := (M d fz).chip.fn 5
def ilen : Nat := let r := frec 0; imageLen r.nq r.asg.vec r.nsids.length r.trail.length
def im : List Byte := (M ilen fz).chip.image 5
def fzg (r : FnRec) : FnRec := { r with mstate := .freezing, freeze := some (9, 60) }
def mw : Ctx := { mg 0 with st := .firmware }
def svd (r : FnRec) : FnRec := { r with mstate := .saved }
def drOn (c : Chip) : Chip := (List.range 8).foldl (fun c k => ((c.setFld F.DRC_GEOM_TRAINED 1 k).setFld F.DRC_GEOM_CAP_GIB 64 k).setFld F.DRC_GEOM_LRANKS 2 k) c
def dC : Chip := drOn base
def dq (m : DramMaster) (a l : Nat) (d : Option (List Byte)) : DramReq := ⟨m, a, l, d, [], []⟩
def rowsC : Chip := { dC with drcs := [(7, { drcReset with rows := [(5, (77, 90)), (66, (1, 2))], hits := [(5, 3)], issued := [5, 400, 800], alert := false, replayTo := 700, broken := 1 })], now := 600 }
def dsus : Chip := { base with drcs := [(7, { drcReset with alert := true })] }
def D : Drc := { drcReset with mr4 := [(0, 80), (1, 90)], mr4Round := [(1, 84)], rows := [(5, (77, 90)), (130, (1, 2))], roundAt := 40, scrub := 9 }
def DS (d : Drc) (c : Chip) : State := on { c with drcs := [(3, d)], now := 900 }
def Dr : Drc := { D with round := true }
def Dw : Drc := { Dr with window := some 1200 }
def a3 : Nat := (((List.range 4096).map (· * 8192)).find? fun a => chanOf a == 3).getD 0
def sC : Chip := ((dC.setFld F.DRC_SPARE_LOCK 1).setFld F.DRC_SPARE_SIZE_MIB 64).setFld F.DRC_SPARE_BASE 0x10000
def Db : Drc := { D with bank := some (70, 12) }
def arm (d a o : Nat) (c : Chip) : Chip := (c.setFld F.PWR_DOM_ARM a d).setFld F.PWR_DOM_OWNER o d
def ent (d t : Nat) (c : Chip) : Chip := { c.setFld F.PWR_DOM_STATE 3 d with pwr := { c.pwr with entry := [(d, (60, t))] } }
def exi (d was : Nat) : Chip := { base.setFld F.PWR_DOM_STATE 3 d with pwr := { base.pwr with exits := [(d, (60, was))] }, now := 99000 }
def E1 : Event := ⟨0x1010, [5], srcIntake, 0⟩
def ev (g : Recorder → Recorder) (c : Chip) : Chip := { c with ev := g c.ev }
def q1 : Chip := ev (fun r => { r with queues := [(3, []), (srcIntake, [E1, E1])], restored := true }) base
def hE : Event := ⟨0x1010, [5], srcSched, 0⟩
def q2 : Chip := ev (fun r => { r with queues := [(srcSched, [hE])] }) base
def st1 : Chip := { ev (fun r => { r with staging := [base.makeRec E1], restored := true, stagedAt := 60, lastPage := some 50, waitPage := true }) base with now := 900 }
def E2 : Event := ⟨0x1012, [5], srcIntake, 0⟩
def q3 : Chip := ev (fun r => { r with queues := [(3, []), (srcIntake, [E2, E1])], restored := true }) ((base.setFld F.EVREC_CTL_FLUSH_CLS 0).setFld F.EVREC_CTL_BB_CLS 0)
def ecx (f : Nat) : Ctx := { cmd f 0 (sqe 0xC1 0 1 0 0 0) with st := .firmware }
def clrData (n sc : Nat) : List Byte := leBytes 8 n ++ leBytes 8 sc ++ List.replicate 48 0#8
def clrC (f : Nat) : Chip := tag 9 (ecx f) { (base.setFld F.EVREC_AUTH_SLOT 5) with keys := [(5, ⟨2, 3, 4, 0, List.replicate 64 1#8⟩)] }
def n0 : Nat := base.ev.nonce.toNat
def lpx (f d10 d12 : Nat) : Ctx := cmd f 0 (sqe 2 1 d10 0 d12 0)
def vfq : Chip := (nsd nsC base).modFn 5 fun r => { r with nsids := [1], query := some ⟨1, 0, 1, false⟩ }
def secEnt (ty off len load : Nat) : List Byte := leBytes 4 ty ++ leBytes 4 off ++ leBytes 4 len ++ leBytes 4 load
def imgHead (svn : Nat) : List Byte := leBytes 4 0x47574657 ++ leBytes 2 1 ++ leBytes 2 1 ++ leBytes 4 12288 ++ leBytes 4 svn ++ (asciiBytes "GW0001  ") ++ leBytes 4 0x100 ++ leBytes 4 0x200 ++ leBytes 4 0x300 ++ leBytes 2 3
def img0 (svn : Nat) : List Byte := padTo 12288 (padTo 0x40 (imgHead svn) ++ secEnt 1 0xAE0 256 0x1000 ++ secEnt 2 0xBE0 16 0 ++ secEnt 3 0xBF0 16 0)
def a0 : ChanBoot := ⟨1, 1, 1, 1, 1, 32, none, 5, 0, [], 9⟩
def bd0 : BootData := ⟨List.replicate 8 a0, [], [], [], [], 500⟩
def flash (l : PMap (List Byte)) (c : Chip) : Chip := { c with sys := { c.sys with flash := l } }
def initd (c : Chip) : Chip := { c with fuses := { c.fuses with init := true } }
def unb (c : Chip) : Chip := { c with sys := { c.sys with booted := false } }
def withRun (c : Chip) : Chip := { c with sys := { c.sys with running := some run0, booted := true, romMapped := true } }
def rp0 : ReplayData := ⟨[], [], none, [], [], [], []⟩
def dlx (d10 d11 : Nat) : Ctx := adm (sqe 0x11 0 d10 d11 0 0)
def FS (x : Ctx) (c : Chip) : State := on (tag 9 x c)
def fcx (act fs : Nat) : Ctx := adm (sqe 0x10 0 (act * 8 + fs) 0 0 0)
def pcs (c : Chip) : Chip := withRun { c with sys := { c.sys with pieces := [(0, (img0 3).take 4096), (4096, ((img0 3).drop 4096).take 4096), (8192, (img0 3).drop 8192)] } }
def fl3 (c : Chip) : Chip := withRun (flash [(1, img0 3), (2, img0 3)] c)
def qs : State := { s1 with pending := [.skipInsert 0, .skipInsert 1] }
def qt : State := { s1 with pending := [.skipInsert 1] }
def cq (opc d10 d11 : Nat) : Ctx := adm (sqe opc 0 d10 d11 0 0)
def QT (x : Ctx) : State := on (tag 9 x f1)
def pend1 : Chip := f1.modFn 0 fun r => { r with pendEv := [.criticalWarning 1] }
def srm : CoreReq := ⟨15, .store, 0x1000DFFFFFE, 2, 0x1234, [], [], none, [], 0⟩
def tcm : CoreReq := ⟨15, .load, 0xE0001FFFFE, 2, 0, [], [], none, [], 0⟩
def act0 : Chip := (runs drq).setFld F.INTAKE_FWACT_DRAINED 1

/-! Ill-formed commands: one for each check, refused; the same numbers at their limits, accepted. -/

theorem test_illFormed_refused : ([
    .perstDeassert 4, .mailboxToFw 4, .skipInsert 36, .rebuildMember 36, .d3hotEntry 1024, .flush 65536, .claimGranted 32 0,
    .digestAllocate 16, .digestFinal 0 16, .suspendHoldExpiry 4608, .sampleWindow 8, .refreshDue 0 16 0 0, .openRowTimeout 0 1024,
    .domainWake 33, .tenantNscfgWrite 0 5, .tenantNscfgWrite 8193 5, .controllerFinish 655360, .laneLoss 0 2, .reclaimCommand (2 ^ 20),
    .linkTrainingDone 0 7 8 true, .linkTrainingDone 0 0 8 true, .assignmentCommit 0 256, .ideIntegrityFailure 0 16, .anaStateWrite 0 64 0,
    .namespaceCreate 0 1 6 false 0 [], .namespaceCreate 0 1 0 false 0 [65536], .keyClear 1024, .keyWrap 3 16384, .firmwareActivation 4 0 0,
    .wakeEdge 4, .wakeEdge 8, .wakeLevel 0 8, .eventWindowRead 5 0 0 0, .nvmeMiMessage 3 [], .coalescingTimerExpiry 0 1024,
    .setOwner 0 4096 0, .sqTailDoorbell 0 4096 0, .submissionEntryFetched 0 [1, 2] (.prp 0 [] []),
    .registerReadClear (.bar2Data 0 (2 ^ 20)), .hardDecodeDone 0 ⟨true, 0, 0, List.replicate 4225 0⟩, .dramRequest ⟨.core 0, 0, 0, none, [], []⟩, .coreAccess ⟨16, .load, 0, 8, 0, [], [], none, [], 0⟩] : List Instr).all (fun i => !i.wf) = true := by
  decide +kernel

theorem test_limits_accepted : ([
    .perstDeassert 3, .mailboxToFw 3, .skipInsert 35, .rebuildMember 35, .d3hotEntry 1023, .flush 65535, .claimGranted 31 0,
    .digestAllocate 15, .digestFinal 0 15, .suspendHoldExpiry 4607, .sampleWindow 7, .refreshDue 0 15 0 0, .openRowTimeout 0 1023,
    .domainWake 32, .tenantNscfgWrite 1 5, .tenantNscfgWrite 8192 5, .controllerFinish 655359, .laneLoss 0 1, .reclaimCommand (2 ^ 20 - 1),
    .linkTrainingDone 0 6 8 true, .linkTrainingDone 0 1 8 true, .assignmentCommit 0 255, .ideIntegrityFailure 0 15, .anaStateWrite 0 63 0,
    .namespaceCreate 0 1 5 false 0 [], .namespaceCreate 0 1 0 false 0 [65535], .keyClear 1023, .keyWrap 3 16383, .firmwareActivation 3 0 0,
    .wakeEdge 5, .wakeEdge 7, .wakeLevel 0 7, .eventWindowRead 4 0 0 0, .nvmeMiMessage 2 [], .coalescingTimerExpiry 0 1023,
    .setOwner 0 4095 0, .sqTailDoorbell 0 4095 0] : List Instr).all Instr.wf = true := by
  decide

/-! The manual's worked examples. -/

/-- The entry 0x01_D20A_F3C5 is pool 14,913, offset 193,477: row 188, data strip 15, code unit 5, in slot 5 (the examples after R150 and R352). -/
theorem test_mapEntry_example : mapDecode 0x01D20AF3C5 = .pool 14913 193477 ∧ rowOfUnit 193477 = 188 ∧ stripOfUnit 193477 = 15 ∧
    193477 % 64 = 5 ∧ slotOf 188 15 = 5 := by decide

/-- At the defaults of R53 the guaranteed part is 36,736 tags and the shared part 28,736 (the example after R84). -/
theorem test_tagPool_example : base.guaranteed = 36736 ∧ base.sharedFree = 28736 := by decide +kernel

/-- A bank as the example after R477 sets it: V_CHG 33.00 V, V_MIN 13.00 V, I_MAX 12.0 A. -/
def bank (step v1 esr : Nat) : State :=
  let c := ((base.setFld F.RESV_RCFG_VCHG_10MV 3300).setFld F.RESV_RCFG_VMIN_10MV 1300).setFld F.RESV_RCFG_IMAX_100MA 120
  on { c with supply := { c.supply with test := some ⟨step, 3000, 10, 33000, v1, esr⟩ } }

/-- A field of the part after a command. -/
def after (i : Instr) (s : State) (f : Chip → Nat) : Option Nat := match exec i s with | .next t => some (f t.chip) | _ => none

/-- V0 33.000 V, V1 32.925 V at 2.50 A: 30 mΩ. -/
theorem test_esr_example : after (.testEsrSample 32925 2500) (bank 3 0 0) (fun c => (c.supply.test.map ResTest.esr).getD 0) = some 300 := by decide +kernel

/-- 52,719 µC down to 29.925 V: 17,573 µF and 8,000 mJ. -/
theorem test_capacitance_example :
    after (.testIntegrationEnd 52719 29925) (bank 4 32925 300) (fun c => c.fld F.RESV_TRES_C_UF) = some 17573 ∧
    after (.testIntegrationEnd 52719 29925) (bank 4 32925 300) (fun c => c.fld F.RESV_RSTAT_E_FULL_MJ) = some 8000 := by decide +kernel

/-- The example after R200: 1,980 programs at 0.26 mJ and 140 erases at 0.40 mJ over 3,000 mJ. -/
theorem test_need_example :
    Chip.needUj { base with z := { base.z with ledger := { base.z.ledger with
      charges := (List.range 1980).map (fun i => (i, base.charge (mkOp .programQlc 0 0 0 false .d1 .dieClear))) ++ (List.range 140).map fun i => (i, base.charge (mkOp .erase 0 0 0 false .d1 .dieClear)) } } } =
    3570800 := by decide +kernel

/-! The queue. -/

/-- An empty queue: a tick of 40 ns (log 9). -/
theorem test_idle_tick : (match step s1 with | .next t => t.chip.now - s1.chip.now | _ => 0) = 40 := by decide +kernel

/-- No word spells a command: the table gives no bits. -/
theorem test_no_words (nbits w : Nat) : decodeTableWord nbits w = none := rfl

/-! States and operands that meet the hypotheses of the statements, clause by clause, at limits of their ranges. -/

/-- A function in SAVED whose epoch is a number. -/
def saved : State := on { (M ilen svd).chip with epoch := 7 }

theorem padTo_length (n : Nat) (l : List Byte) : (padTo n l).length = n := by
  simp [padTo]; omega

/-- A saved image is accepted for the function it came from, whatever its MAC is. -/
theorem image_restores : saved.chip.restoreCheck 5 ((mg ilen).dw 11) (saved.chip.image 5) = none := by
  have hl : (saved.chip.imageBody 5).length = (mg ilen).dw 11 - 64 := by decide +kernel
  unfold Chip.image
  generalize hb : saved.chip.imageBody 5 = b at hl
  generalize hh : padTo 32 (Config.hmac256 saved.chip.macKey b) = h
  have h32 : h.length = 32 := by rw [← hh]; exact padTo_length 32 _
  have ht : (padTo 64 h).take 32 = h := by
    have e : h.take 64 = h := List.take_of_length_le (by omega)
    show List.take 32 (h.take 64 ++ _) = h
    rw [e]
    exact List.take_left' h32
  unfold Chip.restoreCheck
  simp only [List.take_left' hl, List.drop_left' hl, hh, ht, bne_self_eq_false, Bool.or_false]
  generalize padTo 64 h = T
  have h256 : 256 ≤ b.length := by rw [hl]; decide
  have hn : ∀ off k, off + k ≤ 256 → numAt (b ++ T) off k = numAt b off k := by
    intro off k hk
    unfold numAt
    rw [List.drop_append_of_le_length (by omega), List.take_append_of_le_length (by rw [List.length_drop]; omega)]
  have h0 : numAt b 24 2 = 0 := by rw [← hb]; decide +kernel
  simp (disch := decide) only [hn, h0, List.range_zero, List.map_nil, List.any_nil]
  subst hb
  clear hl hh h256 hn h0
  decide +kernel

/-- A chunk of zeros whose DCRC is that of its data. -/
def okC : DecodeRes := ⟨true, 4, 0, List.replicate 0x1064 0#8 ++ (leBytes 4 (Config.crc32c (List.replicate 0x1064 0#8)).toNat ++ List.replicate 24 0#8)⟩

theorem okC_checked (r : Rd) (h : r.place = none) : miscorrected r okC.bytes = false := by
  have e : okC.bytes.take 0x1064 = List.replicate 0x1064 0#8 := List.take_left' (List.length_replicate ..)
  have e2 : (okC.bytes.drop 0x1064).take 4 = leBytes 4 (Config.crc32c (List.replicate 0x1064 0#8)).toNat := by
    have d : okC.bytes.drop 0x1064 = leBytes 4 (Config.crc32c (List.replicate 0x1064 0#8)).toNat ++ List.replicate 24 0#8 :=
      List.drop_left' (List.length_replicate ..)
    rw [d]
    exact List.take_left' (leBytes_length 4 _)
  unfold miscorrected
  rw [h]
  simp only [chunkDcrc, numAt, e, e2, leNum_leBytes, bne_eq_false_iff_eq]
  exact Nat.mod_eq_of_lt (Config.crc32c _).isLt

/-- Where pool 7 is the only one, a candidate is it. -/
theorem candidates_valid (c : Chip) (hp : c.m.pools = [(7, pool7)]) (hv : c.validOf 7 ≠ 0) : ∀ p, c.isCandidate p = true → c.validOf p ≠ 0 := by
  intro p h
  by_cases e : p = 7
  · subst e; exact hv
  · exfalso
    have n : c.pool p = none := by
      unfold Chip.pool
      rw [hp]
      simp only [pget]
      split
      · omega
      · rfl
    unfold Chip.isCandidate at h
    rw [n] at h
    simp at h

/-- Handle 5's record, of TYPE 1 and USAGE 1, in a table at page 3; namespace 1 encrypted under it. -/
def wrapped : State := { mem := [(0x3280, 0x52#8), (0x3281, 0x4B#8), (0x3282, 0x57#8), (0x3283, 0x47#8), (0x3284, 5#8), (0x3286, 1#8), (0x3287, 1#8)]
                         chip := (kc.setFld F.XTS_NSCFG_EN 1 0).setFld F.XTS_NSCFG_HANDLE 5 0, pending := [] }

/-- What the opaque checks of an image are assumed to answer for `img0 3`. -/
def ImageSigned : Prop :=
  Config.hashFn 2 (((img0 3).drop 0xC0).take 2592) = Config.vendorKeyHash ∧
  Config.sigOk (((img0 3).drop 0xC0).take 2592) ((img0 3).take 7661) (((img0 3).drop 7661).take 4627) = true

theorem image_accepted (h : ImageSigned) (c : Chip) (hc : c.fuses.svn ≤ 3) : c.imageFails (img0 3) = none := by
  obtain ⟨h1, h2⟩ := h
  have e : numAt (img0 3) 8 4 = 12288 := by decide +kernel
  have e2 : numAt (img0 3) 12 4 = 3 := by decide +kernel
  unfold Chip.imageFails
  simp only [e, e2]
  rw [if_neg (by decide +kernel), h1]
  simp only [bne_self_eq_false, Bool.false_eq_true, if_false]
  rw [if_neg (by simp only [h2]; decide), if_neg (by omega)]


/-- The clauses for an image that passes its checks (R540, R543, R544), where the key and the signature are accepted. -/
theorem witness_ImageAccepted (h : ImageSigned) :
    (∃ (s : State) (slot stage base : Nat) (r n : Running), slot < 4 ∧ stage < 2 ^ 48 ∧ base = stage / 4096 * 4096 ∧
      s.chip.flag F.INTAKE_FWACT_DRAINED = true ∧ s.chip.sys.running = some r ∧ s.chip.wr = [] ∧ n = runningOf slot (s.chip.slotBytes slot) ∧
      s.chip.imageFails (s.chip.slotBytes slot) = none) ∧
    (∃ (s : State) (tag fs act slot : Nat) (x : Ctx), s.chip.starts tag x ∧ isPf x.fn = true ∧ s.chip.sys.commit = none ∧ fs = bitsOf (x.dw 10) 2 0 ∧
      act = bitsOf (x.dw 10) 5 3 ∧ slot = s.chip.commitSlot fs ∧ act = 2 ∧ fs ≤ 2 ∧ s.chip.imageFails (s.chip.slotBytes slot) = none) ∧
    (∃ (s : State) (tag fs act slot : Nat) (x : Ctx) (img : List Byte), s.chip.starts tag x ∧ isPf x.fn = true ∧ s.chip.sys.commit = none ∧
      fs = bitsOf (x.dw 10) 2 0 ∧ act = bitsOf (x.dw 10) 5 3 ∧ slot = s.chip.commitSlot fs ∧ img = joinPieces s.chip.sys.pieces [] ∧
      (act = 0 ∨ act = 1 ∨ act = 3) ∧ fs ≤ 2 ∧ s.chip.imageFails img = none) ∧
    (∃ (s : State) (d : BootData) (slot : Nat) (img : List Byte) (a : ChanBoot), s.chip.supply.held = false ∧ s.chip.sys.booted = false ∧
      s.chip.wr = [] ∧ slot = s.chip.firstSlot ∧ (slot = 1 ∨ slot = 2) ∧ img = s.chip.slotBytes slot ∧ s.chip.imageFails img = none ∧
      d.chans = List.replicate 8 a ∧ a.mismatch a = none ∧ a.failStep = none ∧ a.pages = [] ∧ d.links = [] ∧ d.failed = [] ∧ d.badDies = [] ∧
      s.chip.fuses.init = true) :=
  ⟨⟨on (flash [(2, img0 3)] act0), 2, 0x80000001, 0x80000000, run0, runningOf 2 (img0 3), by decide +kernel, by decide +kernel, by decide +kernel,
      by decide +kernel, by decide +kernel, by decide +kernel, rfl, image_accepted h _ (by decide +kernel)⟩,
   ⟨FS (fcx 2 0) (fl3 base), 9, 0, 2, 2, fcx 2 0, by unfold Chip.starts; decide +kernel, by decide +kernel, by decide +kernel, by decide +kernel,
      by decide +kernel, by decide +kernel, by decide +kernel, by decide +kernel, image_accepted h _ (by decide +kernel)⟩,
   ⟨FS (fcx 3 0) (pcs base), 9, 0, 3, 2, fcx 3 0, img0 3, by unfold Chip.starts; decide +kernel, by decide +kernel, by decide +kernel, by decide +kernel,
      by decide +kernel, by decide +kernel, by decide +kernel, by decide +kernel, by decide +kernel, image_accepted h _ (by decide +kernel)⟩,
   ⟨on (initd (unb (flash [(1, img0 3)] base))), bd0, 1, img0 3, a0, by decide +kernel, by decide +kernel, by decide +kernel, by decide +kernel,
      by decide +kernel, by decide +kernel, image_accepted h _ (by decide +kernel), by decide +kernel, by decide +kernel, by decide +kernel,
      by decide +kernel, by decide +kernel, by decide +kernel, by decide +kernel, by decide +kernel⟩⟩

/-- An EVENT_CLEAR that passes every check (R530), where its MAC is the one computed. -/
theorem witness_EventClearAccepted (h : ∀ msg, Config.hmac256 (List.replicate 64 1#8) msg = List.replicate 32 0#8) :
    ∃ (s : State) (tag : Nat) (data : List Byte) (x : Ctx), s.chip.ctx tag = some x ∧ x.st = .firmware ∧ x.sent = false ∧ tag < 65536 ∧
      s.chip.flag F.EVREC_CLRCMD_BUSY = false ∧ s.chip.domOn domXa = true ∧ s.chip.clearCheck x data = none := by
  refine ⟨on (ev (fun r => { r with nonce := 5 }) (clrC 0)), 9, clrData 5 1, ecx 0, by decide +kernel, by decide +kernel, by decide +kernel,
    by decide +kernel, by decide +kernel, by decide +kernel, ?_⟩
  have e : pget (on (ev (fun r => { r with nonce := 5 }) (clrC 0))).chip.keys 5 = some ⟨2, 3, 4, 0, List.replicate 64 1#8⟩ := by decide +kernel
  have e2 : (on (ev (fun r => { r with nonce := 5 }) (clrC 0))).chip.fld F.EVREC_AUTH_SLOT = 5 := by decide +kernel
  unfold Chip.clearCheck
  have e3 : Option.filter (fun k : KeySlot => bitOf k.usage 2) (some ⟨2, 3, 4, 0, List.replicate 64 1#8⟩) = some ⟨2, 3, 4, 0, List.replicate 64 1#8⟩ := by
    decide
  simp only [e, e2, if_pos (show (3 : Nat) ≤ 5 ∧ (5 : Nat) ≤ 63 by decide), e3, h]
  decide +kernel

/-- A wrapped record that unwraps, and an XTS cache filled from it (R406, R409). -/
theorem witness_RecordUnwraps (h : ∀ iv b, Config.aesUnwrap kc.kek iv b = some (List.replicate 32 7#8 ++ List.replicate 32 8#8)) :
    (∃ (s : State) (slot handle ty usage : Nat) (k : List Byte), 3 ≤ slot ∧ slot ≤ 511 ∧ handle ≤ 16383 ∧
      unwrapRecord s handle = some (ty, usage, k)) ∧
    (∃ (s : State) (nsid handle usage i : Nat) (k : List Byte), handle = s.chip.fld F.XTS_NSCFG_HANDLE (nsid - 1) ∧ s.chip.xtsOn nsid = true ∧
      (∀ k ∈ s.chip.xts, k.nsid ≠ nsid) ∧ (∀ e ∈ s.chip.intake.tags, e.2.keyWait = true → e.2.nsid ≠ nsid) ∧
      unwrapRecord s handle = some (1, usage, k) ∧ k.take 32 ≠ (k.drop 32).take 32 ∧ s.chip.cacheSlot = some i) := by
  have hk : wrapped.chip.kek = kc.kek := by decide +kernel
  have hr : unwrapRecord wrapped 5 = some (1, 1, List.replicate 32 7#8 ++ List.replicate 32 8#8) := by
    have e : (readNum wrapped (wrapped.chip.recAddr 5) 4 != 0x47574B52 || readNum wrapped (wrapped.chip.recAddr 5 + 4) 2 != 5) = false := by decide +kernel
    have e1 : readNum wrapped (wrapped.chip.recAddr 5 + 6) 1 = 1 := by decide +kernel
    have e2 : readNum wrapped (wrapped.chip.recAddr 5 + 7) 1 = 1 := by decide +kernel
    unfold unwrapRecord
    simp only [e, e1, e2, hk, h]
    rfl
  exact ⟨⟨wrapped, 511, 5, 1, 1, _, by decide, by decide, by decide, hr⟩,
    ⟨wrapped, 1, 5, 1, 512, _, by decide +kernel, by decide +kernel, by decide +kernel, by decide +kernel, hr, by decide +kernel, by decide +kernel⟩⟩

theorem witness_LinkAndFunctionPower :
    (∃ (s : State) (port : Nat) (width : Nat) (l : Nat), port < 4 ∧ width < 32 ∧ l = s.chip.lead port ∧ s.chip.flag F.HP_LSTAT_LINK_UP l = true ∧ s.chip.flag F.HP_LSTAT_FLIT l = true ∧ (∃ n, s.chip.l0pMin l = some n ∧ n ≤ width) ∧ width < s.chip.fld F.HP_LSTAT_L0P_WIDTH l) ∧
    (∃ (s : State) (port : Nat) (width : Nat) (l : Nat), port < 4 ∧ width < 32 ∧ l = s.chip.lead port ∧ s.chip.flag F.HP_LSTAT_LINK_UP l = true ∧ (s.chip.flag F.HP_LSTAT_FLIT l = false ∨ s.chip.l0pMin l = none ∨ s.chip.fld F.HP_LSTAT_L0P_WIDTH l ≤ width)) ∧
    (∃ (s : State) (port : Nat) (width : Nat) (l : Nat), port < 4 ∧ width < 32 ∧ l = s.chip.lead port ∧ s.chip.flag F.HP_LSTAT_LINK_UP l = true ∧ s.chip.fld F.HP_LSTAT_L0P_WIDTH l < width ∧ width ≤ s.chip.fld F.HP_LSTAT_WIDTH l) ∧
    (∃ (s : State) (port : Nat) (width : Nat) (l : Nat), port < 4 ∧ width < 32 ∧ l = s.chip.lead port ∧ s.chip.flag F.HP_LSTAT_LINK_UP l = true ∧ s.chip.fld F.HP_LSTAT_WIDTH l < width) ∧
    (∃ (s : State) (fn : Nat), s.chip.fnExists fn = true) ∧
    (∃ (s : State) (fn : Nat), (s.chip.fn fn).d3hot = true ∧ (s.chip.fn fn).d3Held = [] ∧ (s.chip.fn fn).pba = []) :=
  ⟨⟨on (((up 2).setFld F.HP_LSTAT_FLIT 1 2).setFld F.HP_CTL_L0P_MIN 2 2 |>.setFld F.HP_LSTAT_L0P_WIDTH 16 2), 2, 4, 2, by decide +kernel⟩,
   ⟨on ((up 2).setFld F.HP_LSTAT_L0P_WIDTH 16 2), 2, 4, 2, by decide +kernel⟩,
   ⟨on ((up 2).setFld F.HP_LSTAT_L0P_WIDTH 4 2), 2, 16, 2, by decide +kernel⟩,
   ⟨on ((up 2).setFld F.HP_LSTAT_L0P_WIDTH 4 2), 2, 17, 2, by decide +kernel⟩,
   ⟨s1, 768, by decide +kernel⟩,
   ⟨on (base.modFn 0 fun r => {r with d3hot := true}), 0, by decide +kernel⟩⟩

theorem witness_FirmwareIsCommitted_1 :
    (∃ (s : State) (tag : Nat) (x : Ctx), s.chip.starts tag x ∧ isPf x.fn = false) ∧
    (∃ (s : State) (tag : Nat) (x : Ctx) (len : Nat) (off : Nat), s.chip.starts tag x ∧ isPf x.fn = true ∧ len = 4 * (x.dw 10 + 1) ∧ off = 4 * x.dw 11 ∧ (len % 4096 ≠ 0 ∨ off % 4096 ≠ 0 ∨ 4194304 < off + len)) ∧
    (∃ (s : State) (tag : Nat) (x : Ctx) (len : Nat) (off : Nat), s.chip.starts tag x ∧ isPf x.fn = true ∧ len = 4 * (x.dw 10 + 1) ∧ off = 4 * x.dw 11 ∧ len % 4096 = 0 ∧ off % 4096 = 0 ∧ off + len ≤ 4194304) ∧
    (∃ (s : State) (tag : Nat) (x : Ctx), s.chip.starts tag x ∧ isPf x.fn = true ∧ s.chip.sys.commit ≠ none) ∧
    (∃ (s : State) (tag : Nat) (x : Ctx) (fs : Nat) (act : Nat) (slot : Nat) (img : List Byte), s.chip.starts tag x ∧ isPf x.fn = true ∧ s.chip.sys.commit = none ∧ fs = bitsOf (x.dw 10) 2 0 ∧ act = bitsOf (x.dw 10) 5 3 ∧ slot = s.chip.commitSlot fs ∧ img = joinPieces s.chip.sys.pieces [] ∧ 3 < act) ∧
    (∃ (s : State) (tag : Nat) (x : Ctx) (fs : Nat) (act : Nat) (slot : Nat) (img : List Byte), s.chip.starts tag x ∧ isPf x.fn = true ∧ s.chip.sys.commit = none ∧ fs = bitsOf (x.dw 10) 2 0 ∧ act = bitsOf (x.dw 10) 5 3 ∧ slot = s.chip.commitSlot fs ∧ img = joinPieces s.chip.sys.pieces [] ∧ act ≤ 3 ∧ 2 < fs) :=
  ⟨⟨FS (cmd 5 0 (sqe 0x11 0 0 0 0 0)) base, 9, cmd 5 0 (sqe 0x11 0 0 0 0 0), by unfold Chip.starts; decide +kernel, by decide +kernel⟩,
   ⟨FS (dlx 1022 0) base, 9, dlx 1022 0, 4092, 0, by unfold Chip.starts; decide +kernel, by decide +kernel⟩,
   ⟨FS (dlx 1023 0xFFC00) base, 9, dlx 1023 0xFFC00, 4096, 0x3FF000, by unfold Chip.starts; decide +kernel, by decide +kernel⟩,
   ⟨FS (dlx 1023 0xFFC00) {base with sys := {base.sys with commit := some (1,1)}}, 9, dlx 1023 0xFFC00, by unfold Chip.starts; decide +kernel, by decide +kernel⟩,
   ⟨FS (fcx 4 0) base, 9, fcx 4 0, 0, 4, 2, [], by unfold Chip.starts; decide +kernel, by decide +kernel⟩,
   ⟨FS (fcx 3 3) base, 9, fcx 3 3, 3, 3, 3, [], by unfold Chip.starts; decide +kernel, by decide +kernel⟩⟩

theorem witness_FirmwareIsCommitted_2 :
    (∃ (s : State) (tag : Nat) (x : Ctx) (fs : Nat) (act : Nat) (slot : Nat) (img : List Byte), s.chip.starts tag x ∧ isPf x.fn = true ∧ s.chip.sys.commit = none ∧ fs = bitsOf (x.dw 10) 2 0 ∧ act = bitsOf (x.dw 10) 5 3 ∧ slot = s.chip.commitSlot fs ∧ img = joinPieces s.chip.sys.pieces [] ∧ act = 2 ∧ fs ≤ 2 ∧ s.chip.imageFails (s.chip.slotBytes slot) ≠ none) ∧
    (∃ (s : State) (tag : Nat) (x : Ctx) (fs : Nat) (act : Nat) (slot : Nat) (img : List Byte) (k : Nat), s.chip.starts tag x ∧ isPf x.fn = true ∧ s.chip.sys.commit = none ∧ fs = bitsOf (x.dw 10) 2 0 ∧ act = bitsOf (x.dw 10) 5 3 ∧ slot = s.chip.commitSlot fs ∧ img = joinPieces s.chip.sys.pieces [] ∧ (act = 0 ∨ act = 1 ∨ act = 3) ∧ fs ≤ 2 ∧ s.chip.imageFails img = some k) :=
  ⟨⟨FS (fcx 2 0) base, 9, fcx 2 0, 0, 2, 2, [], by unfold Chip.starts; decide +kernel, by decide +kernel⟩,
   ⟨FS (fcx 0 0) base, 9, fcx 0 0, 0, 0, 2, [], 1, by unfold Chip.starts; decide +kernel, by decide +kernel⟩⟩

theorem witness_DiesAreScheduled :
    (∃ (s : State) (i : Nat) (r : Rd) (p : Nat), s.chip.rd i = some r ∧ r.here = false ∧ r.for_ = RdFor.patrol p ∧ r.place = none ∧ r.other = none ∧ r.degraded = false ∧ s.chip.domOn (domFg (memberOf r.at_.die / 6)) = true ∧ (s.chip.die r.at_.die).st = DieState.read) ∧
    (∃ (s : State) (i : Nat) (o : Op) (k : Nat), (s.chip.advanceTo (o.arrived + us (s.chip.fld F.SCHED_DL_D1_SUSP_AGE_US))).canPause o.die k ∧ s.chip.op i = some o ∧ o.cls = Cls.d1 ∧ o.stage = OpStage.queued) ∧
    (∃ (s : State) (i : Nat) (o : Op), (s.chip.advanceTo (o.runAt + s.chip.minRun o)).canPause o.die i ∧ s.chip.op i = some o ∧ o.started = true ∧ o.stage = OpStage.running ∧ o.rt = Routine.programQlc) ∧
    (∃ (s : State) (die : Nat) (i : Nat) (o : Op) (t0 : Nat), (s.chip.die die).susp = some i ∧ s.chip.op i = some o ∧ o.stage = OpStage.suspended ∧ (s.chip.die die).confAt = some t0 ∧ o.rt = Routine.programQlc ∧ (s.chip.die die).st = DieState.prgSusp ∧ (s.chip.die die).posted.length ≤ 1) ∧
    (∃ (s : State) (die : Nat) (i : Nat), (s.chip.die die).susp = some i ∧ (s.chip.die die).st = DieState.suspending ∧ (s.chip.die die).queue = []) :=
  ⟨⟨on (rds [(3, prd)] (base.modDie 130 fun d => { d with st := .read })), 3, prd, 4, by decide +kernel⟩,
   ⟨on sched, 4, sr, 8, ⟨by decide +kernel, by decide +kernel, ⟨_, rfl, by decide +kernel⟩, 4, by decide +kernel, _, rfl, by decide +kernel, by decide +kernel⟩, by decide +kernel⟩,
   ⟨on (sched.modM fun m => {m with ops := [(4, {sr with cls := .d0}), (8, sp)]}), 8, sp, ⟨by decide +kernel, by decide +kernel, ⟨_, rfl, by decide +kernel⟩, 4, by decide +kernel, _, rfl, by decide +kernel, by decide +kernel⟩, by decide +kernel⟩,
   ⟨on susp, 130, 8, {sp with stage := .suspended}, 70, by decide +kernel⟩,
   ⟨on (base.modDie 130 fun d => { d with st := .suspending, susp := some 8, posted := [8], suspAt := 60 }), 130, 8, by decide +kernel⟩⟩

theorem witness_RoutinesStart_1 :
    (∃ (s : State) (i : Nat) (o : Op) (c : Instr), s.chip.wr = [] ∧ (s.chip.link (memberOf o.die)).sendQ = [] ∧ c ∈ [Instr.routineRead i, Instr.routineReadRetry i, Instr.routineSoftRead i, Instr.routineProgramQlc i, Instr.routineProgramSlc i, Instr.routineErase i, Instr.routineSuspend i, Instr.routineResume i, Instr.routineStatus i, Instr.routineParamSet i, Instr.routineDieIdentify i, Instr.routineBridgeReg i] ∧ s.chip.op i = some o ∧ o.stage ≠ OpStage.posted) ∧
    (∃ (s : State) (i : Nat) (o : Op) (c : Instr) (rt : Routine), Taken s.chip i o ∧ s.chip.wr = [] ∧ (s.chip.link (memberOf o.die)).sendQ = [] ∧ (c, rt) ∈ [(Instr.routineRead i, Routine.read), (Instr.routineReadRetry i, Routine.readRetry), (Instr.routineSoftRead i, Routine.softRead)] ∧ o.rt = rt) ∧
    (∃ (s : State) (i : Nat) (o : Op) (c : Instr) (rt : Routine) (k : FrameKind), Taken s.chip i o ∧ s.chip.wr = [] ∧ (s.chip.link (memberOf o.die)).sendQ = [] ∧ (c, rt, k) ∈ [(Instr.routineSuspend i, Routine.suspend, FrameKind.sense), (Instr.routineResume i, Routine.resume, FrameKind.sense), (Instr.routineParamSet i, Routine.paramSet, FrameKind.sense)] ∧ o.rt = rt) ∧
    (∃ (s : State) (i : Nat) (o : Op), Taken s.chip i o ∧ s.chip.wr = [] ∧ (s.chip.link (memberOf o.die)).sendQ = [] ∧ o.rt = Routine.status) ∧
    (∃ (s : State) (i : Nat) (o : Op), Taken s.chip i o ∧ s.chip.wr = [] ∧ (s.chip.link (memberOf o.die)).sendQ = [] ∧ o.rt = Routine.dieIdentify) ∧
    (∃ (s : State) (i : Nat) (o : Op), Taken s.chip i o ∧ s.chip.wr = [] ∧ (s.chip.link (memberOf o.die)).sendQ = [] ∧ o.rt = Routine.bridgeReg) :=
  ⟨⟨on (ops [(4, sp)] base), 4, sp, .routineRead 4, by decide +kernel⟩,
   ⟨RS .read, 4, opP .read, .routineRead 4, .read, ⟨by decide +kernel, by decide +kernel, by decide +kernel, by decide +kernel⟩, by decide +kernel⟩,
   ⟨RSS .suspend (.suspendOf 8), 4, opS .suspend (.suspendOf 8), .routineSuspend 4, .suspend, .sense, ⟨by decide +kernel, by decide +kernel, by decide +kernel, by decide +kernel⟩, by decide +kernel⟩,
   ⟨RS .status, 4, opP .status, ⟨by decide +kernel, by decide +kernel, by decide +kernel, by decide +kernel⟩, by decide +kernel⟩,
   ⟨RS .dieIdentify, 4, opP .dieIdentify, ⟨by decide +kernel, by decide +kernel, by decide +kernel, by decide +kernel⟩, by decide +kernel⟩,
   ⟨RS .bridgeReg, 4, opP .bridgeReg, ⟨by decide +kernel, by decide +kernel, by decide +kernel, by decide +kernel⟩, by decide +kernel⟩⟩

theorem witness_RoutinesStart_2 :
    (∃ (s : State) (i : Nat) (o : Op) (c : Instr) (rt : Routine), Taken s.chip i o ∧ s.chip.wr = [] ∧ (s.chip.link (memberOf o.die)).sendQ = [] ∧ (c, rt) ∈ [(Instr.routineProgramQlc i, Routine.programQlc), (Instr.routineProgramSlc i, Routine.programSlc)] ∧ o.rt = rt) ∧
    (∃ (s : State) (i : Nat) (o : Op) (r : Nat), Taken s.chip i o ∧ (o.purpose = Purpose.blockErase r ∨ ∃ p k, o.purpose = Purpose.poolErase p k ∧ r = if (s.chip.bst o.die o.block).st = BState.incomplete then 3 else 1) ∧ s.chip.wr = [] ∧ (s.chip.link (memberOf o.die)).sendQ = [] ∧ o.rt = Routine.erase ∧ s.chip.z.journal.used + 64 ≤ 16384) :=
  ⟨⟨prgS, 4, opP .programQlc, .routineProgramQlc 4, .programQlc, ⟨by decide +kernel, by decide +kernel, by decide +kernel, by decide +kernel⟩, by decide +kernel⟩,
   ⟨erS .full, 4, opE, 1, ⟨by decide +kernel, by decide +kernel, by decide +kernel, by decide +kernel⟩, .inl rfl, by decide +kernel⟩⟩

def erB : State := { erS .full with chip := (erS .full).chip.modJ fun j => { j with opened := [⟨0, 7, 3, .eraseStart [⟨130, 6, 1, false, 1⟩]⟩] } }
theorem witness_RoutinesStart_batch :
    (∃ (s : State) (i : Nat) (o : Op) (r : Nat) (x : JRec) (is : List EraseItem), Taken s.chip i o ∧ (o.purpose = Purpose.blockErase r ∨ ∃ p k, o.purpose = Purpose.poolErase p k ∧ r = if (s.chip.bst o.die o.block).st = BState.incomplete then 3 else 1) ∧ s.chip.wr = [] ∧ (s.chip.link (memberOf o.die)).sendQ = [] ∧ o.rt = Routine.erase ∧ s.chip.z.journal.used + 64 ≤ 16384 ∧ s.chip.z.journal.opened.getLast? = some x ∧ x.body = .eraseStart is ∧ x.nsid = 0 ∧ is.length < 32) :=
  ⟨erB, 4, opE, 1, ⟨0, 7, 3, .eraseStart [⟨130, 6, 1, false, 1⟩]⟩, [⟨130, 6, 1, false, 1⟩], ⟨by decide +kernel, by decide +kernel, by decide +kernel, by decide +kernel⟩, .inl rfl, by decide +kernel⟩

theorem witness_QueueIsServed :
    (∃ (s : State), s.pending = []) ∧
    (∃ (s : State) (t : State), step s = Host.Outcome.next t ∧ s.queueOk) :=
  ⟨⟨s1, by decide +kernel⟩,
   ⟨qs, qt, rfl, by unfold State.queueOk; decide +kernel⟩⟩

theorem witness_RecorderIsReadAndCleared_1 :
    (∃ (s : State) (tag : Nat) (x : Ctx), s.chip.ctx tag = some x ∧ x.st = TagState.firmware ∧ x.sent = false ∧ tag < 65536 ∧ s.chip.flag F.EVREC_CLRCMD_BUSY = true) ∧
    (∃ (s : State) (tag : Nat) (data : List Byte) (x : Ctx) (k : Nat) (st : Status), s.chip.ctx tag = some x ∧ x.st = TagState.firmware ∧ x.sent = false ∧ tag < 65536 ∧ s.chip.flag F.EVREC_CLRCMD_BUSY = false ∧ s.chip.domOn domXa = true ∧ s.chip.clearCheck x data = some (k, st)) ∧
    (∃ (win : Nat) (source : Nat) (image : Nat) (cursor : Nat), source < 4 ∧ image < 256 ∧ cursor < 2 ^ 48 ∧ 4 < win) ∧
    (∃ (s : State) (win : Nat) (source : Nat) (image : Nat) (cursor : Nat) (r : List (Nat × List Byte) × Nat × Nat × Nat × Nat), source < 4 ∧ image < 256 ∧ cursor < 2 ^ 48 ∧ win ≤ 4 ∧ (r = if source = 3 then ([], 4, cursor, 0, 0) else s.chip.recRead source image cursor 3840)) ∧
    (∃ (s : State) (tag : Nat) (x : Ctx), s.chip.starts tag x ∧ (isPf x.fn = true ∨ ∃ q, (s.chip.fn x.fn).query = some q ∧ q.nsid ∈ (s.chip.fn x.fn).nsids)) ∧
    (∃ (s : State) (tag : Nat) (x : Ctx), s.chip.starts tag x ∧ isPf x.fn = true ∧ x.lsp % 4 ≠ 3) :=
  ⟨⟨on ((clrC 0).setFld F.EVREC_CLRCMD_BUSY 1), 9, ecx 0, by decide +kernel⟩,
   ⟨on (clrC 5), 9, clrData n0 1, ecx 5, 1, .invalidOpcode, by decide +kernel⟩,
   ⟨5, 0, 0, 0, by decide +kernel⟩,
   ⟨on st1, 4, 3, 255, 7, ([], 4, 7, 0, 0), by decide +kernel⟩,
   ⟨on (tag 9 (lpx 0 0x10000 0) (nsd nsC f1)), 9, lpx 0 0x10000 0, by unfold Chip.starts; decide +kernel, by decide +kernel⟩,
   ⟨on (tag 9 (lpx 0 0x10000 0) (nsd nsC f1)), 9, lpx 0 0x10000 0, by unfold Chip.starts; decide +kernel, by decide +kernel⟩⟩

theorem witness_RecorderIsReadAndCleared_2 :
    (∃ (s : State) (tag : Nat) (x : Ctx), s.chip.starts tag x ∧ isPf x.fn = true ∧ x.lsp % 4 = 3) ∧
    (∃ (s : State) (tag : Nat) (x : Ctx), s.chip.starts tag x ∧ isPf x.fn = false ∧ (∀ (q : QueryRange), (s.chip.fn x.fn).query = some q → ¬q.nsid ∈ (s.chip.fn x.fn).nsids)) :=
  ⟨⟨on (tag 9 (lpx 0 0x10300 0) (nsd nsC f1)), 9, lpx 0 0x10300 0, by unfold Chip.starts; decide +kernel, by decide +kernel⟩,
   ⟨on (tag 9 (lpx 5 0x10000 0) (nsd nsC f1)), 9, lpx 5 0x10000 0, by unfold Chip.starts; decide +kernel, by decide +kernel⟩⟩

theorem witness_ConventionalReadsAndWrites :
    (∃ (s : State) (tag : Nat) (x : Ctx) (n : NsRec), StartsAlone s.chip tag x n ∧ n.zoned = false ∧ s.chip.gate x n true = none ∧ x.inRange n = true) ∧
    (∃ (s : State) (tag : Nat) (x : Ctx) (n : NsRec) (first : Nat) (count : Nat), StartsAlone s.chip tag x n ∧ n.zoned = false ∧ s.chip.gate x n true = none ∧ 0 < count ∧ first + count ≤ n.size ∧ bitOf (x.dw 11) 2 = true) ∧
    (∃ (s : State) (tag : Nat) (x : Ctx) (n : NsRec) (ranges : List (Nat × Nat)), StartsAlone s.chip tag x n ∧ n.zoned = false ∧ s.chip.gate x n true = none ∧ bitOf (x.dw 11) 2 = false ∧ (∀ (r : Nat × Nat), r ∈ ranges → r.fst + r.snd ≤ n.size)) ∧
    (∃ (s : State) (tag : Nat) (x : Ctx) (n : NsRec) (i : Instr), StartsAlone s.chip tag x n ∧ n.zoned = false ∧ s.chip.gate x n true = none ∧ x.inRange n = false ∧ i ∈ [Instr.write tag, Instr.writeZeroes tag, Instr.read tag, Instr.compare tag, Instr.verify tag]) ∧
    (∃ (s : State) (tag : Nat) (m : Nat) (k0 : Nat) (x : Ctx) (n : NsRec), StartsAlone s.chip tag x n ∧ n.zoned = false ∧ s.chip.gate x n false = none ∧ x.inRange n = true ∧ k0 = firstUnit (lbasPerUnit n.fmt) (sqeSlba x.sqe) ∧ m = unitCount (lbasPerUnit n.fmt) (sqeSlba x.sqe) (sqeNlb x.sqe) ∧ (∀ (j : Nat), j < m → s.chip.look x.nsid n (k0 + j) = Source.dealloc)) :=
  ⟨⟨S wI nsC, 9, io wI, nsC, ⟨by unfold Chip.starts; decide +kernel, by decide +kernel, fun _ => rfl, by decide +kernel, by decide +kernel, by decide +kernel⟩, by decide +kernel⟩,
   ⟨S dI nsC, 9, io dI, nsC, 0, 1, ⟨by unfold Chip.starts; decide +kernel, by decide +kernel, fun _ => rfl, by decide +kernel, by decide +kernel, by decide +kernel⟩, by decide +kernel⟩,
   ⟨S wI nsC, 9, io wI, nsC, [(0,1)], ⟨by unfold Chip.starts; decide +kernel, by decide +kernel, fun _ => rfl, by decide +kernel, by decide +kernel, by decide +kernel⟩, by decide +kernel⟩,
   ⟨S oI nsC, 9, io oI, nsC, .write 9, ⟨by unfold Chip.starts; decide +kernel, by decide +kernel, fun _ => rfl, by decide +kernel, by decide +kernel, by decide +kernel⟩, by decide +kernel⟩,
   ⟨S wI nsC, 9, 8, 8, io wI, nsC, ⟨by unfold Chip.starts; decide +kernel, by decide +kernel, fun _ => rfl, by decide +kernel, by decide +kernel, by decide +kernel⟩, by decide +kernel⟩⟩

theorem witness_FencesAndMigration_1 :
    (∃ (s : State) (f : Nat) (i : Instr), f < 1024 ∧ s.chip.fnExists f = false ∧ i ∈ [Instr.fence f, Instr.unfence f]) ∧
    (∃ (s : State) (f : Nat), s.chip.fnExists f = true ∧ (s.chip.fn f).fence = none ∧ (∀ (e : Nat × Ctx), e ∈ s.chip.intake.tags → e.snd.fn ≠ f)) ∧
    (∃ (s : State) (f : Nat), s.chip.fnExists f = true ∧ (s.chip.fn f).fence.isSome = true) ∧
    (∃ (s : State) (f : Nat), s.chip.fnExists f = true ∧ (s.chip.fn f).fence = some 6) ∧
    (∃ (s : State) (f : Nat), s.chip.fnExists f = true ∧ (s.chip.fn f).fence ≠ some 6) ∧
    (∃ (s : State) (tag : Nat) (x : Ctx) (f : Nat), Migrates s.chip tag x f ∧ tag < 65536 ∧ (s.chip.fn f).fence.isSome = true) :=
  ⟨⟨s1, 257, .fence 257, by decide +kernel⟩,
   ⟨on (queues base), 0, by decide +kernel⟩,
   ⟨on (base.modFn 0 fun r => {r with fence := some 2}), 0, by decide +kernel⟩,
   ⟨on (base.modFn 0 fun r => {r with fence := some 6}), 0, by decide +kernel⟩,
   ⟨on (base.modFn 0 fun r => {r with fence := some 2}), 0, by decide +kernel⟩,
   ⟨M 0 fun r => {r with fence := some 2}, 9, mg 0, 5, ⟨by unfold Chip.starts; decide +kernel, by decide +kernel, by decide +kernel, by decide +kernel, by decide +kernel, by decide +kernel, by decide +kernel⟩, by decide +kernel⟩⟩

theorem witness_FencesAndMigration_2 :
    (∃ (s : State) (tag : Nat) (x : Ctx) (f : Nat), Migrates s.chip tag x f ∧ tag < 65536 ∧ (s.chip.fn f).fence = none ∧ (s.chip.fn f).mstate = MState.restored) ∧
    (∃ (s : State) (tag : Nat) (x : Ctx) (f : Nat), Migrates s.chip tag x f ∧ tag < 65536 ∧ (s.chip.fn f).fence = none ∧ ((s.chip.fn f).mstate = MState.frozen ∨ (s.chip.fn f).mstate = MState.saved)) ∧
    (∃ (s : State) (tag : Nat) (x : Ctx) (f : Nat), Migrates s.chip tag x f ∧ s.chip.quiet f ∧ tag < 65536 ∧ (s.chip.fn f).fence = none ∧ s.chip.flag F.TENANT_FNCFG_COMPAT f = false) ∧
    (∃ (s : State) (tag : Nat) (x : Ctx) (f : Nat), Migrates s.chip tag x f ∧ s.chip.quiet f ∧ tag < 65536 ∧ (s.chip.fn f).fence = none ∧ s.chip.flag F.TENANT_FNCFG_COMPAT f = true) ∧
    (∃ (s : State) (tag : Nat) (x : Ctx) (f : Nat) (r : FnRec) (n : Nat), Migrates s.chip tag x f ∧ tag < 65536 ∧ (s.chip.fn f).fence = none ∧ r = s.chip.fn f ∧ n = imageLen r.nq r.asg.vec r.nsids.length r.trail.length ∧ r.mstate ≠ MState.frozen ∧ r.mstate ≠ MState.saved) ∧
    (∃ (s : State) (tag : Nat) (x : Ctx) (f : Nat) (r : FnRec) (n : Nat), Migrates s.chip tag x f ∧ tag < 65536 ∧ (s.chip.fn f).fence = none ∧ r = s.chip.fn f ∧ n = imageLen r.nq r.asg.vec r.nsids.length r.trail.length ∧ (r.mstate = MState.frozen ∨ r.mstate = MState.saved) ∧ x.dw 11 < n) :=
  ⟨⟨M 0 fun r => {r with mstate := .restored}, 9, mg 0, 5, ⟨by unfold Chip.starts; decide +kernel, by decide +kernel, by decide +kernel, by decide +kernel, by decide +kernel, by decide +kernel, by decide +kernel⟩, by decide +kernel⟩,
   ⟨M 0 fun r => {r with mstate := .saved}, 9, mg 0, 5, ⟨by unfold Chip.starts; decide +kernel, by decide +kernel, by decide +kernel, by decide +kernel, by decide +kernel, by decide +kernel, by decide +kernel⟩, by decide +kernel⟩,
   ⟨M 0 id, 9, mg 0, 5, ⟨by unfold Chip.starts; decide +kernel, by decide +kernel, by decide +kernel, by decide +kernel, by decide +kernel, by decide +kernel, by decide +kernel⟩, by unfold Chip.quiet; decide +kernel, by decide +kernel⟩,
   ⟨on ((M 0 id).chip.setFld F.TENANT_FNCFG_COMPAT 1 5), 9, mg 0, 5, ⟨by unfold Chip.starts; decide +kernel, by decide +kernel, by decide +kernel, by decide +kernel, by decide +kernel, by decide +kernel, by decide +kernel⟩, by unfold Chip.quiet; decide +kernel, by decide +kernel⟩,
   ⟨M 0 id, 9, mg 0, 5, (M 0 id).chip.fn 5, let r := (M 0 id).chip.fn 5; imageLen r.nq r.asg.vec r.nsids.length r.trail.length, ⟨by unfold Chip.starts; decide +kernel, by decide +kernel, by decide +kernel, by decide +kernel, by decide +kernel, by decide +kernel, by decide +kernel⟩, by decide +kernel⟩,
   ⟨M 0 fz, 9, mg 0, 5, frec 0, ilen, ⟨by unfold Chip.starts; decide +kernel, by decide +kernel, by decide +kernel, by decide +kernel, by decide +kernel, by decide +kernel, by decide +kernel⟩, by decide +kernel⟩⟩

theorem witness_FencesAndMigration_3 :
    (∃ (s : State) (tag : Nat) (x : Ctx) (f : Nat) (r : FnRec) (n : Nat), Migrates s.chip tag x f ∧ tag < 65536 ∧ (s.chip.fn f).fence = none ∧ r = s.chip.fn f ∧ n = imageLen r.nq r.asg.vec r.nsids.length r.trail.length ∧ (r.mstate = MState.frozen ∨ r.mstate = MState.saved) ∧ n ≤ x.dw 11) ∧
    (∃ (s : State) (tag : Nat) (x : Ctx) (f : Nat) (im : List Byte) (r : Nat), Migrates s.chip tag x f ∧ tag < 65536 ∧ (s.chip.fn f).fence = none ∧ s.chip.restoreCheck f (x.dw 11) im = some r) ∧
    (∃ (s : State) (tag : Nat) (x : Ctx) (f : Nat) (im : List Byte), Migrates s.chip tag x f ∧ s.chip.restoreCheck f (x.dw 11) im = none ∧ tag < 65536 ∧ (s.chip.fn f).fence = none ∧ numAt im 12 2 = f) ∧
    (∃ (s : State) (tag : Nat) (x : Ctx) (f : Nat), Migrates s.chip tag x f ∧ tag < 65536 ∧ (s.chip.fn f).mstate = MState.active) ∧
    (∃ (s : State) (tag : Nat) (x : Ctx) (f : Nat), Migrates s.chip tag x f ∧ tag < 65536 ∧ (s.chip.fn f).mstate ≠ MState.active ∧ (s.chip.fn f).aerCids = [] ∧ (s.chip.fn f).pendEv = [] ∧ (s.chip.fn f).trailHeld = [] ∧ (s.chip.fn f).pba = []) ∧
    (∃ (s : State) (tag : Nat) (f : Nat) (t0 : Nat) (y : Ctx), tag < 65536 ∧ (s.chip.fn f).freeze = some (tag, t0) ∧ s.chip.ctx tag = some y ∧ y.sent = false ∧ (s.chip.fn f).mstate = MState.freezing ∧ s.chip.inUse f = 0) :=
  ⟨⟨M ilen fz, 9, mg ilen, 5, frec ilen, ilen, ⟨by unfold Chip.starts; decide +kernel, by decide +kernel, by decide +kernel, by decide +kernel, by decide +kernel, by decide +kernel, by decide +kernel⟩, by decide +kernel⟩,
   ⟨M ilen svd, 9, mg ilen, 5, [], 5, ⟨by unfold Chip.starts; decide +kernel, by decide +kernel, by decide +kernel, by decide +kernel, by decide +kernel, by decide +kernel, by decide +kernel⟩, by decide +kernel⟩,
   ⟨saved, 9, mg ilen, 5, saved.chip.image 5, ⟨by unfold Chip.starts; decide +kernel, by decide +kernel, by decide +kernel, by decide +kernel, by decide +kernel, by decide +kernel, by decide +kernel⟩, image_restores, by decide +kernel⟩,
   ⟨M 0 id, 9, mg 0, 5, ⟨by unfold Chip.starts; decide +kernel, by decide +kernel, by decide +kernel, by decide +kernel, by decide +kernel, by decide +kernel, by decide +kernel⟩, by decide +kernel⟩,
   ⟨M 0 fz, 9, mg 0, 5, ⟨by unfold Chip.starts; decide +kernel, by decide +kernel, by decide +kernel, by decide +kernel, by decide +kernel, by decide +kernel, by decide +kernel⟩, by decide +kernel⟩,
   ⟨on (tag 9 mw (vf.modFn 5 fzg)), 9, 5, 60, mw, by decide +kernel⟩⟩

theorem witness_FencesAndMigration_4 :
    (∃ (s : State) (tag : Nat) (f : Nat) (t0 : Nat) (y : Ctx) (n : Nat), tag < 65536 ∧ (s.chip.fn f).freeze = some (tag, t0) ∧ s.chip.ctx tag = some y ∧ y.sent = false ∧ (s.chip.fn f).mstate = MState.freezing ∧ n = s.chip.inUse f ∧ 0 < n) ∧
    (∃ (s : State) (tag : Nat) (f : Nat), tag < 65536 ∧ ((s.chip.fn f).mstate ≠ MState.freezing ∨ 0 < s.chip.inUse f)) ∧
    (∃ (s : State) (tag : Nat) (f : Nat), tag < 65536 ∧ (s.chip.fn f).freeze = none) :=
  ⟨⟨on (tag 11 {cmd 5 1 (sqe 1 1 0 0 0 0) with committed := true} (tag 9 mw (vf.modFn 5 fzg))), 9, 5, 60, mw, 1, by decide +kernel⟩,
   ⟨M 0 id, 9, 5, by decide +kernel⟩,
   ⟨M 0 id, 9, 5, by decide +kernel⟩⟩

theorem witness_ClocksWatchdogsAndRestarts_1 :
    (∃ (s : State), s.chip.supply.held = false ∧ s.chip.watched Clock.sclk = true) ∧
    (∃ (s : State) (k : Clock), s.chip.supply.held = false ∧ k ∈ [Clock.fclk, Clock.xclk, Clock.cclk, Clock.aclk] ∧ s.chip.watched k = true) ∧
    (∃ (s : State), s.chip.supplied) ∧
    (∃ (s : State), (s.chip.supply.held = true ∨ s.chip.warned = true ∨ s.chip.supply.mainPg = false)) ∧
    (∃ (s : State), s.chip.supply.held = true) ∧
    (∃ (s : State), s.chip.supplied) :=
  ⟨⟨s1, by decide +kernel⟩,
   ⟨s1, Clock.aclk, by decide +kernel⟩,
   ⟨s1, by unfold Chip.supplied; decide +kernel⟩,
   ⟨State.reset, by decide +kernel⟩,
   ⟨State.reset, by decide +kernel⟩,
   ⟨on cores1, by unfold Chip.supplied; decide +kernel⟩⟩

theorem witness_ClocksWatchdogsAndRestarts_2 :
    (∃ (s : State) (n : Nat), pget s.chip.sys.cores n = none) ∧
    (∃ (s : State) (n : Nat) (k : Core), pget s.chip.sys.cores n = some k) ∧
    (∃ (s : State) (n : Nat), (∀ (k : Core), pget s.chip.sys.cores n = some k → k.running = false)) ∧
    (∃ (s : State) (n : Nat), (s.chip.flag F.SYS_CWDOG_EN n = false ∨ n ∈ s.chip.pwr.wfi)) ∧
    (∃ (s : State) (n : Nat) (k : Core) (d : RestartData), MayRestart s.chip n k d ∧ d.lost = none) ∧
    (∃ (s : State) (n : Nat) (k : Core) (d : RestartData), MayRestart s.chip n k d ∧ d.lost = none ∧ s.chip.flag F.SYS_CWDOG_EN n = true ∧ (¬n ∈ s.chip.pwr.wfi)) :=
  ⟨⟨on cores1, 3, by decide +kernel⟩,
   ⟨on cores1, 15, ⟨true, 0x2000, [7], 40⟩, by decide +kernel⟩,
   ⟨on cores1, 3, by decide +kernel⟩,
   ⟨on cores1, 2, by decide +kernel⟩,
   ⟨on {cores1 with ev := {cores1.ev with time := 1031}}, 15, ⟨true, 0x2000, [7], 40⟩, rd0, ⟨by decide +kernel, by decide +kernel, by decide +kernel, by decide +kernel, by decide +kernel, by decide +kernel, (fun _ h => nomatch h)⟩, by decide +kernel⟩,
   ⟨on {(cores1.setFld F.SYS_CWDOG_EN 1 15) with ev := {cores1.ev with time := 1031}}, 15, ⟨true, 0x2000, [7], 40⟩, rd0, ⟨by decide +kernel, by decide +kernel, by decide +kernel, by decide +kernel, by decide +kernel, by decide +kernel, (fun _ h => nomatch h)⟩, by decide +kernel⟩⟩

theorem witness_ClocksWatchdogsAndRestarts_3 :
    (∃ (s : State) (n : Nat) (k : Core) (d : RestartData) (cause : Nat), MayRestart s.chip n k d ∧ d.lost = some cause) ∧
    (∃ (s : State) (n : Nat) (k : Core) (d : RestartData), n < 16 ∧ pget s.chip.sys.cores n = some k ∧ k.running = true ∧ (∃ r, r ∈ k.restarts ∧ s.chip.opTime < r + 1024) ∧ d.tags = [] ∧ (∀ (e : Nat × DigestCtx), e ∈ s.chip.digest → e.snd.owner ≠ n)) ∧
    (∃ (via : Nat), 2 < via) ∧
    (∃ (via : Nat), via < 2) :=
  ⟨⟨{(on cores1) with mem := [(0xE100400000, 7#8), (0xE1005FFFFF, 1#8), (0xE100600000, 7#8)]}, 2, ⟨true, 0x1000, [], 40⟩, rd1, 1, ⟨by decide +kernel, by decide +kernel, by decide +kernel, by decide +kernel, by decide +kernel, by decide +kernel, (fun _ h => nomatch h)⟩, by decide +kernel⟩,
   ⟨on {cores1 with ev := {cores1.ev with time := 1030}}, 15, ⟨true, 0x2000, [7], 40⟩, rd0, by decide +kernel⟩,
   ⟨3, by decide +kernel⟩,
   ⟨1, by decide +kernel⟩⟩

theorem witness_QueueNumbersFollowTheAssignment :
    (∃ (s : State) (tag : Nat) (x : Ctx) (r : FnRec) (qid : Nat), s.chip.starts tag x ∧ r = s.chip.fn x.fn ∧ qid = bitsOf (x.dw 10) 15 0 ∧ (qid = 0 ∨ r.asg.iopq < qid)) ∧
    (∃ (s : State) (tag : Nat) (x : Ctx) (r : FnRec) (qid : Nat), s.chip.starts tag x ∧ r = s.chip.fn x.fn ∧ qid = bitsOf (x.dw 10) 15 0 ∧ bitsOf (x.dw 10) 7 0 = 7) :=
  ⟨⟨QT (cq 1 0x10000 0), 9, cq 1 0x10000 0, f1.fn 0, 0, by unfold Chip.starts; decide +kernel, by decide +kernel⟩,
   ⟨QT (cq 9 7 0), 9, cq 9 7 0, f1.fn 0, 7, by unfold Chip.starts; decide +kernel, by decide +kernel⟩⟩

theorem witness_BootRunsAnImage :
    (∃ (s : State), (s.chip.supply.held = true ∨ s.chip.sys.booted = true)) ∧
    (∃ (s : State), s.chip.supply.held = false ∧ s.chip.sys.booted = false ∧ s.chip.wr = [] ∧ (∀ (k : Nat), k < 8 → s.chip.fld F.DRC_SELFTEST_MODE k = 0) ∧ s.chip.imageFails (s.chip.slotBytes 1) ≠ none ∧ s.chip.imageFails (s.chip.slotBytes 2) ≠ none) ∧
    (∃ (s : State), (s.chip.sys.romMapped = false ∨ s.chip.sys.booted = false ∨ s.chip.sys.running = none ∨ s.chip.sys.replayed ≠ none)) ∧
    (∃ (s : State), s.chip.sys.romMapped = true ∧ s.chip.sys.booted = true ∧ s.chip.sys.running ≠ none ∧ s.chip.sys.replayed = none) ∧
    (∃ (s : State), (s.chip.flag F.SYS_BOOT_HANDOFF = true ∨ s.chip.sys.running = none)) ∧
    (∃ (s : State), s.chip.flag F.SYS_BOOT_HANDOFF = false ∧ s.chip.sys.running ≠ none) :=
  ⟨⟨State.reset, by decide +kernel⟩,
   ⟨s1, by decide +kernel⟩,
   ⟨s1, by decide +kernel⟩,
   ⟨on (withRun base), by decide +kernel⟩,
   ⟨s1, by decide +kernel⟩,
   ⟨on (withRun base), by decide +kernel⟩⟩

theorem witness_FirmwareActivations_1 :
    (∃ (s : State), s.chip.flag F.INTAKE_FWACT_DRAIN_REQ = false) ∧
    (∃ (s : State), s.chip.flag F.INTAKE_FWACT_DRAIN_REQ = true ∧ s.chip.flag F.INTAKE_FWACT_EXPIRED = false ∧ (∀ (e : Nat × Ctx), e ∈ s.chip.intake.tags → e.snd.st = TagState.firmware)) ∧
    (∃ (s : State), (∃ e, e ∈ s.chip.intake.tags ∧ e.snd.st ≠ TagState.firmware)) ∧
    (∃ (s : State) (t0 : Nat), s.chip.intake.drainAt = some t0 ∧ s.chip.flag F.INTAKE_FWACT_DRAIN_REQ = true ∧ s.chip.flag F.INTAKE_FWACT_DRAINED = false) ∧
    (∃ (s : State) (t0 : Nat), s.chip.intake.drainAt = some t0 ∧ s.chip.sys.commit = none) ∧
    (∃ (s : State) (slot : Nat) (stage : Nat) (base : Nat), slot < 4 ∧ stage < 2 ^ 48 ∧ base = stage / 4096 * 4096 ∧ (s.chip.flag F.INTAKE_FWACT_DRAINED = false ∨ s.chip.sys.running = none)) :=
  ⟨⟨on f1, by decide +kernel⟩,
   ⟨on (tag 3 abf drq), by decide +kernel⟩,
   ⟨on (tag 3 ab drq), by decide +kernel⟩,
   ⟨on drq, 1000, by decide +kernel⟩,
   ⟨on (drq.setFld F.INTAKE_FWACT_DRAINED 1), 1000, by decide +kernel⟩,
   ⟨s1, 3, 0xFFFFFFFFF000, 0xFFFFFFFFF000, by decide +kernel⟩⟩

theorem witness_FirmwareActivations_2 :
    (∃ (s : State) (slot : Nat) (stage : Nat) (base : Nat) (r : Running), slot < 4 ∧ stage < 2 ^ 48 ∧ base = stage / 4096 * 4096 ∧ s.chip.flag F.INTAKE_FWACT_DRAINED = true ∧ s.chip.sys.running = some r ∧ s.chip.wr = [] ∧ s.chip.imageFails (s.chip.slotBytes slot) ≠ none) ∧
    (∃ (s : State) (v : Nat), v < 256 ∧ ((∀ (r : Running), s.chip.sys.running = some r → r.svn < v) ∨ s.chip.sys.running = none ∨ v ≤ s.chip.fuses.svn)) ∧
    (∃ (s : State) (v : Nat) (r : Running), v < 256 ∧ s.chip.sys.running = some r ∧ v ≤ r.svn ∧ s.chip.fuses.svn < v) :=
  ⟨⟨on act0, 2, 0x80000001, 0x80000000, run0, by decide +kernel⟩,
   ⟨on (runs base), 4, by decide +kernel⟩,
   ⟨on (runs base), 3, run0, by decide +kernel⟩⟩

theorem witness_DigestContexts_1 :
    (∃ (s : State) (core : Nat) (x : Nat), core < 16 ∧ x < 16 ∧ plowest s.chip.digest 16 0 = some x) ∧
    (∃ (s : State) (core : Nat) (x : Nat), core < 16 ∧ x < 16 ∧ plowest s.chip.digest 16 0 = none) ∧
    (∃ (s : State) (core : Nat) (x : Nat), core < 16 ∧ x < 16 ∧ (s.chip.dctx x = none ∨ ∃ d, s.chip.dctx x = some d ∧ d.owner ≠ core)) ∧
    (∃ (s : State) (core : Nat) (x : Nat) (d : DigestCtx) (v : Nat), core < 16 ∧ x < 16 ∧ s.chip.dctx x = some d ∧ d.owner = core ∧ bitOf v 4 = false) ∧
    (∃ (s : State) (core : Nat) (x : Nat) (d : DigestCtx), core < 16 ∧ x < 16 ∧ s.chip.dctx x = some d ∧ d.owner = core ∧ d.running = true ∧ d.done = false ∧ d.final = false ∧ d.declLen = 0) ∧
    (∃ (s : State) (core : Nat) (x : Nat) (d : DigestCtx), core < 16 ∧ x < 16 ∧ s.chip.dctx x = some d ∧ d.owner = core ∧ d.running = true ∧ d.done = false ∧ d.final = false) :=
  ⟨⟨s1, 15, 0, by decide +kernel⟩,
   ⟨on {base with digest := (List.range 16).map fun k => (k, digestNew 0)}, 15, 0, by decide +kernel⟩,
   ⟨dg (digestNew 2) base, 15, 1, by decide +kernel⟩,
   ⟨dg (digestNew 2) base, 2, 1, digestNew 2, 0x8000000000000001, by decide +kernel⟩,
   ⟨dg drn base, 2, 1, drn, by decide +kernel⟩,
   ⟨dg {drn with declLen := 1} base, 2, 1, {drn with declLen := 1}, by decide +kernel⟩⟩

theorem witness_DigestContexts_2 :
    (∃ (s : State) (core : Nat) (x : Nat) (d : DigestCtx), core < 16 ∧ x < 16 ∧ s.chip.dctx x = some d ∧ d.owner = core) ∧
    (∃ (s : State) (core : Nat) (x : Nat) (d : DigestCtx), core < 16 ∧ x < 16 ∧ s.chip.dctx x = some d ∧ d.owner = core ∧ d.final = true ∧ d.done = false ∧ d.running = true ∧ d.destEn = false) ∧
    (∃ (s : State) (core : Nat) (x : Nat) (d : DigestCtx), core < 16 ∧ x < 16 ∧ s.chip.dctx x = some d ∧ d.owner = core ∧ d.final = true ∧ d.done = false ∧ d.running = true ∧ d.destEn = true ∧ 3 ≤ d.destSlot ∧ d.destSlot ≤ 63 ∧ bitOf d.destUsage 0 = false ∧ usageOk d.destUsage false = true) :=
  ⟨⟨dg drn (base.setFld F.DIGEST_SRC_ADDR 0xFFFFFFFFFF00 1), 2, 1, drn, by decide +kernel⟩,
   ⟨dg dfn base, 2, 1, dfn, by decide +kernel⟩,
   ⟨dg dfd1 base, 2, 1, dfd1, by decide +kernel⟩⟩

theorem witness_ReservationCommands :
    (∃ (s : State) (tag : Nat) (x : Ctx) (n : NsRec) (r : Resv) (h : Nat), s.chip.starts tag x ∧ s.chip.ns x.nsid = some n ∧ s.chip.scanned n = false ∧ r = s.chip.resvOf x.nsid ∧ h = (s.chip.fn x.fn).hostId ∧ ((List.any s.chip.intake.tags fun e => e.snd.kind == CmdKind.reservation && e.snd.st == TagState.media && e.snd.nsid == x.nsid) = false) ∧ s.chip.z.journal.used + 8400 ≤ 16384 ∧ r.regs.length < 256 ∧ bitsOf (x.dw 10) 2 0 = 0 ∧ bitsOf (x.dw 10) 31 30 = 0 ∧ r.keyOf h = none) ∧
    (∃ (s : State) (tag : Nat) (x : Ctx) (n : NsRec) (r : Resv) (h : Nat), s.chip.starts tag x ∧ s.chip.ns x.nsid = some n ∧ s.chip.scanned n = false ∧ r = s.chip.resvOf x.nsid ∧ h = (s.chip.fn x.fn).hostId ∧ ((List.any s.chip.intake.tags fun e => e.snd.kind == CmdKind.reservation && e.snd.st == TagState.media && e.snd.nsid == x.nsid) = false) ∧ s.chip.z.journal.used + 8400 ≤ 16384 ∧ r.regs.length < 256 ∧ bitsOf (x.dw 10) 2 0 = 1 ∧ r.keyOf h = none) ∧
    (∃ (s : State) (tag : Nat) (x : Ctx) (n : NsRec) (r : Resv) (h : Nat) (key : Nat), s.chip.starts tag x ∧ s.chip.ns x.nsid = some n ∧ s.chip.scanned n = false ∧ r = s.chip.resvOf x.nsid ∧ h = (s.chip.fn x.fn).hostId ∧ ((List.any s.chip.intake.tags fun e => e.snd.kind == CmdKind.reservation && e.snd.st == TagState.media && e.snd.nsid == x.nsid) = false) ∧ s.chip.z.journal.used + 8400 ≤ 16384 ∧ r.regs.length < 256 ∧ bitsOf (x.dw 10) 2 0 = 0 ∧ r.keyOf h = some key ∧ 1 ≤ bitsOf (x.dw 10) 15 8 ∧ bitsOf (x.dw 10) 15 8 ≤ 6 ∧ r.rtype = 0) ∧
    (∃ (s : State) (tag : Nat) (x : Ctx) (n : NsRec) (r : Resv) (h : Nat) (key : Nat), s.chip.starts tag x ∧ s.chip.ns x.nsid = some n ∧ s.chip.scanned n = false ∧ r = s.chip.resvOf x.nsid ∧ h = (s.chip.fn x.fn).hostId ∧ ((List.any s.chip.intake.tags fun e => e.snd.kind == CmdKind.reservation && e.snd.st == TagState.media && e.snd.nsid == x.nsid) = false) ∧ s.chip.z.journal.used + 8400 ≤ 16384 ∧ r.regs.length < 256 ∧ bitsOf (x.dw 10) 2 0 = 0 ∧ r.keyOf h = some key ∧ 1 ≤ bitsOf (x.dw 10) 15 8 ∧ bitsOf (x.dw 10) 15 8 ≤ 6 ∧ r.rtype ≠ 0 ∧ r.holds h = false) ∧
    (∃ (s : State) (tag : Nat) (x : Ctx) (n : NsRec) (r : Resv) (h : Nat) (key : Nat), s.chip.starts tag x ∧ s.chip.ns x.nsid = some n ∧ s.chip.scanned n = false ∧ r = s.chip.resvOf x.nsid ∧ h = (s.chip.fn x.fn).hostId ∧ ((List.any s.chip.intake.tags fun e => e.snd.kind == CmdKind.reservation && e.snd.st == TagState.media && e.snd.nsid == x.nsid) = false) ∧ s.chip.z.journal.used + 8400 ≤ 16384 ∧ r.regs.length < 256 ∧ bitsOf (x.dw 10) 2 0 = 0 ∧ r.keyOf h = some key ∧ r.rtype ≠ 0 ∧ r.holds h = true ∧ r.rtype = bitsOf (x.dw 10) 15 8) ∧
    (∃ (s : State) (tag : Nat) (x : Ctx) (n : NsRec) (r : Resv) (h : Nat) (key : Nat), s.chip.starts tag x ∧ s.chip.ns x.nsid = some n ∧ s.chip.scanned n = false ∧ r = s.chip.resvOf x.nsid ∧ h = (s.chip.fn x.fn).hostId ∧ ((List.any s.chip.intake.tags fun e => e.snd.kind == CmdKind.reservation && e.snd.st == TagState.media && e.snd.nsid == x.nsid) = false) ∧ s.chip.z.journal.used + 8400 ≤ 16384 ∧ r.regs.length < 256 ∧ bitsOf (x.dw 10) 2 0 = 1 ∧ r.keyOf h = some key) :=
  ⟨⟨on (tag 3 (rg 0) (resvd R0 (hostId 6 (nsd nsC base)))), 3, rg 0, nsC, R0, 6, by unfold Chip.starts; decide +kernel, by decide +kernel⟩,
   ⟨on (tag 3 (rg 1) (resvd R0 (hostId 6 (nsd nsC base)))), 3, rg 1, nsC, R0, 6, by unfold Chip.starts; decide +kernel, by decide +kernel⟩,
   ⟨on (tag 3 (rg 0x600) (resvd R0 (hostId 5 (nsd nsC base)))), 3, rg 0x600, nsC, R0, 5, 77, by unfold Chip.starts; decide +kernel, by decide +kernel⟩,
   ⟨on (tag 3 (rg 0x100) (resvd R1 (hostId 6 (nsd nsC base)))), 3, rg 0x100, nsC, R1, 6, 78, by unfold Chip.starts; decide +kernel, by decide +kernel⟩,
   ⟨on (tag 3 (rg 0x300) (resvd R1 (hostId 5 (nsd nsC base)))), 3, rg 0x300, nsC, R1, 5, 77, by unfold Chip.starts; decide +kernel, by decide +kernel⟩,
   ⟨on (tag 3 (rg 1) (resvd R1 (hostId 6 (nsd nsC base)))), 3, rg 1, nsC, R1, 6, 78, by unfold Chip.starts; decide +kernel, by decide +kernel⟩⟩

theorem witness_RegistersFollowFieldTypes :
    (∃ (s : State) (core : Nat) (i : Nat) (r : RegId), (∀ (w : RegWrite) (u : State), effectE r w (effectD r w (effectC r w (effectB r w (effectA r w u)))) = u) ∧ ownStore r = false ∧ r ≠ RegId.keysStage ∧ r ≠ RegId.pwrTimer ∧ core < 16 ∧ (regPlace r).hostOnly = false ∧ bankOf core r i < regCount r ∧ s.chip.regAbsent r i = false ∧ s.chip.regAbsent r (bankOf core r i) = false ∧ s.chip.domOn (regDomain r i) = true) ∧
    (∃ (s : State) (core : Nat) (i : Nat) (r : RegId), core < 16 ∧ (regPlace r).hostOnly = false ∧ r ≠ RegId.hpLstat ∧ bankOf core r i < regCount r ∧ s.chip.regAbsent r i = false ∧ s.chip.regAbsent r (bankOf core r i) = false ∧ s.chip.domOn (regDomain r i) = true) :=
  ⟨⟨s1, 3, 0, .evrecAuth, fun _ _ => rfl, by decide +kernel⟩,
   ⟨s1, 15, 0, .seqStat, by decide +kernel⟩⟩

theorem witness_DmaErrors :
    (∃ (s : State) (tag : Nat) (p : Nat) (x : Ctx), s.chip.ctx tag = some x ∧ p = portOf x.fn ∧ p < 4 ∧ (x.committed = true ∨ x.sent = true)) ∧
    (∃ (s : State) (tag : Nat) (p : Nat) (x : Ctx), s.chip.ctx tag = some x ∧ p = portOf x.fn ∧ p < 4 ∧ x.committed = false ∧ x.sent = false ∧ x.placed = false ∧ x.commit = none) :=
  ⟨⟨on (tag 3 {rdx with committed := true} (nsd nsC base)), 3, 3, {rdx with committed := true}, by decide +kernel⟩,
   ⟨on (tag 3 rdx (nsd nsC base)), 3, 3, rdx, by decide +kernel⟩⟩

theorem witness_SequenceLockAndClaims :
    (∃ (s : State), s.chip.flag F.CONF_CTL_SEQ_LOCK = true) ∧
    (∃ (s : State), s.chip.flag F.CONF_CTL_SEQ_LOCK = false ∧ s.chip.intake.tags = [] ∧ s.chip.sys.replayed = none) ∧
    (∃ (s : State) (sl : Nat) (tag : Nat) (x : Ctx) (k : Claim), s.chip.ctx tag = some x ∧ x.slices ≠ [] ∧ x.st = TagState.claim ∧ x.seq = none ∧ s.chip.allClaimed tag = true ∧ s.chip.claimOf sl tag = some k ∧ k.granted = false ∧ x.kind = CmdKind.write ∧ s.chip.blockers sl tag = [] ∧ x.granted.length + 1 < x.slices.length) ∧
    (∃ (s : State) (sl : Nat) (tag : Nat) (x : Ctx) (k : Claim), s.chip.ctx tag = some x ∧ x.slices ≠ [] ∧ x.st = TagState.claim ∧ x.seq = none ∧ s.chip.allClaimed tag = true ∧ s.chip.claimOf sl tag = some k ∧ k.granted = false ∧ x.kind = CmdKind.write ∧ s.chip.blockers sl tag = [] ∧ x.granted.length + 1 = x.slices.length ∧ s.chip.flag F.CONF_CTL_SEQ_LOCK = true ∧ x.host = [] ∧ x.dataIn = false ∧ (s.chip.ns x.nsid).isSome = true) ∧
    (∃ (s : State) (sl : Nat) (tag : Nat) (x : Ctx) (k : Claim), s.chip.ctx tag = some x ∧ x.slices ≠ [] ∧ x.st = TagState.claim ∧ x.seq = none ∧ s.chip.allClaimed tag = true ∧ s.chip.claimOf sl tag = some k ∧ k.granted = false ∧ x.kind = CmdKind.write ∧ s.chip.blockers sl tag ≠ [] ∧ x.granted.length < x.slices.length) :=
  ⟨⟨on (lock base), by decide +kernel⟩,
   ⟨on base, by decide +kernel⟩,
   ⟨on (lock (sl [(0, ⟨[clm false], []⟩), (5, ⟨[clm false], []⟩)] (tag 9 cx (nsd nsC f1)))), 0, 9, cx, clm false, by decide +kernel⟩,
   ⟨on (lock (sl [(0, ⟨[clm true], []⟩), (5, ⟨[clm false], []⟩)] (tag 9 cx2 (nsd nsC f1)))), 5, 9, cx2, clm false, by decide +kernel⟩,
   ⟨on (lock (sl [(0, ⟨[⟨4, .w, [⟨1, 7, 7⟩], true⟩, clm false], []⟩), (5, ⟨[clm false], []⟩)] (tag 9 cx (nsd nsC f1)))), 0, 9, cx, clm false, by decide +kernel⟩⟩

theorem witness_LinksTrainAndAreLost_1 :
    (∃ (s : State) (port : Nat) (speed : Nat) (width : Nat) (l : Nat), port < 4 ∧ l = s.chip.lead port ∧ (s.chip.port l).training = true ∧ speed < 16 ∧ width < 32) ∧
    (∃ (s : State) (port : Nat) (l : Nat), port < 4 ∧ l = s.chip.lead port ∧ l = port ∧ s.chip.mayTrain port = true) ∧
    (∃ (s : State) (port : Nat) (l : Nat), port < 4 ∧ l = s.chip.lead port ∧ l ≠ port) ∧
    (∃ (s : State) (port : Nat), port < 4 ∧ (s.chip.port port).perst = true) ∧
    (∃ (s : State) (port : Nat), (∀ (f : Nat), f ∈ s.chip.linkFns port → s.chip.quiet f) ∧ port < 4 ∧ (s.chip.port port).perst = false) ∧
    (∃ (s : State) (port : Nat), (∀ (f : Nat), f ∈ s.chip.linkFns port → s.chip.quiet f) ∧ port < 4 ∧ s.chip.lead port = port) :=
  ⟨⟨on (base.modPort 3 fun _ => { portReset with perst := false, training := true }), 3, 5, 8, 3, by decide +kernel⟩,
   ⟨on (up 2), 2, 2, by decide +kernel⟩,
   ⟨on mrg, 3, 2, by decide +kernel⟩,
   ⟨s1, 3, by decide +kernel⟩,
   ⟨on (up 0), 0, by unfold Chip.quiet; decide +kernel, by decide +kernel⟩,
   ⟨on (up 3), 3, by unfold Chip.quiet; decide +kernel, by decide +kernel⟩⟩

theorem witness_LinksTrainAndAreLost_2 :
    (∃ (s : State) (port : Nat), (∀ (f : Nat), f ∈ s.chip.linkFns port → s.chip.quiet f) ∧ port < 4 ∧ s.chip.lead port ≠ port) ∧
    (∃ (s : State) (port : Nat), (∀ (f : Nat), f ∈ s.chip.linkFns port → s.chip.quiet f) ∧ port < 4 ∧ (s.chip.port (s.chip.lead port)).up = true) :=
  ⟨⟨on mrg, 3, by unfold Chip.quiet; decide +kernel, by decide +kernel⟩,
   ⟨on (up 3), 3, by unfold Chip.quiet; decide +kernel, by decide +kernel⟩⟩

theorem witness_PowerFailSteps_1 :
    (∃ (s : State), s.chip.z.ledger.step = PfStep.landing ∧ s.chip.landingDone = true) ∧
    (∃ (s : State), (s.chip.z.ledger.step ≠ PfStep.landing ∨ s.chip.landingDone = false)) ∧
    (∃ (s : State), s.chip.z.ledger.step = PfStep.journal ∧ s.chip.journalDone = true) ∧
    (∃ (s : State), (s.chip.z.ledger.step ≠ PfStep.journal ∨ s.chip.journalDone = false)) ∧
    (∃ (s : State), s.chip.z.ledger.step = PfStep.recorder ∧ s.chip.recorderDone = true) ∧
    (∃ (s : State), (s.chip.z.ledger.step ≠ PfStep.recorder ∨ s.chip.recorderDone = false)) :=
  ⟨⟨on (pf .landing jS), by decide +kernel⟩,
   ⟨on (pf .recorder base), by decide +kernel⟩,
   ⟨on (pf .journal base), by decide +kernel⟩,
   ⟨on (pf .journal jS), by decide +kernel⟩,
   ⟨on { (pf .recorder base) with now := 90000 }, by decide +kernel⟩,
   ⟨on (pf .journal base), by decide +kernel⟩⟩

theorem witness_PowerFailSteps_2 :
    (∃ (s : State), s.chip.z.ledger.step = PfStep.off) ∧
    (∃ (s : State), s.chip.z.ledger.step ≠ PfStep.off) ∧
    (∃ (s : State), s.chip.supply.held = true ∧ s.chip.supply.porLow = false ∧ s.chip.supply.mainPg = true ∧ s.chip.warned = false ∧ s.chip.supply.code ≠ 3 ∧ s.chip.supply.code < 16) ∧
    (∃ (s : State), (s.chip.supply.held = false ∨ s.chip.warned = true)) :=
  ⟨⟨on (pf .off base), by decide +kernel⟩,
   ⟨on (pf .pfEnd base), by decide +kernel⟩,
   ⟨on (base.modSup fun u => { u with held := true, code := 2, holdFrom := 5 }), by decide +kernel⟩,
   ⟨on base, by decide +kernel⟩⟩

theorem witness_ReservoirAndTest_1 :
    (∃ (s : State) (v : Nat), s.chip.z.ledger.opQ = [] ∧ s.chip.z.ledger.commitQ = [] ∧ v < 65536 ∧ s.chip.supply.lowered = none ∧ s.chip.supply.test = none) ∧
    (∃ (s : State) (c : Instr) (drop : Option Nat) (d : Nat), s.chip.z.ledger.opQ = [] ∧ s.chip.z.ledger.commitQ = [] ∧ (c = Instr.testNow ∨ c = Instr.reservoirTestStart ∧ s.chip.supply.owed.isSome = true ∧ s.chip.flag F.RESV_RSTAT_CHARGED = true) ∧ s.chip.supply.test = none ∧ s.chip.supply.held = false ∧ s.chip.warned = false ∧ s.chip.z.ledger.pfCommit = false ∧ (drop = if s.chip.flag F.RESV_TRES_VALID = true then Chip.fitDrop 140 s.chip.testDrop s.chip else some s.chip.testDrop) ∧ drop = some d) ∧
    (∃ (s : State) (c : Instr) (drop : Option Nat), s.chip.z.ledger.opQ = [] ∧ s.chip.z.ledger.commitQ = [] ∧ (c = Instr.testNow ∨ c = Instr.reservoirTestStart ∧ s.chip.supply.owed.isSome = true ∧ s.chip.flag F.RESV_RSTAT_CHARGED = true) ∧ s.chip.supply.test = none ∧ s.chip.supply.held = false ∧ s.chip.warned = false ∧ s.chip.z.ledger.pfCommit = false ∧ (drop = if s.chip.flag F.RESV_TRES_VALID = true then Chip.fitDrop 140 s.chip.testDrop s.chip else some s.chip.testDrop) ∧ drop = none) ∧
    (∃ (s : State), s.chip.z.ledger.opQ = [] ∧ s.chip.z.ledger.commitQ = [] ∧ s.chip.supply.owed.isSome = true ∧ s.chip.flag F.RESV_RSTAT_CHARGED = false) ∧
    (∃ (s : State), s.chip.z.ledger.opQ = [] ∧ s.chip.z.ledger.commitQ = [] ∧ (s.chip.supply.test.isSome = true ∨ s.chip.warned = true ∨ s.chip.supply.held = true)) ∧
    (∃ (s : State) (x : ResTest), s.chip.z.ledger.opQ = [] ∧ s.chip.z.ledger.commitQ = [] ∧ s.chip.supply.test = some x ∧ x.step = 2) :=
  ⟨⟨s1, 0, by decide +kernel⟩,
   ⟨s1, .testNow, some base.testDrop, base.testDrop, by decide +kernel⟩,
   ⟨on tv, .testNow, Chip.fitDrop 140 tv.testDrop tv, by decide +kernel⟩,
   ⟨on (base.modSup fun u => { u with owed := some 4 }), by decide +kernel⟩,
   ⟨on (testing 2), by decide +kernel⟩,
   ⟨on (testing 2), ⟨2, 500, 70, 4000, 3900, 12⟩, by decide +kernel⟩⟩

theorem witness_ReservoirAndTest_2 :
    (∃ (s : State) (x : ResTest), s.chip.z.ledger.opQ = [] ∧ s.chip.z.ledger.commitQ = [] ∧ s.chip.supply.test = some x ∧ x.step = 3) ∧
    (∃ (s : State) (x : ResTest) (charge : Nat) (v : Nat) (cap : Nat), s.chip.z.ledger.opQ = [] ∧ s.chip.z.ledger.commitQ = [] ∧ s.chip.supply.test = some x ∧ x.step = 4 ∧ x.esr < 65536 ∧ (cap = if x.v1 ≤ v then (Config.freeValue s.chip.fresh).toNat % 2 ^ 32 else min (2 ^ 32 - 1) (charge * 1000 / (x.v1 - v)))) ∧
    (∃ (s : State) (t0 : Nat), s.chip.z.ledger.opQ = [] ∧ s.chip.z.ledger.commitQ = [] ∧ s.chip.supply.chgFrom = some t0) ∧
    (∃ (s : State), s.chip.z.ledger.opQ = [] ∧ s.chip.z.ledger.commitQ = [] ∧ s.chip.supply.chgFrom = none) ∧
    (∃ (s : State), s.chip.z.ledger.opQ = [] ∧ s.chip.z.ledger.commitQ = [] ∧ s.chip.flag F.RESV_RSTAT_SWITCHED_IN = false ∧ s.chip.supply.test = none) ∧
    (∃ (s : State), s.chip.z.ledger.opQ = [] ∧ s.chip.z.ledger.commitQ = [] ∧ (s.chip.flag F.RESV_RSTAT_SWITCHED_IN = true ∨ s.chip.supply.test.isSome = true)) :=
  ⟨⟨on (testing 3), ⟨3, 500, 70, 4000, 3900, 12⟩, by decide +kernel⟩,
   ⟨on (testing 4), ⟨4, 500, 70, 4000, 3900, 12⟩, 100000, 3400, min (2 ^ 32 - 1) (100000 * 1000 / (3900 - 3400)), by decide +kernel⟩,
   ⟨on (base.modSup fun u => { u with chgFrom := some 60 }), 60, by decide +kernel⟩,
   ⟨s1, by decide +kernel⟩,
   ⟨s1, by decide +kernel⟩,
   ⟨on (testing 4), by decide +kernel⟩⟩

theorem witness_ReservoirAndTest_3 :
    (∃ (s : State), s.chip.z.ledger.opQ = [] ∧ s.chip.z.ledger.commitQ = [] ∧ s.chip.supply.owed = none ∧ s.chip.supply.test = none ∧ s.chip.supply.overdue = false ∧ s.chip.supply.held = false) ∧
    (∃ (s : State), s.chip.z.ledger.opQ = [] ∧ s.chip.z.ledger.commitQ = [] ∧ s.chip.supply.overdue = true) :=
  ⟨⟨s1, by decide +kernel⟩,
   ⟨on (base.modSup fun u => {u with overdue := true}), by decide +kernel⟩⟩

theorem witness_PoolsAndVictims_1 :
    (∃ (s : State) (g : Nat) (p : Nat) (rest : List Nat) (tag : Nat) (t0 : Nat) (x : Ctx), g < 2 ^ 20 ∧ s.chip.z.reserve = p :: rest ∧ s.chip.fld F.ZMAP_POOLRES_LOW ≤ rest.length ∧ (List.filter (fun b => b.snd.fst == g) s.chip.z.bindQ = [(tag, g, true, t0)]) ∧ s.chip.ctx tag = some x ∧ x.waiting = [g] ∧ x.sent = false ∧ (s.chip.ns x.nsid).isSome = true ∧ (s.chip.zone g).st = ZState.zse) ∧
    (∃ (s : State), s.chip.z.reserve = [] ∧ s.chip.noPool = false) ∧
    (∃ (s : State) (tag : Nat) (g : Nat) (w : Bool) (t0 : Nat) (x : Ctx), (List.find? (fun x => x.fst == tag) s.chip.z.bindQ = some (tag, g, w, t0)) ∧ s.chip.ctx tag = some x ∧ x.committed = false ∧ x.sent = false ∧ x.placed = false ∧ x.commit = none) ∧
    (∃ (s : State) (h : Nat) (op : OpenPool) (t0 : Nat), h < 64 ∧ pget s.chip.z.handles h = some op ∧ op.rowId = none ∧ op.firstAt = some t0) ∧
    (∃ (s : State) (g : Nat), (s.chip.zone g).st.isActive = true ∧ s.chip.writesIn g = false ∧ (s.chip.zone g).wpOff % 1024 = 0) ∧
    (∃ (s : State), (∀ (p : Nat), s.chip.isCandidate p = true → s.chip.validOf p ≠ 0) ∧ (∃ p, s.chip.isCandidate p = true) ∧ s.chip.m.marks = [] ∧ s.chip.flag F.RECLAIM_CTL_AUTO = true ∧ s.chip.z.reserve.length < s.chip.fld F.ZMAP_POOLRES_TARGET ∧ s.chip.m.victims = []) :=
  ⟨⟨bindS, 1, 7, [8], 9, 500, bx, by decide +kernel⟩,
   ⟨on (spare36 (base.setFld F.RESV_DIFF_DV_CLAMP 0)), by decide +kernel⟩,
   ⟨bindS, 9, 1, true, 500, bx, by decide +kernel⟩,
   ⟨on ((pools [(7, pool7)] base).modZ fun z => { z with handles := [(63, hOpen)] }), 63, hOpen, 1000, by decide +kernel⟩,
   ⟨on (zone 1 (zo .zsio 2048) (nsd nsZ base)), 1, by decide +kernel⟩,
   ⟨on candA, candidates_valid _ rfl (by decide +kernel), ⟨7, by decide +kernel⟩, by decide +kernel⟩⟩

theorem witness_PoolsAndVictims_2 :
    (∃ (s : State), (∀ (p : Nat), s.chip.isCandidate p = true → s.chip.validOf p ≠ 0) ∧ s.chip.m.marks = [] ∧ s.chip.flag F.RECLAIM_CTL_AUTO = false) ∧
    (∃ (s : State) (p : Nat), (∀ (p : Nat), s.chip.isCandidate p = true → s.chip.validOf p ≠ 0) ∧ s.chip.m.marks = [] ∧ p < 2 ^ 20 ∧ s.chip.isCandidate p = true ∧ List.length s.chip.m.victims < s.chip.reclaimPar) ∧
    (∃ (s : State) (p : Nat), (∀ (p : Nat), s.chip.isCandidate p = true → s.chip.validOf p ≠ 0) ∧ s.chip.m.marks = [] ∧ p < 2 ^ 20 ∧ s.chip.isCandidate p = false ∧ pget s.chip.m.victims p = none) :=
  ⟨⟨on (cand.setFld F.RECLAIM_CTL_AUTO 0), candidates_valid _ rfl (by decide +kernel), by decide +kernel⟩,
   ⟨on cand, 7, candidates_valid _ rfl (by decide +kernel), by decide +kernel⟩,
   ⟨on cand, 8, candidates_valid _ rfl (by decide +kernel), by decide +kernel⟩⟩

theorem witness_EnergyIsAdmitted_1 :
    (∃ (s : State) (tag : Nat) (x : Ctx) (n : NsRec) (us : List (List Byte)), s.chip.ctx tag = some x ∧ x.kind = CmdKind.write ∧ x.sent = false ∧ x.dataIn = false ∧ x.committed = false ∧ x.admitted = false ∧ x.mergeWait = [] ∧ s.chip.ns x.nsid = some n ∧ n.fmt = 0 ∧ us ≠ [] ∧ x.seq = none) ∧
    (∃ (s : State) (tag : Nat) (x : Ctx) (n : NsRec) (us : List (List Byte)), s.chip.ctx tag = some x ∧ x.kind = CmdKind.write ∧ x.sent = false ∧ x.dataIn = false ∧ x.committed = false ∧ x.admitted = false ∧ x.mergeWait = [] ∧ s.chip.ns x.nsid = some n ∧ n.fmt = 0 ∧ us ≠ [] ∧ x.seq.isSome = true ∧ s.chip.retryBytes + x.dlen ≤ s.chip.retrySize) ∧
    (∃ (s : State) (tag : Nat) (t0 : Nat) (x : Ctx), s.chip.ctx tag = some x ∧ x.admitAt = some t0 ∧ x.committed = false ∧ x.admitted = false ∧ x.sent = false ∧ x.placed = false ∧ x.commit = none) ∧
    (∃ (s : State) (i : Nat) (o : Op), s.chip.z.ledger.opQ = [] ∧ s.chip.z.ledger.commitQ = [] ∧ s.chip.op i = some o ∧ o.stage = OpStage.created ∧ o.rt.charged = true ∧ (s.chip.opFits { id := i, tag := 0, uj := s.chip.charge o, bytes := 0 } = true)) ∧
    (∃ (s : State) (i : Nat) (o : Op), s.chip.z.ledger.opQ = [] ∧ s.chip.z.ledger.commitQ = [] ∧ s.chip.op i = some o ∧ o.stage = OpStage.created ∧ o.rt.charged = true ∧ (s.chip.opFits { id := i, tag := 0, uj := s.chip.charge o, bytes := 0 } = false)) ∧
    (∃ (s : State) (tag : Nat) (x : Ctx) (n : NsRec) (r : LedgerReq), s.chip.z.ledger.opQ = [] ∧ s.chip.z.ledger.commitQ = [] ∧ s.chip.ctx tag = some x ∧ s.chip.ns x.nsid = some n ∧ x.kind.commits = true ∧ x.commit = none ∧ x.committed = false ∧ x.sent = false ∧ x.seq = none ∧ (r = { id := s.chip.z.nextCommit, tag := tag, uj := s.chip.reserveUj (x.energyLen n), bytes := x.energyLen n }) ∧ s.chip.commitFits r = true) :=
  ⟨⟨on (tag 9 wr0 (nsd nsC f1)), 9, wr0, nsC, [[1#8],[]], by decide +kernel⟩,
   ⟨on (tag 9 wr1 (nsd nsC f1)), 9, wr1, nsC, [[1#8],[0#8]], by decide +kernel⟩,
   ⟨on (tag 9 {wr1 with admitAt := some 4} (nsd nsC f1)), 9, 4, {wr1 with admitAt := some 4}, by decide +kernel⟩,
   ⟨on (ops [(4, op1)] (rich base)), 4, op1, by decide +kernel⟩,
   ⟨on (ops [(4, op1)] base), 4, op1, by decide +kernel⟩,
   ⟨on (tag 9 wc (nsd nsC (land (rich base)))), 9, wc, nsC, ⟨0, 9, base.reserveUj 8192, 8192⟩, by decide +kernel⟩⟩

theorem witness_EnergyIsAdmitted_2 :
    (∃ (s : State) (tag : Nat) (x : Ctx) (n : NsRec) (r : LedgerReq), s.chip.z.ledger.opQ = [] ∧ s.chip.z.ledger.commitQ = [] ∧ s.chip.ctx tag = some x ∧ s.chip.ns x.nsid = some n ∧ x.kind.commits = true ∧ x.commit = none ∧ x.committed = false ∧ x.sent = false ∧ x.seq = none ∧ (r = { id := s.chip.z.nextCommit, tag := tag, uj := s.chip.reserveUj (x.energyLen n), bytes := x.energyLen n }) ∧ s.chip.commitFits r = false) :=
  ⟨on (tag 9 wc (nsd nsC base)), 9, wc, nsC, ⟨0, 9, base.reserveUj 8192, 8192⟩, by decide +kernel⟩

theorem witness_TenantIdentifiersAreGuarded :
    (∃ (s : State) (f : Nat) (free : Bool), f < 1024 ∧ free = (!(s.chip.fn f).en && (s.chip.fn f).nsids.isEmpty)) ∧
    (∃ (s : State) (nsid : Nat), 1 ≤ nsid ∧ nsid ≤ 8192 ∧ s.chip.attached nsid = []) ∧
    (∃ (s : State) (nsid : Nat), 1 ≤ nsid ∧ nsid ≤ 8192 ∧ s.chip.attached nsid ≠ []) :=
  ⟨⟨s1, 256, true, by decide +kernel⟩,
   ⟨s1, 8192, by decide +kernel⟩,
   ⟨on ((base.modFn 0 fun r => {r with nsids := [8192]})), 8192, by decide +kernel⟩⟩

theorem witness_EventsAreRecorded_1 :
    (∃ (s : State), (∀ (q : Nat × List Event), q ∈ s.chip.ev.queues → q.snd = [])) ∧
    (∃ (s : State) (src : Nat) (e : Event) (rest : List Event) (cs : PMap Counter), (List.find? (fun q => !q.snd.isEmpty) s.chip.ev.queues = some (src, e :: rest)) ∧ (cs = pset s.chip.ev.counters (counterIndex e.id) (countOne ((pget s.chip.ev.counters (counterIndex e.id)).getD counterZero) (if eventHasValue e.id = true then e.items.getLast? else none) s.chip.stamp)) ∧ histogramOnly e.id = true) ∧
    (∃ (s : State) (src : Nat) (e : Event) (rest : List Event) (cs : PMap Counter), (List.find? (fun q => !q.snd.isEmpty) s.chip.ev.queues = some (src, e :: rest)) ∧ (cs = pset s.chip.ev.counters (counterIndex e.id) (countOne ((pget s.chip.ev.counters (counterIndex e.id)).getD counterZero) (if eventHasValue e.id = true then e.items.getLast? else none) s.chip.stamp)) ∧ histogramOnly e.id = false ∧ s.chip.ev.dropRun = 0 ∧ s.chip.ev.logFull = false ∧ s.chip.stagedBytes + (s.chip.makeRec e).len ≤ 4064 ∧ bitOf (s.chip.fld F.EVREC_CTL_FLUSH_CLS) (e.id / 4096) = false ∧ bitOf (s.chip.fld F.EVREC_CTL_BB_CLS) (e.id / 4096) = false) ∧
    (∃ (s : State), s.chip.ev.staging = []) ∧
    (∃ (s : State), (s.chip.ev.lastPage = none ∨ s.chip.ev.waitPage = false)) ∧
    (∃ (s : State) (t0 : Nat), PageReady s.chip ∧ s.chip.ev.lastPage = some t0 ∧ s.chip.ev.waitPage = true) :=
  ⟨⟨s1, by decide +kernel⟩,
   ⟨on q2, srcSched, hE, [], pset [] (counterIndex hE.id) (countOne counterZero (if eventHasValue hE.id then some 5 else none) base.stamp), by decide +kernel⟩,
   ⟨on q3, srcIntake, E2, [E1], pset [] (counterIndex 0x1012) (countOne counterZero (if eventHasValue 0x1012 then some 5 else none) base.stamp), by decide +kernel⟩,
   ⟨s1, by decide +kernel⟩,
   ⟨s1, by decide +kernel⟩,
   ⟨on st1, 50, ⟨by decide +kernel, by decide +kernel, by decide +kernel, by decide +kernel, by decide +kernel, by decide +kernel⟩, by decide +kernel⟩⟩

theorem witness_EventsAreRecorded_2 :
    (∃ (s : State), (s.chip.ev.restored = false ∨ s.chip.ev.clear ≠ none)) ∧
    (∃ (s : State), s.chip.ev.restored = true ∧ s.chip.ev.clear = none) ∧
    (∃ (s : State) (core : Nat) (id : Nat), core < 16 ∧ 3840 ≤ id % 4096 ∧ id < 65536 ∧ ((pget s.chip.ev.queues (srcCore core)).getD []).length < 16) ∧
    (∃ (core : Nat) (id : Nat), core < 16 ∧ (id % 4096 < 3840 ∨ 65536 ≤ id)) :=
  ⟨⟨s1, by decide +kernel⟩,
   ⟨on st1, by decide +kernel⟩,
   ⟨s1, 15, 0xFFFF, by decide +kernel⟩,
   ⟨15, 0xFEFF, by decide +kernel⟩⟩

theorem witness_AssignmentsAndAttachments :
    (∃ (s : State) (pf : Nat) (index : Nat) (f : Nat) (code : Nat), pf < 4 ∧ f = pf * 256 + index % 256 ∧ code = s.chip.asgCode pf f (s.chip.entry f)) ∧
    (∃ (s : State) (tag : Nat) (x : Ctx) (list : List Nat) (on : Bool) (st : Status), s.chip.starts tag x ∧ on = decide (bitsOf (x.dw 10) 3 0 = 0) ∧ s.chip.attachCheck x.nsid on list = some st) ∧
    (∃ (s : State) (tag : Nat) (x : Ctx) (list : List Nat) (on : Bool), s.chip.starts tag x ∧ on = decide (bitsOf (x.dw 10) 3 0 = 0) ∧ s.chip.attachCheck x.nsid on list = none ∧ (∀ (f : Nat), f ∈ list → (s.chip.fn f).aers = [])) :=
  ⟨⟨s1, 1, 5, 261, 0, by decide +kernel⟩,
   ⟨on (tag 3 (att 0) (nsd nsC base)), 3, att 0, [], true, .controllerListInvalid, by unfold Chip.starts; decide +kernel, by decide +kernel⟩,
   ⟨on (tag 3 (att 0) (nsd nsC base)), 3, att 0, [256], true, by unfold Chip.starts; decide +kernel, by decide +kernel⟩⟩

theorem witness_StepKeepsMemoryForm :
    (∃ (s : State) (t : State), s.Inv ∧ step s = Host.Outcome.next t) :=
  ⟨qs, qt, by unfold State.Inv; decide +kernel, rfl⟩

theorem witness_FunctionResets :
    (∃ (s : State) (fn : Nat), s.chip.quiet fn ∧ s.chip.fnExists fn = true ∧ (s.chip.fn fn).en = true) ∧
    (∃ (s : State) (fn : Nat), s.chip.quiet fn ∧ s.chip.fnExists fn = true ∧ isPf fn = false) ∧
    (∃ (s : State) (fn : Nat), s.chip.quiet fn ∧ (∀ (g : Nat), g ∈ s.chip.portFns (portOf fn) → s.chip.quiet g) ∧ s.chip.fnExists fn = true ∧ isPf fn = true) ∧
    (∃ (s : State) (fn : Nat), s.chip.quiet fn ∧ s.chip.fnExists fn = true ∧ (s.chip.fn fn).resetAt.isSome = true ∧ (s.chip.fn fn).fence = none) ∧
    (∃ (s : State) (fn : Nat) (t0 : Nat), fn < 1024 ∧ (s.chip.fn fn).resetAt = some t0 ∧ (s.chip.fn fn).fence = none ∧ s.chip.inUse fn ≠ 0 ∧ (∀ (e : Nat × Ctx), e ∈ s.chip.intake.tags → e.snd.fn = fn → e.snd.committed = true)) :=
  ⟨⟨on f1, 0, by unfold Chip.quiet; decide +kernel, by decide +kernel⟩,
   ⟨on ((base.modFn 0 fun r => {r with vfe := true}).modFn 255 fun r => {r with d3hot := true}), 255, by unfold Chip.quiet; decide +kernel, by decide +kernel⟩,
   ⟨on ((base.modFn 0 fun r => {r with vfe := true}).modFn 255 fun r => {r with d3hot := true}), 0, by unfold Chip.quiet; decide +kernel, by unfold Chip.quiet; decide +kernel, by decide +kernel⟩,
   ⟨on (f1.modFn 0 fun r => {r with resetAt := some 3, cc := 0}), 0, by unfold Chip.quiet; decide +kernel, by decide +kernel⟩,
   ⟨on dr, 0, 3, by decide +kernel⟩⟩

theorem witness_BasinJournalAndPasses_1 :
    (∃ (s : State) (pid : Nat) (i : Nat) (p : Part) (r : RowRec) (ri : Nat) (q : PairRec), s.chip.part pid = some p ∧ p.row = some ri ∧ s.chip.row ri = some r ∧ r.openJsn = none ∧ p.onMedium = false ∧ p.pair = none ∧ p.zone = none ∧ s.chip.z.landStop = false ∧ s.chip.fld F.ZMAP_BASIN_FREE_LOW_PCT ≤ s.chip.basinFreePct ∧ pget s.chip.z.hPairs p.handle = some i ∧ s.chip.pair i = some q ∧ q.closed = false ∧ q.next + p.len ≤ 6144 ∧ q.next + p.len < q.gathered + 16 ∧ s.chip.z.journal.used + 64 ≤ 16384) ∧
    (∃ (s : State) (i : Nat) (q : PairRec) (t0 : Nat), s.chip.pair i = some q ∧ q.gatherAt = some t0 ∧ q.zone = none ∧ (q.next + 15) / 16 * 16 = q.gathered + 16) ∧
    (∃ (s : State) (i : Nat) (q : PairRec), s.chip.nextFold = some i ∧ s.chip.pair i = some q ∧ q.zone = none ∧ q.landing = false ∧ pget s.chip.m.folds i = none ∧ s.chip.pairEntries i ≠ [] ∧ (∀ (e : Nat × List Nat), e ∈ s.chip.m.folds → e.snd ≠ [])) ∧
    (∃ (s : State), s.chip.nextFold = none ∧ (∀ (e : Nat × List Nat), e ∈ s.chip.m.folds → e.snd ≠ [])) ∧
    (∃ (s : State), s.chip.z.journal.opened ≠ []) ∧
    (∃ (s : State), s.chip.z.journal.opened = []) :=
  ⟨⟨on basin, 2, 3, part5, row5, 5, pair3, by decide +kernel⟩,
   ⟨on (basin.modZ fun z => {z with pairs := [(3, pair3b)]}), 3, pair3b, 90, by decide +kernel⟩,
   ⟨on foldS, 3, pair3f, by decide +kernel⟩,
   ⟨on base, by decide +kernel⟩,
   ⟨on jS, by decide +kernel⟩,
   ⟨on base, by decide +kernel⟩⟩

theorem witness_BasinJournalAndPasses_2 :
    (∃ (s : State), s.chip.z.passSegs = [] ∧ (∀ (e : Nat × Segment), e ∈ s.chip.z.segs → e.snd.changed = false) ∧ s.chip.z.pass + 1 < 2 ^ 32) ∧
    (∃ (s : State), s.chip.z.passSegs = [] ∧ ((List.any s.chip.z.segs fun e => e.snd.changed) = true)) :=
  ⟨⟨on base, by decide +kernel⟩,
   ⟨on (base.modZ fun z => {z with segs := [(0, {segReset with changed := true}), (4, segReset)]}), by decide +kernel⟩⟩

theorem witness_TranslationsStreamsAndAnaStates_1 :
    (∃ (s : State) (port : Nat) (stream : Nat) (l : Nat), port < 4 ∧ l = s.chip.lead port ∧ (stream < if s.chip.merged l = true then 16 else 8)) ∧
    (∃ (s : State) (port : Nat) (stream : Nat) (l : Nat), port < 4 ∧ l = s.chip.lead port ∧ ((if s.chip.merged l = true then 16 else 8) ≤ stream)) ∧
    (∃ (s : State) (port : Nat) (l : Nat) (fn : Nat) (on : Option Nat), port < 4 ∧ l = s.chip.lead port ∧ (∃ k, (s.chip.fn fn).stream = some k ∧ on ≠ some k)) ∧
    (∃ (s : State) (port : Nat) (l : Nat) (fn : Nat) (on : Option Nat), port < 4 ∧ l = s.chip.lead port ∧ ((s.chip.fn fn).stream = none ∨ (s.chip.fn fn).stream = on)) ∧
    (∃ (s : State) (port : Nat) (stream : Nat) (l : Nat), (∀ (f : Nat), f ∈ s.chip.linkFns l → s.chip.quiet f) ∧ port < 4 ∧ l = s.chip.lead port ∧ stream ∈ (s.chip.port l).secure) ∧
    (∃ (s : State) (port : Nat) (stream : Nat) (l : Nat), port < 4 ∧ l = s.chip.lead port ∧ (¬stream ∈ (s.chip.port l).secure)) :=
  ⟨⟨on ide, 1, 7, 1, by decide +kernel⟩,
   ⟨on ide, 1, 8, 1, by decide +kernel⟩,
   ⟨on ide, 1, 1, 256, none, by decide +kernel⟩,
   ⟨on ide, 1, 1, 256, some 7, by decide +kernel⟩,
   ⟨on ide, 1, 7, 1, by unfold Chip.quiet; decide +kernel, by decide +kernel⟩,
   ⟨on ide, 1, 6, 1, by decide +kernel⟩⟩

theorem witness_TranslationsStreamsAndAnaStates_2 :
    (∃ (s : State) (port : Nat) (k : Nat), port < 4 ∧ k < 64 ∧ (pget s.chip.ev.queues (srcHp port)).getD [] = [] ∧ (∀ (f : Nat), f ∈ s.chip.portFns port → (s.chip.fn f).rdy = true → (s.chip.fn f).aers = [])) :=
  ⟨on (queues base), 0, 63, by decide +kernel⟩

theorem witness_PowerDomains_1 :
    (∃ (s : State) (d : Nat) (arm : Nat) (owner : Nat) (w : Nat), d ≤ 32 ∧ s.chip.domPair d = [d] ∧ arm < 4 ∧ owner < 16 ∧ w < 256) ∧
    (∃ (s : State) (core : Nat) (ds : List Nat), core < 16 ∧ (ds = List.filter (fun d => s.chip.fld F.PWR_DOM_ARM d != 0 && s.chip.fld F.PWR_DOM_OWNER d == core && s.chip.domOn d) (List.range 33)) ∧ (∀ (d : Nat), d ∈ ds → s.chip.refuseCode core d = 0)) ∧
    (∃ (s : State) (core : Nat) (ds : List Nat), core < 16 ∧ (ds = List.filter (fun d => s.chip.fld F.PWR_DOM_ARM d != 0 && s.chip.fld F.PWR_DOM_OWNER d == core && s.chip.domOn d) (List.range 33)) ∧ (∃ d, d ∈ ds ∧ s.chip.refuseCode core d ≠ 0)) ∧
    (∃ (core : Nat), 16 ≤ core) ∧
    (∃ (s : State) (d : Nat) (t0 : Nat) (target : Nat), d < 33 ∧ (d < 11 ∨ 18 < d) ∧ target < 4 ∧ pget s.chip.pwr.entry d = some (t0, target) ∧ s.chip.waking d = 0) ∧
    (∃ (s : State) (d : Nat), pget s.chip.pwr.entry d = none) :=
  ⟨⟨s1, 19, 3, 15, 255, by decide +kernel⟩,
   ⟨s1, 4, [], by decide +kernel⟩,
   ⟨on (arm 19 1 4 (arm 24 2 4 base)), 4, [19, 24], by decide +kernel⟩,
   ⟨16, by decide +kernel⟩,
   ⟨on (ent 23 2 base), 23, 60, 2, by decide +kernel⟩,
   ⟨s1, 23, by decide +kernel⟩⟩

theorem witness_PowerDomains_2 :
    (∃ (s : State) (src : Nat) (t0 : Nat), 5 ≤ src ∧ src ≤ 7 ∧ s.chip.pwr.commitAt = some t0 ∧ s.chip.now < t0 + 120) ∧
    (∃ (s : State) (src : Nat), 5 ≤ src ∧ src ≤ 7 ∧ s.chip.pwr.commitAt = none) ∧
    (∃ (src : Nat), (src < 5 ∨ 7 < src)) ∧
    (∃ (d : Nat) (src : Nat), (d ≤ 32 ∧ (src = 1 ∨ src = 3) ∨ src = 2 ∧ 19 ≤ d ∧ d ≤ 22)) ∧
    (∃ (s : State) (d : Nat), d ≤ 32 ∧ s.chip.domFused d = false ∧ s.chip.domPair d = [d] ∧ pget s.chip.pwr.entry d = none ∧ (s.chip.domState d = 1 ∨ s.chip.domState d = 2)) ∧
    (∃ (s : State) (d : Nat), d ≤ 32 ∧ s.chip.domFused d = false ∧ s.chip.domPair d = [d] ∧ pget s.chip.pwr.entry d = none ∧ (s.chip.domState d = 0 ∨ s.chip.domState d = 3)) :=
  ⟨⟨on {base with pwr := {base.pwr with commitAt := some 50}, now := 169}, 5, 50, by decide +kernel⟩,
   ⟨on (((base.setFld F.PWR_DOM_STATE 1 23).setFld F.PWR_DOM_WAKEEN 0x40 23).setFld F.PWR_DOM_STATE 1 24), 6, by decide +kernel⟩,
   ⟨4, by decide +kernel⟩,
   ⟨20, 2, by decide +kernel⟩,
   ⟨on (base.setFld F.PWR_DOM_STATE 1 23), 23, by decide +kernel⟩,
   ⟨on base, 23, by decide +kernel⟩⟩

theorem witness_PowerDomains_3 :
    (∃ (s : State), s.chip.flag F.PWR_TIMER_EN = true) ∧
    (∃ (s : State), s.chip.flag F.PWR_TIMER_EN = false) ∧
    (∃ (s : State) (d : Nat), pget s.chip.pwr.exits d = none) ∧
    (∃ (s : State) (d : Nat) (since : Nat) (was : Nat), pget s.chip.pwr.exits d = some (since, was) ∧ s.chip.wr = [] ∧ 5 ≤ d ∧ d ≤ 10) ∧
    (∃ (s : State) (d : Nat) (since : Nat) (was : Nat), pget s.chip.pwr.exits d = some (since, was) ∧ s.chip.wr = [] ∧ 23 ≤ d ∧ d ≤ 30 ∧ was = 1) ∧
    (∃ (s : State) (d : Nat) (since : Nat) (was : Nat), pget s.chip.pwr.exits d = some (since, was) ∧ s.chip.wr = [] ∧ 23 ≤ d ∧ d ≤ 30 ∧ was = 1) :=
  ⟨⟨on ((base.setFld F.PWR_TIMER_EN 1).setFld F.PWR_TIMER_COUNT 50), by decide +kernel⟩,
   ⟨s1, by decide +kernel⟩,
   ⟨s1, 23, by decide +kernel⟩,
   ⟨on (exi 5 2), 5, 60, 2, by decide +kernel⟩,
   ⟨on (exi 30 1), 30, 60, 1, by decide +kernel⟩,
   ⟨{on (exi 30 1) with mem := [(0x1000DFFFFFF, 3#8), (0x1000E000000, 4#8), (0x1000FFFFFFF, 5#8)]}, 30, 60, 1, by decide +kernel⟩⟩

theorem witness_PowerDomains_4 :
    (∃ (s : State) (d : Nat) (since : Nat) (was : Nat), pget s.chip.pwr.exits d = some (since, was) ∧ s.chip.wr = [] ∧ 23 ≤ d ∧ d ≤ 30 ∧ was = 2) :=
  ⟨{on (exi 23 2) with mem := [(0x10000000000, 3#8), (0x10001FFFFFF, 4#8), (0x10002000000, 5#8)]}, 23, 60, 2, by decide +kernel⟩

theorem witness_NamespaceManagement :
    (∃ (s : State) (tag : Nat) (x : Ctx) (size : Nat) (fmt : Nat) (ext : Bool) (group : Nat) (handles : List Nat) (st : Status), s.chip.starts tag x ∧ s.chip.createNs (decide (bitsOf (x.dw 11) 31 24 = 2)) size fmt ext group handles = Except.error st) ∧
    (∃ (s : State) (tag : Nat) (x : Ctx) (size : Nat) (fmt : Nat) (ext : Bool) (group : Nat) (handles : List Nat) (c : Chip) (i : Nat), s.chip.starts tag x ∧ s.chip.createNs (decide (bitsOf (x.dw 11) 31 24 = 2)) size fmt ext group handles = Except.ok (c, i)) ∧
    (∃ (s : State) (tag : Nat) (x : Ctx) (n : NsRec), s.chip.starts tag x ∧ s.chip.ns x.nsid = some n ∧ n.zoned = false ∧ keysRise s.chip.fns = true ∧ 1 ≤ x.nsid ∧ x.nsid < 65536 ∧ (∀ (e : Nat × FnRec), e ∈ s.chip.fns → e.snd.mstate = MState.active ∧ e.snd.aers = [])) ∧
    (∃ (s : State) (tag : Nat) (x : Ctx), s.chip.starts tag x ∧ s.chip.ns x.nsid = none) ∧
    (∃ (s : State) (tag : Nat) (x : Ctx) (n : NsRec), s.chip.starts tag x ∧ s.chip.ns x.nsid = some n ∧ n.zoned = false ∧ bitsOf (x.dw 10) 3 0 ≤ 5) :=
  ⟨⟨on (tag 9 (adm0 0 0) f1), 9, adm0 0 0, 0, 0, false, 1, [], .invalidNamespaceOrFormat, by unfold Chip.starts; decide +kernel, rfl⟩,
   ⟨on (tag 9 (adm0 0 0) (nsd nsC f1)), 9, adm0 0 0, 4096, 0, false, 1, [0], (exns (tag 9 (adm0 0 0) (nsd nsC f1))).1, (exns (tag 9 (adm0 0 0) (nsd nsC f1))).2, by unfold Chip.starts; decide +kernel, rfl⟩,
   ⟨on (tag 9 (adm0 0 0) (nsd nsC f1)), 9, adm0 0 0, nsC, by unfold Chip.starts; decide +kernel, by decide +kernel⟩,
   ⟨on (tag 9 (adm0 0 0) f1), 9, adm0 0 0, by unfold Chip.starts; decide +kernel, by decide +kernel⟩,
   ⟨on (tag 9 (adm0 0x15 0) (nsd nsC f1)), 9, adm0 0x15 0, nsC, by unfold Chip.starts; decide +kernel, by decide +kernel⟩⟩

theorem witness_PatrolAndScan_1 :
    (∃ (s : State) (k : Nat) (lo : Nat) (hi : Nat) (rest : List (Nat × Nat × Nat)), (∀ (wl : Nat), s.chip.placeOf (k / 4096) (k % 4096) wl = none) ∧ s.chip.flag F.PATROL_CTL_EN = true ∧ s.chip.m.patrol.done = false ∧ s.chip.m.patrol.todo = (k, lo, hi) :: rest ∧ hi ≤ (s.chip.bst (k / 4096) (k % 4096)).ptr ∧ s.chip.memberLost (memberOf (k / 4096)) = false ∧ (∀ (e : Nat × Op), e ∈ s.chip.m.ops → e.snd.rt.isProgram = false) ∧ s.chip.m.patrol.page + 1 < s.chip.itemPages (k, lo, hi)) ∧
    (∃ (s : State), (s.chip.flag F.PATROL_CTL_EN = false ∨ s.chip.m.patrol.done = true)) ∧
    (∃ (s : State), s.chip.m.patrol.done = false) ∧
    (∃ (s : State), s.chip.flag F.PATROL_CTL_EN = true ∧ s.chip.m.patrol.done = true ∧ s.chip.m.patrol.fresh = false) ∧
    (∃ (s : State), s.chip.m.patrol.done = false ∧ s.chip.flag F.PATROL_STAT_BEHIND = false) ∧
    (∃ (s : State) (i : Nat) (o : Op) (key : Nat), s.chip.op i = some o ∧ key = s.chip.pinKey o.die o.block ∧ o.rt = Routine.erase ∧ o.stage = OpStage.queued ∧ 0 < s.chip.pinned key ∧ (¬i ∈ s.chip.m.warned)) :=
  ⟨⟨on lap, 130 * 4096 + 5, 0, 10, [], fun _ => rfl, by decide +kernel⟩,
   ⟨on (base.setFld F.PATROL_CTL_EN 0), by decide +kernel⟩,
   ⟨on { lap with now := 5000 }, by decide +kernel⟩,
   ⟨on ((lap.modM fun m => { m with patrol := { m.patrol with done := true, fresh := false, nextNs := 9000 } }).setFld F.PATROL_STAT_BEHIND 1), by decide +kernel⟩,
   ⟨on lap, by decide +kernel⟩,
   ⟨on pinned1, 4, er, pinned1.pinKey 130 5, by decide +kernel⟩⟩

theorem witness_PatrolAndScan_2 :
    (∃ (s : State) (i : Nat) (o : Op) (key : Nat), s.chip.op i = some o ∧ key = s.chip.pinKey o.die o.block ∧ o.rt = Routine.erase ∧ o.stage = OpStage.queued ∧ 0 < s.chip.pinned key ∧ i ∈ s.chip.m.warned) ∧
    (∃ (s : State) (seg : Nat) (scan : ScanData) (x : ScanChunk) (n : NsRec), s.chip.z.scanning = [seg] ∧ seg < segZones ∧ scan.chunks = [x] ∧ s.chip.ns x.nsid = some n ∧ n.seq0 ≤ x.seq ∧ s.chip.z.journal.durable = [] ∧ s.chip.z.journal.flying = [] ∧ s.chip.z.journal.opened = []) ∧
    (∃ (s : State), s.chip.z.scanning = []) :=
  ⟨⟨on (pinned1.modM fun m => { m with warned := [4] }), 4, er, pinned1.pinKey 130 5, by decide +kernel⟩,
   ⟨on scn, 6, ⟨[⟨1, 77, mapPool 7 3, 5, 0⟩], [], 12⟩, ⟨1, 77, mapPool 7 3, 5, 0⟩, nsC, by decide +kernel⟩,
   ⟨on base, by decide +kernel⟩⟩

theorem witness_QueuesAndAdminReports_1 :
    (∃ (s : State) (tag : Nat) (x : Ctx) (r : FnRec) (qid : Nat) (size : Nat) (cqid : Nat) (iv : Nat), s.chip.starts tag x ∧ r = s.chip.fn x.fn ∧ qid = bitsOf (x.dw 10) 15 0 ∧ size = bitsOf (x.dw 10) 31 16 + 1 ∧ cqid = bitsOf (x.dw 11) 31 16 ∧ iv = bitsOf (x.dw 11) 31 16 ∧ qid ≠ 0 ∧ qid ≤ r.asg.iopq ∧ pget r.sqs qid = none ∧ 2 ≤ size ∧ cqid ≠ 0 ∧ (pget r.cqs cqid).isSome = true) ∧
    (∃ (s : State) (tag : Nat) (x : Ctx) (r : FnRec) (qid : Nat) (size : Nat) (cqid : Nat) (iv : Nat), s.chip.starts tag x ∧ r = s.chip.fn x.fn ∧ qid = bitsOf (x.dw 10) 15 0 ∧ size = bitsOf (x.dw 10) 31 16 + 1 ∧ cqid = bitsOf (x.dw 11) 31 16 ∧ iv = bitsOf (x.dw 11) 31 16 ∧ qid ≠ 0 ∧ qid ≤ r.asg.iopq ∧ pget r.cqs qid = none ∧ 2 ≤ size ∧ iv < r.asg.vec) ∧
    (∃ (s : State) (tag : Nat) (x : Ctx) (r : FnRec), s.chip.starts tag x ∧ r = s.chip.fn x.fn ∧ bitsOf (x.dw 10) 7 0 = 8) ∧
    (∃ (s : State) (tag : Nat) (x : Ctx) (r : FnRec), s.chip.starts tag x ∧ r = s.chip.fn x.fn ∧ bitsOf (x.dw 10) 7 0 = 9 ∧ bitsOf (x.dw 11) 15 0 < r.asg.vec) ∧
    (∃ (s : State) (tag : Nat) (x : Ctx) (r : FnRec), s.chip.starts tag x ∧ r = s.chip.fn x.fn ∧ bitsOf (x.dw 10) 7 0 = 29 ∧ ((List.any s.chip.z.nss fun n => !n.snd.zoned) = true)) ∧
    (∃ (s : State) (tag : Nat) (x : Ctx) (r : FnRec), s.chip.starts tag x ∧ r = s.chip.fn x.fn ∧ bitsOf (x.dw 10) 7 0 = 1) :=
  ⟨⟨QT (cq 1 0x10002 0x10001), 9, cq 1 0x10002 0x10001, f1.fn 0, 2, 2, 1, 1, by unfold Chip.starts; decide +kernel, by decide +kernel⟩,
   ⟨QT (cq 5 0x10002 0x10003), 9, cq 5 0x10002 0x10003, f1.fn 0, 2, 2, 1, 1, by unfold Chip.starts; decide +kernel, by decide +kernel⟩,
   ⟨QT (cq 9 8 0x305), 9, cq 9 8 0x305, f1.fn 0, by unfold Chip.starts; decide +kernel, by decide +kernel⟩,
   ⟨QT (cq 9 9 0x10003), 9, cq 9 9 0x10003, f1.fn 0, by unfold Chip.starts; decide +kernel, by decide +kernel⟩,
   ⟨on (tag 9 (cq 9 0x1D 1) (nsd nsC f1)), 9, cq 9 0x1D 1, (nsd nsC f1).fn 0, by unfold Chip.starts; decide +kernel, by decide +kernel⟩,
   ⟨QT (cq 6 1 0), 9, cq 6 1 0, f1.fn 0, by unfold Chip.starts; decide +kernel, by decide +kernel⟩⟩

theorem witness_QueuesAndAdminReports_2 :
    (∃ (s : State) (tag : Nat) (x : Ctx) (r : FnRec), s.chip.starts tag x ∧ r = s.chip.fn x.fn ∧ r.pendEv = [] ∧ r.aers.length < 8) ∧
    (∃ (s : State) (tag : Nat) (x : Ctx) (r : FnRec) (e : AsyncEvent) (rest : List AsyncEvent), s.chip.starts tag x ∧ r = s.chip.fn x.fn ∧ r.pendEv = e :: rest) ∧
    (∃ (s : State) (tag : Nat) (x : Ctx) (r : FnRec) (n : NsRec) (rs : List (Nat × Nat)), s.chip.starts tag x ∧ r = s.chip.fn x.fn ∧ s.chip.ns x.nsid = some n ∧ (rs = List.filter (fun l => decide (l.fst + l.snd > sqeSlba x.sqe)) (s.chip.lostRanges n x.nsid))) ∧
    (∃ (s : State) (tag : Nat) (x : Ctx) (r : FnRec), s.chip.starts tag x ∧ r = s.chip.fn x.fn) :=
  ⟨⟨QT (cq 0xC 0 0), 9, cq 0xC 0 0, f1.fn 0, by unfold Chip.starts; decide +kernel, by decide +kernel⟩,
   ⟨on (tag 9 (cq 0xC 0 0) pend1), 9, cq 0xC 0 0, pend1.fn 0, .criticalWarning 1, [], by unfold Chip.starts; decide +kernel, by decide +kernel⟩,
   ⟨on (tag 9 (adm0 0 0) (nsd nsC f1)), 9, adm0 0 0, (nsd nsC f1).fn 0, nsC, [], by unfold Chip.starts; decide +kernel, by decide +kernel⟩,
   ⟨QT (cq 0 0 0), 9, cq 0 0 0, f1.fn 0, by unfold Chip.starts; decide +kernel, by decide +kernel⟩⟩

theorem witness_SupplyBallsAndSluice_1 :
    (∃ (s : State), s.chip.supply.windowAt = none ∧ s.chip.warned = true ∧ s.chip.supply.posted = true) ∧
    (∃ (s : State), s.chip.supply.windowAt.isSome = true) ∧
    (∃ (s : State), s.chip.supply.mainPg = true ∧ s.chip.supply.held = true) ∧
    (∃ (s : State), s.chip.supply.mainPg = true ∧ s.chip.supply.held = false ∧ s.chip.z.ledger.pfCommit = true) ∧
    (∃ (s : State), s.chip.supply.mainPg = true ∧ s.chip.supply.held = false ∧ s.chip.z.ledger.pfCommit = false) ∧
    (∃ (s : State), s.chip.supply.mainPg = true) :=
  ⟨⟨on (warn.modSup fun u => {u with posted := true}), by decide +kernel⟩,
   ⟨on win, by decide +kernel⟩,
   ⟨on (base.modSup fun u => {u with held := true}), by decide +kernel⟩,
   ⟨on (pf .landing base), by decide +kernel⟩,
   ⟨on (tag 4 (io (sqe 2 1 0 0 0 0)) (nsd nsC (queues base))), by decide +kernel⟩,
   ⟨s1, by decide +kernel⟩⟩

theorem witness_SupplyBallsAndSluice_2 :
    (∃ (s : State), s.chip.supply.mainPg = false) ∧
    (∃ (s : State), s.chip.supply.porLow = true) ∧
    (∃ (s : State), s.chip.supply.porLow = false) ∧
    (∃ (s : State), s.chip.m.sluice.q1 = [] ∧ s.chip.m.sluice.qb = []) ∧
    (∃ (s : State) (i : Nat) (o : Op) (r : SlReq), s.chip.m.sluice.q1 = [] ∧ s.chip.m.sluice.qb = [] ∧ s.chip.op i = some o ∧ o.stage = OpStage.admitted ∧ o.cls ≠ Cls.rt ∧ (r = { key := 2 * i, mw := s.chip.tokenCost o, cls := o.cls }) ∧ s.chip.tokensFit r none = true) ∧
    (∃ (s : State) (i : Nat) (o : Op) (r : SlReq), s.chip.m.sluice.q1 = [] ∧ s.chip.m.sluice.qb = [] ∧ s.chip.op i = some o ∧ o.stage = OpStage.admitted ∧ o.cls ≠ Cls.rt ∧ (r = { key := 2 * i, mw := s.chip.tokenCost o, cls := o.cls }) ∧ s.chip.tokensFit r none = false) :=
  ⟨⟨on (base.modSup fun u => {u with mainPg := false}), by decide +kernel⟩,
   ⟨State.reset, by decide +kernel⟩,
   ⟨s1, by decide +kernel⟩,
   ⟨s1, by decide +kernel⟩,
   ⟨on slB, 4, slOp, ⟨8, base.tokenCost slOp, .b⟩, by decide +kernel⟩,
   ⟨on slL2, 4, slOp, ⟨8, base.tokenCost slOp, .b⟩, by decide +kernel⟩⟩

theorem witness_ZoneActionsAndDescriptors_1 :
    (∃ (s : State) (tag : Nat) (g : Nat) (x : Ctx) (n : NsRec), StartsAlone s.chip tag x n ∧ n.zoned = true ∧ s.chip.gate x n true = none ∧ sqeSlba x.sqe < n.size ∧ bitOf (x.dw 13) 8 = false ∧ g = n.zoneOf (sqeSlba x.sqe) ∧ s.chip.z.journal.used + 64 ≤ 16384 ∧ (s.chip.zone g).st = ZState.zsio) ∧
    (∃ (s : State) (tag : Nat) (g : Nat) (x : Ctx) (n : NsRec), StartsAlone s.chip tag x n ∧ n.zoned = true ∧ s.chip.gate x n true = none ∧ sqeSlba x.sqe < n.size ∧ bitOf (x.dw 13) 8 = false ∧ g = n.zoneOf (sqeSlba x.sqe) ∧ s.chip.z.journal.used + 64 ≤ 16384 ∧ (s.chip.zone g).st = ZState.zsio) ∧
    (∃ (s : State) (tag : Nat) (g : Nat) (x : Ctx) (n : NsRec), StartsAlone s.chip tag x n ∧ n.zoned = true ∧ s.chip.gate x n true = none ∧ sqeSlba x.sqe < n.size ∧ bitOf (x.dw 13) 8 = false ∧ g = n.zoneOf (sqeSlba x.sqe) ∧ s.chip.z.journal.used + 64 ≤ 16384 ∧ (s.chip.zone g).st = ZState.zse ∧ (s.chip.zone g).wpOff = 0 ∧ (s.chip.zone g).sealState ≤ 1 ∧ pget s.chip.z.chains g = none ∧ s.chip.sealKeyOk (s.chip.zone g).nsid = true) ∧
    (∃ (s : State) (tag : Nat) (g : Nat) (x : Ctx) (n : NsRec), StartsAlone s.chip tag x n ∧ n.zoned = true ∧ s.chip.gate x n true = none ∧ sqeSlba x.sqe < n.size ∧ bitOf (x.dw 13) 8 = false ∧ g = n.zoneOf (sqeSlba x.sqe) ∧ s.chip.z.journal.used + 64 ≤ 16384 ∧ (s.chip.zone g).st = ZState.zsio) ∧
    (∃ (s : State) (tag : Nat) (g : Nat) (x : Ctx) (n : NsRec), StartsAlone s.chip tag x n ∧ n.zoned = true ∧ s.chip.gate x n true = none ∧ sqeSlba x.sqe < n.size ∧ bitOf (x.dw 13) 8 = false ∧ g = n.zoneOf (sqeSlba x.sqe) ∧ s.chip.z.journal.used + 64 ≤ 16384 ∧ (s.chip.zone g).st = ZState.zsro) ∧
    (∃ (s : State) (tag : Nat) (x : Ctx) (n : NsRec) (data : List Byte), s.chip.starts tag x ∧ s.chip.ns x.nsid = some n ∧ n.zoned = true ∧ s.chip.gate x n true = none ∧ (∀ (b : Byte), b ∈ padTo 48 data → b = 0) ∧ (s.chip.zone (n.zoneOf (sqeSlba x.sqe))).st = ZState.zse) :=
  ⟨⟨Z (zm 1) (zo .zsio 24), 9, 1, io (zm 1), nsZ, ⟨by unfold Chip.starts; decide +kernel, by decide +kernel, fun _ => rfl, by decide +kernel, by decide +kernel, by decide +kernel⟩, by decide +kernel⟩,
   ⟨Z (zm 3) (zo .zsio 24), 9, 1, io (zm 3), nsZ, ⟨by unfold Chip.starts; decide +kernel, by decide +kernel, fun _ => rfl, by decide +kernel, by decide +kernel, by decide +kernel⟩, by decide +kernel⟩,
   ⟨ZK (zm 2) (zoneReset 1 1), 9, 1, io (zm 2), nsZ, ⟨by unfold Chip.starts; decide +kernel, by decide +kernel, fun _ => rfl, by decide +kernel, by decide +kernel, by decide +kernel⟩, by decide +kernel⟩,
   ⟨Z (zm 4) (zo .zsio 24), 9, 1, io (zm 4), nsZ, ⟨by unfold Chip.starts; decide +kernel, by decide +kernel, fun _ => rfl, by decide +kernel, by decide +kernel, by decide +kernel⟩, by decide +kernel⟩,
   ⟨Z (zm 5) (zo .zsro 24), 9, 1, io (zm 5), nsZ, ⟨by unfold Chip.starts; decide +kernel, by decide +kernel, fun _ => rfl, by decide +kernel, by decide +kernel, by decide +kernel⟩, by decide +kernel⟩,
   ⟨Z (zm 16) (zoneReset 1 1), 9, io (zm 16), nsZ, List.replicate 48 0#8 ++ List.replicate 16 255#8, by unfold Chip.starts; decide +kernel, by decide +kernel⟩⟩

theorem witness_ZoneActionsAndDescriptors_2 :
    (∃ (s : State) (tag : Nat) (x : Ctx) (n : NsRec), s.chip.starts tag x ∧ s.chip.ns x.nsid = some n ∧ n.zoned = false) ∧
    (∃ (s : State) (tag : Nat) (x : Ctx) (n : NsRec) (nsid : Nat) (mar : Nat) (mor : Nat), s.chip.starts tag x ∧ s.chip.ns x.nsid = some n ∧ 1 ≤ nsid ∧ nsid ≤ 8192 ∧ mor ≤ mar ∧ mar < 2 ^ 14 ∧ ((s.chip.marSum - if Option.any (fun x => x.zoned) (s.chip.ns nsid) = true then s.chip.mar nsid else 0) + mar ≤ 8192)) ∧
    (∃ (s : State) (tag : Nat) (x : Ctx) (n : NsRec) (nsid : Nat) (mar : Nat) (mor : Nat), s.chip.starts tag x ∧ s.chip.ns x.nsid = some n ∧ 1 ≤ nsid ∧ nsid ≤ 8192 ∧ mar < mor ∧ mor < 2 ^ 14) ∧
    (∃ (s : State) (tag : Nat) (x : Ctx) (n : NsRec) (g : Nat), s.chip.starts tag x ∧ s.chip.ns x.nsid = some n ∧ (s.chip.zone g).st.isActive = true ∧ (s.chip.zone g).openTime ≠ (0, 0) ∧ (s.chip.zone g).fzr = false ∧ (∀ (e : Nat × FnRec), e ∈ s.chip.fns → e.snd.aers = [])) :=
  ⟨⟨S wI nsC, 9, io wI, nsC, by unfold Chip.starts; decide +kernel, by decide +kernel⟩,
   ⟨Z (zm 16) (zoneReset 1 1), 9, io (zm 16), nsZ, 1, 8192, 8192, by unfold Chip.starts; decide +kernel, by decide +kernel⟩,
   ⟨Z (zm 16) (zoneReset 1 1), 9, io (zm 16), nsZ, 8192, 0, 1, by unfold Chip.starts; decide +kernel, by decide +kernel⟩,
   ⟨Z (zm 16) {zo .zsc 24 with openTime := (4, 1)}, 9, io (zm 16), nsZ, 1, by unfold Chip.starts; decide +kernel, by decide +kernel⟩⟩

theorem witness_CompletionsAndAborts_1 :
    (∃ (s : State) (tag : Nat) (dw0 : Nat) (st : Status) (x : Ctx) (q : CqRec), s.chip.ctx tag = some x ∧ s.chip.firstEvent tag = some (PostEvent.done tag st dw0) ∧ s.chip.z.ledger.pfCommit = false ∧ s.chip.trailOf tag = none ∧ (s.chip.fn x.fn).drops = false ∧ (s.chip.fn x.fn).d3hot = false ∧ pget (s.chip.fn x.fn).cqs x.cqid = some q ∧ q.held = [] ∧ q.full = false ∧ q.ien = false ∧ x.deadline = none) ∧
    (∃ (s : State) (tag : Nat) (dw0 : Nat) (st : Status) (x : Ctx) (q : CqRec), s.chip.ctx tag = some x ∧ s.chip.firstEvent tag = some (PostEvent.done tag st dw0) ∧ s.chip.z.ledger.pfCommit = false ∧ s.chip.trailOf tag = none ∧ (s.chip.fn x.fn).drops = false ∧ (s.chip.fn x.fn).d3hot = false ∧ pget (s.chip.fn x.fn).cqs x.cqid = some q ∧ q.held = [] ∧ q.full = true ∧ q.stalled = false) ∧
    (∃ (s : State) (fn : Nat) (vec : Nat), (s.chip.fn fn).silent = false ∧ (Option.map MsixEntry.mask (pget (s.chip.fn fn).msix vec)).getD false = false ∧ 0 < mget 0 (s.chip.fn fn).coal vec) ∧
    (∃ (s : State) (fn : Nat) (vec : Nat), (s.chip.fn fn).silent = false ∧ (Option.map MsixEntry.mask (pget (s.chip.fn fn).msix vec)).getD false = false ∧ mget 0 (s.chip.fn fn).coal vec = 0) ∧
    (∃ (s : State) (tag : Nat) (x : Ctx), s.chip.starts tag x ∧ keysRise s.chip.intake.tags = true ∧ 64 ≤ s.chip.abortsOut x.fn) ∧
    (∃ (s : State) (tag : Nat) (x : Ctx), s.chip.starts tag x ∧ keysRise s.chip.intake.tags = true ∧ s.chip.abortsOut x.fn < 64) :=
  ⟨⟨on fd2, 9, 0, .success, dn, room, by decide +kernel⟩,
   ⟨on fd, 9, 0, .success, dn, ⟨0x40000, 16, 0, 15, true, false, 1, [], false⟩, by decide +kernel⟩,
   ⟨on (base.modFn 300 fun r => {r with coal := [(2, 3)]}), 300, 2, by decide +kernel⟩,
   ⟨s1, 300, 2, by decide +kernel⟩,
   ⟨on (tag 9 ab (ab64c f1)), 9, ab, by unfold Chip.starts; decide +kernel, by decide +kernel⟩,
   ⟨on (tag 9 ab f1), 9, ab, by unfold Chip.starts; decide +kernel, by decide +kernel⟩⟩

theorem witness_CompletionsAndAborts_2 :
    (∃ (s : State) (tag : Nat) (x : Ctx) (target : Option Nat) (cid : Nat) (fn : Nat) (rest : List PostEvent), (target = none ∨ ∃ k y, target = some k ∧ s.chip.ctx k = some y ∧ y.committed = true) ∧ keysRise s.chip.intake.tags = true ∧ s.chip.ctx tag = some x ∧ x.sent = false ∧ s.chip.z.ledger.pfCommit = false ∧ s.chip.intake.postQ = PostEvent.abort target (some tag) cid fn :: rest) ∧
    (∃ (s : State) (tag : Nat) (x : Ctx) (target : Option Nat) (cid : Nat) (fn : Nat) (rest : List PostEvent) (k : Nat) (y : Ctx) (q : CqRec), keysRise s.chip.intake.tags = true ∧ s.chip.ctx tag = some x ∧ x.sent = false ∧ s.chip.z.ledger.pfCommit = false ∧ s.chip.intake.postQ = PostEvent.abort target (some tag) cid fn :: rest ∧ target = some k ∧ k ≠ tag ∧ s.chip.ctx k = some y ∧ y.committed = false ∧ y.st ≠ TagState.firmware ∧ y.sent = false ∧ y.placed = false ∧ y.commit = none ∧ (s.chip.fn y.fn).drops = false ∧ (s.chip.fn y.fn).d3hot = false ∧ y.deadline = none ∧ pget (s.chip.fn y.fn).cqs y.cqid = some q ∧ q.held = [] ∧ q.full = false ∧ q.ien = false) :=
  ⟨⟨on (postQ [.abort (some 20) (some 9) 3 0] (tag 20 {victim with committed := true} (tag 9 abf f1))), 9, abf, some 20, 3, 0, [], by first | exact .inl rfl | exact .inr ⟨_, _, rfl, rfl, rfl⟩, by decide +kernel⟩,
   ⟨on (postQ [.abort (some 20) (some 9) 3 0] (tag 20 victim (tag 9 abf (modCq (fun q => {q with head := 3}) f1)))), 9, abf, some 20, 3, 0, [], 20, victim, room, by decide +kernel⟩⟩

theorem witness_FirmwareQueues :
    (∃ (s : State) (p : Nat) (head : Nat), p < 36 ∧ s.chip.wr = [] ∧ head = s.chip.fld F.SEQ_FDQ_PTR_HEAD p % s.chip.fdqSize p ∧ (s.chip.flag F.SEQ_CTL_FDQ_EN p = false ∨ head = s.chip.fld F.SEQ_FDQ_PTR_TAIL p % s.chip.fdqSize p ∨ s.chip.fcqFull p = true)) ∧
    (∃ (s : State) (p : Nat) (head : Nat) (b : List Byte) (a : Nat), p < 36 ∧ s.chip.wr = [] ∧ head = s.chip.fld F.SEQ_FDQ_PTR_HEAD p % s.chip.fdqSize p ∧ s.chip.flag F.SEQ_CTL_FDQ_EN p = true ∧ s.chip.flag F.SEQ_CTL_EN p = true ∧ head ≠ s.chip.fld F.SEQ_FDQ_PTR_TAIL p % s.chip.fdqSize p ∧ s.chip.fcqFull p = false ∧ b = readBytes s (s.chip.fld F.SEQ_FDQ_BASE p * 4096 + 64 * head) 64 ∧ routineOf (numAt b 0 1) = none ∧ bitOf (numAt b 2 2) 0 = false ∧ a = s.chip.fld F.SEQ_FCQ_BASE p * 4096 + 32 * s.chip.fld F.SEQ_FCQ_PTR_TAIL p) ∧
    (∃ (s : State) (p : Nat) (head : Nat) (b : List Byte) (rt : Routine), p < 36 ∧ s.chip.wr = [] ∧ head = s.chip.fld F.SEQ_FDQ_PTR_HEAD p % s.chip.fdqSize p ∧ s.chip.flag F.SEQ_CTL_FDQ_EN p = true ∧ s.chip.flag F.SEQ_CTL_EN p = true ∧ head ≠ s.chip.fld F.SEQ_FDQ_PTR_TAIL p % s.chip.fdqSize p ∧ s.chip.fcqFull p = false ∧ b = readBytes s (s.chip.fld F.SEQ_FDQ_BASE p * 4096 + 64 * head) 64 ∧ routineOf (numAt b 0 1) = some rt ∧ rt.charged = true ∧ s.chip.descOk p (descOp p rt b) b = true ∧ s.chip.descPermitted (descOp p rt b) = true ∧ s.chip.memberLost p = false ∧ (s.chip.die (descOp p rt b).die).faulted = false) :=
  ⟨⟨s1, 35, 0, by decide +kernel⟩,
   ⟨on (fq base), 35, 0, (readBytes (on (fq base)) (5 * 4096) 64), 9 * 4096, by decide +kernel⟩,
   ⟨desc derase fqE, 35, 0, readBytes (desc derase fqE) (5 * 4096) 64, .erase, by decide +kernel⟩⟩

theorem witness_PoolsFormAndRebuild_1 :
    (∃ (s : State) (p : Nat) (e : List Byte) (res : Nat), p < 2 ^ 20 ∧ e = readBytes s (s.chip.fld F.STRIPE_PT_BASE * 4096 + 448 * p) 448 ∧ res = s.chip.formResult p e (List.map BitVec.toNat (readBytes s (s.chip.fld F.STRIPE_LAYOUT_BASE * 4096 + 32 * numAt e 0 2) 18))) ∧
    (∃ (s : State) (m : Nat) (n : Nat), m < 64 ∧ (n = (List.map (fun e => (List.filter (fun x => memberOf x.die == m && (x.pstate == 1 || x.pstate == 2)) e.snd.slots).length) s.chip.m.pools).sum)) ∧
    (∃ (die : Nat), die < 4608) ∧
    (∃ (s : State), (s.chip.m.rbRow.isSome = true ∨ s.chip.rbNext = none)) ∧
    (∃ (s : State) (p : Nat) (j : Nat) (crit : Bool) (q : Pool) (x : Slot), s.chip.m.rbRow = none ∧ s.chip.rbNext = some (p, j, crit) ∧ s.chip.pool p = some q ∧ q.slots[j]? = some x ∧ x.r = none ∧ s.chip.chooseSpare q = none) ∧
    (∃ (s : State) (p : Nat) (j : Nat) (crit : Bool) (q : Pool) (x : Slot) (d : Nat) (b : Nat), s.chip.m.rbRow = none ∧ s.chip.rbNext = some (p, j, crit) ∧ s.chip.pool p = some q ∧ q.slots[j]? = some x ∧ x.r = none ∧ s.chip.chooseSpare q = some (d, b) ∧ (s.chip.bst d b).st ≠ BState.erased) :=
  ⟨⟨ptS .erased, 3, readBytes (ptS .erased) (16 * 4096 + 448 * 3) 448, 0, by decide +kernel⟩,
   ⟨on (pools [(7, pool8)] base), 0, 1, by decide +kernel⟩,
   ⟨130, by decide +kernel⟩,
   ⟨on base, by decide +kernel⟩,
   ⟨on (rbF [0] []), 7, 0, false, pool8, ⟨0, 5, none, none, 0, 1, 1⟩, by decide +kernel⟩,
   ⟨on (rbF [0, 2] []), 7, 0, false, pool8, ⟨0, 5, none, none, 0, 1, 1⟩, 256, 0, by decide +kernel⟩⟩

theorem witness_PoolsFormAndRebuild_2 :
    (∃ (s : State) (p : Nat) (j : Nat) (crit : Bool) (q : Pool) (x : Slot) (d : Nat) (b : Nat), s.chip.m.rbRow = none ∧ s.chip.rbNext = some (p, j, crit) ∧ s.chip.pool p = some q ∧ q.slots[j]? = some x ∧ x.r = some (d, b) ∧ (s.chip.bst d b).st ≠ BState.erasing ∧ (s.chip.bst d b).st ≠ BState.incomplete ∧ x.rDone < q.goal x ∧ (s.chip.rbTokens crit).snd = true) ∧
    (∃ (s : State) (p : Nat) (j : Nat) (crit : Bool) (q : Pool) (x : Slot) (d : Nat) (b : Nat), s.chip.m.rbRow = none ∧ s.chip.rbNext = some (p, j, crit) ∧ s.chip.pool p = some q ∧ q.slots[j]? = some x ∧ x.r = some (d, b) ∧ (s.chip.bst d b).st ≠ BState.erasing ∧ (s.chip.bst d b).st ≠ BState.incomplete ∧ q.goal x ≤ x.rDone ∧ (∀ k ∈ s.chip.m.jobs, ∃ e ∈ s.chip.m.pools, e.1 ≠ p ∧ e.2.ptstate ≠ 0 ∧ ∃ y ∈ e.2.slots, (y.pstate = 1 ∨ y.pstate = 2) ∧ (if k.2 then y.die = k.1 else memberOf y.die = k.1))) :=
  ⟨⟨on (rb9 1 .opened), 7, 0, false, pool9 1, ⟨0, 5, some (256, 9), none, 1, 2, 1⟩, 256, 9, by decide +kernel⟩,
   ⟨on (rb9 2 .opened), 7, 0, false, pool9 2, ⟨0, 5, some (256, 9), none, 2, 2, 1⟩, 256, 9, by decide +kernel⟩⟩

theorem witness_LinksTrainAndPark_1 :
    (∃ (s : State) (p : Nat) (l : Link), p < 36 ∧ l = s.chip.link p ∧ s.chip.wr = [] ∧ (s.chip.linkState p = 0 ∨ s.chip.linkState p = 7) ∧ s.chip.flag F.BINOR_CTL_EN p = true ∧ s.chip.portIn p = true) ∧
    (∃ (s : State) (p : Nat) (l : Link), p < 36 ∧ l = s.chip.link p ∧ s.chip.wr = [] ∧ (s.chip.flag F.BINOR_CTL_EN p = false ∨ s.chip.linkState p ≠ 0 ∧ s.chip.linkState p ≠ 7)) ∧
    (∃ (s : State) (p : Nat) (l : Link) (rx : List Nat) (tx : List Nat) (r : Nat) (rs : List Nat) (u : Nat) (us : List Nat), p < 36 ∧ l = s.chip.link p ∧ s.chip.wr = [] ∧ s.chip.linkState p = 1 ∧ s.chip.flag F.BINOR_CTL_FORCE_X1 p = false ∧ ((List.filter (fun x => decide (x < 2)) rx).eraseDups = r :: rs) ∧ ((List.filter (fun x => decide (x < 2)) tx).eraseDups = u :: us)) ∧
    (∃ (s : State) (p : Nat) (l : Link), p < 36 ∧ l = s.chip.link p ∧ s.chip.wr = [] ∧ s.chip.linkState p = 2) ∧
    (∃ (s : State) (p : Nat) (l : Link) (os : OrderedSet), p < 36 ∧ l = s.chip.link p ∧ s.chip.wr = [] ∧ os.crcOk = false) ∧
    (∃ (s : State) (p : Nat) (l : Link) (os : OrderedSet) (lane : Nat), p < 36 ∧ l = s.chip.link p ∧ s.chip.wr = [] ∧ os.crcOk = true ∧ s.chip.portIn p = true ∧ s.chip.linkState p = 4 ∧ os.kind = 2 ∧ os.lane = lane ∧ lane < 2 ∧ s.chip.flag F.BINOR_STAT_RX_X1 p = true ∧ s.chip.fld F.BINOR_STAT_RX_LANE p = lane ∧ mget 0 l.ts2 lane = 7) :=
  ⟨⟨on ((lk 35 L0 7 base).setFld F.BINOR_CTL_EN 1 35), 35, L0, by decide +kernel⟩,
   ⟨on ((lk 35 L0 2 base).setFld F.BINOR_CTL_EN 1 35), 35, L0, by decide +kernel⟩,
   ⟨on (lk 35 L0 1 base), 35, L0, [1], [0, 1], 1, [], 0, [1], by decide +kernel⟩,
   ⟨on (lk 35 L0 2 base), 35, L0, by decide +kernel⟩,
   ⟨on (lk 35 L0 2 base), 35, L0, ⟨1, 0, false, 0, false, none, 0, 0, 0, 0, 0⟩, by decide +kernel⟩,
   ⟨on (((lk 35 ts7 4 base).setFld F.BINOR_STAT_RX_X1 1 35).setFld F.BINOR_STAT_RX_LANE 1 35), 35, ts7, ⟨2, 1, true, 0, false, none, 0, 0, 0, 0, 0⟩, 1, by decide +kernel⟩⟩

theorem witness_LinksTrainAndPark_2 :
    (∃ (s : State) (p : Nat) (l : Link) (os : OrderedSet), p < 36 ∧ l = s.chip.link p ∧ s.chip.wr = [] ∧ os.crcOk = true ∧ s.chip.portIn p = true ∧ s.chip.linkState p = 5 ∧ os.kind = 3 ∧ l.cfg = [os.brId, os.brCap, os.brInc, os.nextRx, os.chunkLen] ∧ l.cfgSeen = 3 ∧ bitsOf os.brId 15 8 = 1 ∧ l.full = false ∧ os.brInc = s.chip.fld F.BINOR_BRID_INC p ∧ os.nextRx = l.txSeq ∧ l.sendQ = []) ∧
    (∃ (s : State) (p : Nat) (l : Link), p < 36 ∧ l = s.chip.link p ∧ s.chip.wr = [] ∧ 1 ≤ s.chip.linkState p ∧ s.chip.linkState p ≤ 5 ∧ l.full = true ∧ l.attempts < 3) ∧
    (∃ (s : State) (p : Nat) (l : Link), p < 36 ∧ l = s.chip.link p ∧ s.chip.wr = [] ∧ 1 ≤ s.chip.linkState p ∧ s.chip.linkState p ≤ 5 ∧ l.full = true ∧ 3 ≤ l.attempts) ∧
    (∃ (s : State) (p : Nat) (l : Link), p < 36 ∧ l = s.chip.link p ∧ s.chip.wr = [] ∧ s.chip.linkActive p = true ∧ (∀ (e : Nat × Die), e ∈ s.chip.m.dies → memberOf e.fst = p → e.snd.susp = none ∧ e.snd.queue = [] ∧ e.snd.posted = [])) ∧
    (∃ (s : State) (p : Nat) (l : Link), p < 36 ∧ l = s.chip.link p ∧ s.chip.wr = [] ∧ s.chip.linkActive p = false) ∧
    (∃ (s : State) (p : Nat) (l : Link), p < 36 ∧ l = s.chip.link p ∧ s.chip.wr = [] ∧ l.parking = true ∧ l.held = []) :=
  ⟨⟨on ((lk 35 cf 5 base).setFld F.BINOR_BRID_INC 9 35), 35, cf, ⟨3, 1, true, 0, false, none, 0x100, 5, 9, 7, 3⟩, by decide +kernel⟩,
   ⟨on (lk 35 {L0 with attempts := 2} 3 base), 35, {L0 with attempts := 2}, by decide +kernel⟩,
   ⟨on (lk 35 {L0 with attempts := 3} 3 base), 35, {L0 with attempts := 3}, by decide +kernel⟩,
   ⟨A L0, 35, L0, by decide +kernel⟩,
   ⟨on (lk 35 L0 3 base), 35, L0, by decide +kernel⟩,
   ⟨A {L0 with parking := true, held := []}, 35, {L0 with parking := true, held := []}, by decide +kernel⟩⟩

theorem witness_SupplyWarnings :
    (∃ (s : State) (mv : Nat), mv < 65536 ∧ s.chip.supply.porLow = false ∧ s.chip.warned = true) ∧
    (∃ (s : State) (mv : Nat), mv < 65536 ∧ s.chip.supply.porLow = false ∧ s.chip.warned = false ∧ s.chip.supply.held = false ∧ s.chip.z.ledger.pfCommit = false ∧ s.chip.supply.test = none) ∧
    (∃ (s : State) (t0 : Nat), s.chip.supply.windowAt = some t0 ∧ s.chip.z.ledger.opQ = [] ∧ s.chip.z.ledger.commitQ = []) ∧
    (∃ (s : State), s.chip.supply.windowAt = none) ∧
    (∃ (s : State) (t0 : Nat), s.chip.supply.windowAt = some t0 ∧ s.chip.z.ledger.pfCommit = false) ∧
    (∃ (s : State), s.chip.warned = true ∧ s.chip.supply.windowAt.isSome = true ∧ s.chip.z.ledger.pfCommit = false) :=
  ⟨⟨on warn, 10500, by decide +kernel⟩,
   ⟨on base, 10500, by decide +kernel⟩,
   ⟨on { win with now := 5000 }, 900, by decide +kernel⟩,
   ⟨on base, by decide +kernel⟩,
   ⟨on { (tag 4 (io (sqe 2 1 0 0 0 0)) (tag 7 {io (sqe 1 1 0 0 0 0) with committed := true, st := .media} (nsd nsC (queues win)))) with now := 5000 }, 900, by decide +kernel⟩,
   ⟨on win, by decide +kernel⟩⟩

theorem witness_StepRunsFrontCommand :
    (∃ (s : State) (i : Instr) (rest : List Instr), s.pending = i :: rest) :=
  ⟨qs, .skipInsert 0, [.skipInsert 1], by decide +kernel⟩

theorem witness_SequencersWatchDies :
    (∃ (s : State) (i : Nat) (o : Op), (∀ (x : Nat), o.purpose ≠ Purpose.suspendOf x) ∧ s.chip.wr = [] ∧ s.chip.op i = some o ∧ o.stage = OpStage.running ∧ o.phase = Phase.poll ∧ (o.rt.isRead || o.rt.isProgram || o.rt == Routine.erase) = true ∧ o.started = true ∧ (∀ (f : BFrame), f ∈ (s.chip.link (memberOf o.die)).frames → f.op ≠ some i) ∧ (s.chip.link (memberOf o.die)).sendQ = [] ∧ o.ran + (max s.chip.now (o.runAt + (s.chip.nominal o - o.ran)) - o.runAt) ≤ s.chip.busyMax o) ∧
    (∃ (s : State) (i : Nat) (o : Op), s.chip.wr = [] ∧ s.chip.op i = some o ∧ o.stage ≠ OpStage.running) ∧
    (∃ (s : State) (p : Nat) (tag : Nat) (f : BFrame) (i : Nat) (o : Op), s.chip.wr = [] ∧ p < 36 ∧ (List.find? (fun f => f.tag == tag && f.ftype == 1) (s.chip.link p).frames = some f) ∧ (List.find? (fun x => x.tag == tag) (s.chip.link p).frames = some f) ∧ f.op = some i ∧ s.chip.op i = some o ∧ f.kind = FrameKind.start ∧ (s.chip.link p).sendQ = []) ∧
    (∃ (s : State) (die : Nat) (block : Nat) (owner : Nat), s.chip.wr = [] ∧ die < 4608 ∧ block < 65536 ∧ owner < 16) ∧
    (∃ (s : State) (die : Nat) (block : Nat), s.chip.wr = [] ∧ die < 4608 ∧ block < s.chip.blocks) :=
  ⟨⟨on (withProf (ops [(4, pollOp)] (A L0).chip)), 4, pollOp, (fun _ h => nomatch h), by decide +kernel⟩,
   ⟨on (ops [(4, sr)] base), 4, sr, by decide +kernel⟩,
   ⟨on (ops [(4, rdOp)] (A brS).chip), 35, 9, fr .start, 4, rdOp, by decide +kernel⟩,
   ⟨on base, 4607, 0, 7, by decide +kernel⟩,
   ⟨on (open5 .full 384 false (withProf base)), 4497, 5, by decide +kernel⟩⟩

theorem witness_ConfigRequestAnswers :
    (∃ (s : State) (fn : Nat), s.chip.flag F.HP_CTL_CFG_RDY (s.chip.lead (portOf fn)) = false) ∧
    (∃ (s : State) (fn : Nat), s.chip.flag F.HP_CTL_CFG_RDY (s.chip.lead (portOf fn)) = true ∧ s.chip.fnExists fn = false) ∧
    (∃ (s : State) (fn : Nat) (act : CfgAction), (act = CfgAction.read ∨ ∃ off v, act = CfgAction.write off v) ∧ s.chip.flag F.HP_CTL_CFG_RDY (s.chip.lead (portOf fn)) = true ∧ s.chip.fnExists fn = true) ∧
    (∃ (s : State) (fn : Nat), s.chip.flag F.HP_CTL_CFG_RDY (s.chip.lead (portOf fn)) = true ∧ s.chip.fnExists fn = true ∧ isPf fn = true) ∧
    (∃ (s : State) (fn : Nat), (∀ (f : Nat), f ∈ s.chip.portFns (portOf fn) → s.chip.quiet f) ∧ s.chip.flag F.HP_CTL_CFG_RDY (s.chip.lead (portOf fn)) = true ∧ s.chip.fnExists fn = true ∧ isPf fn = true) :=
  ⟨⟨s1, 0, by decide +kernel⟩,
   ⟨on (base.setFld F.HP_CTL_CFG_RDY 1 3), 769, by decide +kernel⟩,
   ⟨on (base.setFld F.HP_CTL_CFG_RDY 1 3), 768, .read, by first | exact .inl rfl | exact .inr ⟨_, _, rfl, rfl, rfl⟩, by decide +kernel⟩,
   ⟨on (base.setFld F.HP_CTL_CFG_RDY 1 3), 768, by decide +kernel⟩,
   ⟨on ((base.setFld F.HP_CTL_CFG_RDY 1 3).modFn 768 fun r => {r with vfe := true}), 768, by unfold Chip.quiet; decide +kernel, by decide +kernel⟩⟩

theorem witness_EntriesAreFetchedAndChecked_1 :
    (∃ (s : State), s.chip.fld F.PWR_DOM_STATE 31 = 0 ∧ s.chip.fetchRing = []) ∧
    (∃ (s : State) (f : Nat) (rest : List Nat) (q : SqRec) (p : TagPart) (k : Nat), s.chip.fld F.PWR_DOM_STATE 31 = 0 ∧ s.chip.fetchRing = f :: rest ∧ pget (s.chip.fn f).sqs 0 = some q ∧ s.chip.tagPart f 0 = some p ∧ plowest s.chip.intake.tags 65536 0 = some k ∧ q.waiting = 1 ∧ q.head < q.size ∧ (s.chip.fn f).round = []) ∧
    (∃ (s : State) (f : Nat) (rest : List Nat) (q : SqRec), s.chip.fld F.PWR_DOM_STATE 31 = 0 ∧ s.chip.fetchRing = f :: rest ∧ pget (s.chip.fn f).sqs 0 = some q ∧ s.chip.tagPart f 0 = none ∧ q.waiting ≠ 0) ∧
    (∃ (s : State) (tag : Nat) (x : Ctx) (e : Sqe), List.length e = 16 ∧ s.chip.ctx tag = some x ∧ x.st = TagState.check ∧ x.sqe = [] ∧ x.sent = false ∧ x.sqid ≠ 0 ∧ opIo.contains (sqeOpc e) = false) ∧
    (∃ (s : State) (tag : Nat) (x : Ctx) (e : Sqe) (st : Status), List.length e = 16 ∧ s.chip.ctx tag = some x ∧ x.st = TagState.check ∧ x.sqe = [] ∧ x.sent = false ∧ (x.sqid ≠ 0 → opIo.contains (sqeOpc e) = true ∧ s.chip.tenantOk x.fn (sqeNsid e) = true) ∧ x.sqid ≠ 0 ∧ s.chip.nsCheck x.fn e = some st) ∧
    (∃ (s : State) (tag : Nat) (x : Ctx) (e : Sqe) (p : DataPtr), List.length e = 16 ∧ s.chip.ctx tag = some x ∧ x.st = TagState.check ∧ x.sqe = [] ∧ x.sent = false ∧ (x.sqid ≠ 0 → opIo.contains (sqeOpc e) = true ∧ s.chip.tenantOk x.fn (sqeNsid e) = true) ∧ (x.sqid ≠ 0 → s.chip.nsCheck x.fn e = none) ∧ s.chip.pointerCheck x.fn x.sqid e p = none) :=
  ⟨⟨s1, by decide +kernel⟩,
   ⟨on f2, 0, [], ⟨0x10000, 16, 15, 0, 0, 0⟩, .guaranteed, 0, by decide +kernel⟩,
   ⟨on (adm64 starved), 0, [], ⟨0x10000, 16, 15, 0, 0, 0⟩, by decide +kernel⟩,
   ⟨on (tag 9 (fresh 1) (nsd nsC f1)), 9, fresh 1, badop, by decide +kernel⟩,
   ⟨on (tag 9 (fresh 1) (nsd nsC f1)), 9, fresh 1, sqe 2 2 0 0 0 0, .invalidNamespaceOrFormat, by decide +kernel⟩,
   ⟨on (tag 9 (fresh 1) (nsd nsC f1)), 9, fresh 1, sqe 2 1 0 0 0 0, .prp 0x1000 [] [], by decide +kernel⟩⟩

theorem witness_EntriesAreFetchedAndChecked_2 :
    (∃ (s : State) (tag : Nat) (x : Ctx) (e : Sqe) (p : DataPtr) (st : Status), List.length e = 16 ∧ s.chip.ctx tag = some x ∧ x.st = TagState.check ∧ x.sqe = [] ∧ x.sent = false ∧ (x.sqid ≠ 0 → opIo.contains (sqeOpc e) = true ∧ s.chip.tenantOk x.fn (sqeNsid e) = true) ∧ (x.sqid ≠ 0 → s.chip.nsCheck x.fn e = none) ∧ s.chip.pointerCheck x.fn x.sqid e p = some st) :=
  ⟨on (tag 9 (fresh 1) (nsd nsC f1)), 9, fresh 1, sqe 2 1 0 0 1 0, .prp 0x1002 [0x2001] [], .prpOffset, by decide +kernel⟩

theorem witness_KeysAndXts_1 :
    (∃ (slot : Nat) (ty : Nat) (len : Nat) (usage : Nat), slot < 1024 ∧ ty < 16 ∧ len < 4 ∧ usage < 256) ∧
    (∃ (s : State) (slot : Nat) (handle : Nat) (k : KeySlot) (a : Nat), 3 ≤ slot ∧ slot ≤ 511 ∧ handle ≤ 16383 ∧ pget s.chip.keys slot = some k ∧ a = s.chip.recAddr handle ∧ (∀ (e : Nat × Ctx), e ∈ s.chip.intake.tags → e.snd.st ≠ TagState.firmware)) ∧
    (∃ (s : State) (slot : Nat), pget s.chip.keys slot = none ∧ slot < 1024) ∧
    (∃ (s : State) (slot : Nat) (handle : Nat), 3 ≤ slot ∧ slot ≤ 511 ∧ handle ≤ 16383 ∧ unwrapRecord s handle = none) ∧
    (∃ (s : State) (handle : Nat) (ty : Nat) (usage : Nat) (a : Nat), handle ≤ 16383 ∧ 1 ≤ ty ∧ ty ≤ 3 ∧ usageOk usage false = true ∧ a = s.chip.recAddr handle) ∧
    (∃ (s : State) (nsid : Nat) (handle : Nat), 1 ≤ nsid ∧ nsid ≤ 8192 ∧ handle < 16384 ∧ s.chip.attached nsid = []) :=
  ⟨⟨2, 1, 3, 16, by decide +kernel⟩,
   ⟨on kc, 511, 16383, ⟨2, 1, 16, 0, List.replicate 64 7⟩, 3 * 4096 + 128 * 16383, by decide +kernel⟩,
   ⟨on kc, 3, by decide +kernel⟩,
   ⟨on kc, 3, 77, by decide +kernel⟩,
   ⟨on kc, 16383, 1, 1, 3 * 4096 + 128 * 16383, by decide +kernel⟩,
   ⟨on kc, 8192, 16383, by decide +kernel⟩⟩

theorem witness_KeysAndXts_2 :
    (∃ (s : State) (nsid : Nat) (handle : Nat), 1 ≤ nsid ∧ nsid ≤ 8192 ∧ handle < 16384 ∧ s.chip.attached nsid ≠ []) ∧
    (∃ (s : State) (nsid : Nat) (handle : Nat), handle = s.chip.fld F.XTS_NSCFG_HANDLE (nsid - 1) ∧ (s.chip.xtsOn nsid = false ∨ ∃ k, k ∈ s.chip.xts ∧ k.nsid = nsid)) ∧
    (∃ (s : State) (nsid : Nat) (handle : Nat), handle = s.chip.fld F.XTS_NSCFG_HANDLE (nsid - 1) ∧ s.chip.xtsOn nsid = true ∧ (∀ (k : XtsSlot), k ∈ s.chip.xts → k.nsid ≠ nsid) ∧ (∀ (e : Nat × Ctx), e ∈ s.chip.intake.tags → e.snd.keyWait = true → e.snd.nsid ≠ nsid) ∧ unwrapRecord s handle = none) :=
  ⟨⟨on ((base.modFn 0 fun r => {r with nsids := [8192]})), 8192, 16383, by decide +kernel⟩,
   ⟨s1, 1, 0, by decide +kernel⟩,
   ⟨on ((base.setFld F.XTS_NSCFG_EN 1 0).setFld F.XTS_NSCFG_HANDLE 9 0), 1, 9, by decide +kernel⟩⟩

theorem witness_DecodersReport :
    (∃ (s : State) (i : Nat) (page : Nat) (r : Rd) (d : DecodeRes) (e : Nat × Nat), miscorrected r d.bytes = false ∧ s.chip.rd i = some r ∧ r.for_ = RdFor.patrol page ∧ r.await = true ∧ r.op = none ∧ r.parts = [] ∧ r.place = none ∧ s.chip.wr = [] ∧ pget s.chip.m.patrol.open_ page = some e ∧ e.snd < 3 ∧ s.chip.flag F.LDPC_CTL_HINT_EN = false ∧ d.ok = true ∧ r.level = 0 ∧ d.bits < max 1 (s.chip.fld F.LDPC_THR_REFRESH_BITS)) ∧
    (∃ (s : State) (i : Nat) (page : Nat) (r : Rd) (d : DecodeRes) (e : Nat × Nat), miscorrected r d.bytes = false ∧ s.chip.rd i = some r ∧ r.for_ = RdFor.patrol page ∧ r.await = true ∧ r.op = none ∧ r.parts = [] ∧ r.place = none ∧ s.chip.wr = [] ∧ pget s.chip.m.patrol.open_ page = some e ∧ e.snd < 3 ∧ s.chip.flag F.LDPC_CTL_HINT_EN = false ∧ d.ok = true ∧ 3 ≤ r.level ∧ pget s.chip.m.marks r.key = none ∧ (pget s.chip.ev.queues srcLdpc).getD [] = []) ∧
    (∃ (s : State) (i : Nat) (page : Nat) (r : Rd) (d : DecodeRes) (e : Nat × Nat), s.chip.rd i = some r ∧ r.for_ = RdFor.patrol page ∧ r.await = true ∧ r.op = none ∧ r.parts = [] ∧ r.place = none ∧ s.chip.wr = [] ∧ pget s.chip.m.patrol.open_ page = some e ∧ e.snd < 3 ∧ s.chip.flag F.LDPC_CTL_HINT_EN = false ∧ d.ok = false ∧ r.level = 0 ∧ r.cls = Cls.b ∧ 2 ≤ s.chip.fld F.LDPC_ESC_B_MAX ∧ (s.chip.die r.at_.die).st = DieState.read) :=
  ⟨⟨dec0 dr0, 3, 4, dr0, okC, (2, 1), okC_checked _ rfl, by decide +kernel⟩,
   ⟨dec0 {dr0 with level := 3}, 3, 4, {dr0 with level := 3}, okC, (2, 1), okC_checked _ rfl, by decide +kernel⟩,
   ⟨on ((dec0 dr0).chip.modDie 130 fun d => { d with st := .read }), 3, 4, dr0, ⟨false, 0, 9, []⟩, (2, 1), by decide +kernel⟩⟩

theorem witness_DramUpkeep_1 :
    (∃ (s : State) (ch : Nat) (d : Drc), ChannelIdle s.chip ch ∧ d = s.chip.drc ch ∧ s.chip.drcStopped ch = false ∧ s.chip.z.ledger.pfCommit = false ∧ d.round = false) ∧
    (∃ (s : State) (ch : Nat) (d : Drc), ChannelIdle s.chip ch ∧ d = s.chip.drc ch ∧ s.chip.drcStopped ch = false ∧ s.chip.z.ledger.pfCommit = false ∧ d.round = true ∧ d.window = none) ∧
    (∃ (s : State) (ch : Nat) (d : Drc) (n : Nat) (w : Nat), ChannelIdle s.chip ch ∧ d = s.chip.drc ch ∧ s.chip.drcStopped ch = false ∧ s.chip.z.ledger.pfCommit = false ∧ d.round = true ∧ n = s.chip.fld F.DRC_TRAIN_WINDOWS ch + 1 ∧ n < 256 ∧ d.window = some w ∧ d.opSince = none) ∧
    (∃ (s : State) (ch : Nat) (d : Drc) (target : Nat) (ns : Nat), ChannelIdle s.chip ch ∧ ns = (Config.freeValue s.chip.fresh).toNat % 2801 ∧ d = s.chip.drc ch ∧ s.chip.drcStopped ch = false ∧ s.chip.z.ledger.pfCommit = false ∧ target < 2 ∧ s.chip.flag F.DRC_OP_BUSY ch = false ∧ d.window = none) ∧
    (∃ (s : State) (ch : Nat) (d : Drc) (target : Nat) (w : Nat), ChannelIdle s.chip ch ∧ d = s.chip.drc ch ∧ s.chip.drcStopped ch = false ∧ s.chip.z.ledger.pfCommit = false ∧ target < 2 ∧ s.chip.flag F.DRC_OP_BUSY ch = false ∧ d.window = some w) ∧
    (∃ (s : State) (ch : Nat) (d : Drc) (total : Nat), ChannelIdle s.chip ch ∧ d = s.chip.drc ch ∧ s.chip.drcStopped ch = false ∧ s.chip.z.ledger.pfCommit = false ∧ total = s.chip.fld F.DRC_GEOM_CAP_GIB ch * 2 ^ 24 ∧ s.chip.poison = [] ∧ 0 < d.scrub ∧ d.scrub + 1 < total) :=
  ⟨⟨DS D dC, 3, D, ⟨by decide +kernel, by decide +kernel, by decide +kernel, by decide +kernel⟩, by decide +kernel⟩,
   ⟨DS Dr dC, 3, Dr, ⟨by decide +kernel, by decide +kernel, by decide +kernel, by decide +kernel⟩, by decide +kernel⟩,
   ⟨DS Dw dC, 3, Dw, 1, 1200, ⟨by decide +kernel, by decide +kernel, by decide +kernel, by decide +kernel⟩, by decide +kernel⟩,
   ⟨DS D dC, 3, D, 1, (Config.freeValue (DS D dC).chip.fresh).toNat % 2801, ⟨by decide +kernel, by decide +kernel, by decide +kernel, by decide +kernel⟩, rfl, by decide +kernel⟩,
   ⟨DS Dw dC, 3, Dw, 1, 1200, ⟨by decide +kernel, by decide +kernel, by decide +kernel, by decide +kernel⟩, by decide +kernel⟩,
   ⟨DS D dC, 3, D, 64 * 2 ^ 24, ⟨by decide +kernel, by decide +kernel, by decide +kernel, by decide +kernel⟩, by decide +kernel⟩⟩

theorem witness_DramUpkeep_2 :
    (∃ (s : State) (ch : Nat) (d : Drc) (total : Nat), ChannelIdle s.chip ch ∧ d = s.chip.drc ch ∧ s.chip.drcStopped ch = false ∧ s.chip.z.ledger.pfCommit = false ∧ total = s.chip.fld F.DRC_GEOM_CAP_GIB ch * 2 ^ 24 ∧ s.chip.poison = [] ∧ 0 < d.scrub ∧ 0 < total ∧ total ≤ d.scrub + 1) ∧
    (∃ (s : State) (ch : Nat) (d : Drc) (a : Nat) (i : Instr), ChannelIdle s.chip ch ∧ d = s.chip.drc ch ∧ s.chip.drcStopped ch = false ∧ s.chip.z.ledger.pfCommit = false ∧ s.chip.flag F.DRC_RETCMD_BUSY ch = false ∧ a < 2 ^ 40 ∧ (s.chip.dramBytes ≤ a ∨ chanOf a ≠ ch) ∧ i ∈ [Instr.retirePage ch a, Instr.retireBank ch a]) ∧
    (∃ (s : State) (ch : Nat) (d : Drc) (a : Nat), ChannelIdle s.chip ch ∧ d = s.chip.drc ch ∧ s.chip.drcStopped ch = false ∧ s.chip.z.ledger.pfCommit = false ∧ s.chip.flag F.DRC_RETCMD_BUSY ch = false ∧ a < 2 ^ 40 ∧ a < s.chip.dramBytes ∧ chanOf a = ch ∧ d.bank = none ∧ d.spares = [] ∧ d.badSpares = [] ∧ (∀ (i : Nat), i < 64 → s.chip.fld F.DRC_REMAP_STATE (ch * 64 + i) = 0) ∧ s.chip.spareOk ch = false) ∧
    (∃ (s : State) (ch : Nat) (d : Drc) (a : Nat), ChannelIdle s.chip ch ∧ d = s.chip.drc ch ∧ s.chip.drcStopped ch = false ∧ s.chip.z.ledger.pfCommit = false ∧ s.chip.flag F.DRC_RETCMD_BUSY ch = false ∧ a < 2 ^ 40 ∧ a < s.chip.dramBytes ∧ chanOf a = ch ∧ d.bank = none ∧ d.spares = [] ∧ d.badSpares = [] ∧ (∀ (i : Nat), i < 64 → s.chip.fld F.DRC_REMAP_STATE (ch * 64 + i) = 0) ∧ s.chip.spareOk ch = true ∧ 2 ≤ s.chip.fld F.DRC_RET_BANK_PAGES ch) ∧
    (∃ (s : State) (ch : Nat) (d : Drc) (a : Nat) (b : Nat), ChannelIdle s.chip ch ∧ d = s.chip.drc ch ∧ s.chip.drcStopped ch = false ∧ s.chip.z.ledger.pfCommit = false ∧ s.chip.flag F.DRC_RETCMD_BUSY ch = false ∧ a < 2 ^ 40 ∧ a < s.chip.dramBytes ∧ chanOf a = ch ∧ d.bank = none ∧ d.spares = [] ∧ d.badSpares = [] ∧ (∀ (i : Nat), i < 64 → s.chip.fld F.DRC_REMAP_STATE (ch * 64 + i) = 0) ∧ b = s.chip.bankOfAddr ch a ∧ s.chip.spareOk ch = true ∧ s.chip.flag F.DRC_RET_BANK_SPARE_EN ch = true ∧ s.chip.fld F.DRC_RET_BANK_STATE ch = 0) ∧
    (∃ (s : State) (ch : Nat) (d : Drc) (a : Nat) (b : Nat), ChannelIdle s.chip ch ∧ d = s.chip.drc ch ∧ s.chip.drcStopped ch = false ∧ s.chip.z.ledger.pfCommit = false ∧ s.chip.flag F.DRC_RETCMD_BUSY ch = false ∧ a < 2 ^ 40 ∧ a < s.chip.dramBytes ∧ chanOf a = ch ∧ d.bank = none ∧ d.spares = [] ∧ d.badSpares = [] ∧ (∀ (i : Nat), i < 64 → s.chip.fld F.DRC_REMAP_STATE (ch * 64 + i) = 0) ∧ b = s.chip.bankOfAddr ch a ∧ s.chip.flag F.DRC_RET_BANK_SPARE_EN ch = false) :=
  ⟨⟨DS {D with scrub := 64 * 2 ^ 24 - 1} dC, 3, {D with scrub := 64 * 2 ^ 24 - 1}, 64 * 2 ^ 24, ⟨by decide +kernel, by decide +kernel, by decide +kernel, by decide +kernel⟩, by decide +kernel⟩,
   ⟨DS D dC, 3, D, 2 ^ 40 - 1, .retirePage 3 (2 ^ 40 - 1), ⟨by decide +kernel, by decide +kernel, by decide +kernel, by decide +kernel⟩, by decide +kernel⟩,
   ⟨DS D dC, 3, D, a3, ⟨by decide +kernel, by decide +kernel, by decide +kernel, by decide +kernel⟩, by decide +kernel⟩,
   ⟨DS D sC, 3, D, a3, ⟨by decide +kernel, by decide +kernel, by decide +kernel, by decide +kernel⟩, by decide +kernel⟩,
   ⟨DS D (sC.setFld F.DRC_RET_BANK_SPARE_EN 1 3), 3, D, a3, sC.bankOfAddr 3 a3, ⟨by decide +kernel, by decide +kernel, by decide +kernel, by decide +kernel⟩, by decide +kernel⟩,
   ⟨DS D (sC.setFld F.DRC_RET_BANK_SPARE_EN 0 3), 3, D, a3, sC.bankOfAddr 3 a3, ⟨by decide +kernel, by decide +kernel, by decide +kernel, by decide +kernel⟩, by decide +kernel⟩⟩

theorem witness_DramUpkeep_3 :
    (∃ (s : State) (ch : Nat) (d : Drc) (b : Nat) (p : Nat), ChannelIdle s.chip ch ∧ d = s.chip.drc ch ∧ s.chip.drcStopped ch = false ∧ s.chip.z.ledger.pfCommit = false ∧ d.bank = some (b, p) ∧ s.chip.fld F.DRC_RET_BANK_STATE ch = 1) ∧
    (∃ (s : State) (ch : Nat) (d : Drc), ChannelIdle s.chip ch ∧ d = s.chip.drc ch ∧ s.chip.drcStopped ch = false ∧ s.chip.z.ledger.pfCommit = false ∧ s.chip.flag F.DRC_SPARE_LOCK = true) ∧
    (∃ (s : State) (ch : Nat) (d : Drc), ChannelIdle s.chip ch ∧ d = s.chip.drc ch ∧ s.chip.drcStopped ch = false ∧ s.chip.z.ledger.pfCommit = false ∧ s.chip.flag F.DRC_SPARE_LOCK = false ∧ (∀ (k : Nat), k < 8 → (s.chip.drc k).pendBank = none) ∧ (∀ (k : Nat), k < 512 → s.chip.fld F.DRC_REMAP_STATE k ≠ 2)) :=
  ⟨⟨DS Db ((sC.setFld F.DRC_RET_BANK_STATE 1 3).setFld F.DRC_RETCMD_BUSY 1 3), 3, Db, 70, 12, ⟨by decide +kernel, by decide +kernel, by decide +kernel, by decide +kernel⟩, by decide +kernel⟩,
   ⟨DS D sC, 3, D, ⟨by decide +kernel, by decide +kernel, by decide +kernel, by decide +kernel⟩, by decide +kernel⟩,
   ⟨DS D dC, 3, D, ⟨by decide +kernel, by decide +kernel, by decide +kernel, by decide +kernel⟩, by decide +kernel⟩⟩

theorem witness_TemperaturesAndFan_1 :
    (∃ (s : State) (p : Nat), p < 36 ∧ (s.chip.link p).timers = true) ∧
    (∃ (s : State) (p : Nat), (s.chip.link p).timers = false) ∧
    (∃ (values : List Int), values.length = 8) ∧
    (∃ (s : State) (mv : List Nat) (u : Supply), mv.length = 7 ∧ (u = have __src := s.chip.supply; { porLow := __src.porLow, mainPg := __src.mainPg, resChg := __src.resChg, held := __src.held, holdFrom := __src.holdFrom, cycle := __src.cycle, code := __src.code, windowAt := __src.windowAt, crossed := __src.crossed, posted := __src.posted, commits := __src.commits, ridden := __src.ridden, chgFrom := __src.chgFrom, test := __src.test, lowered := __src.lowered, owed := __src.owed, overdue := __src.overdue, nextTest := __src.nextTest, fanAt := __src.fanAt, autoDuty := __src.autoDuty, samples := __src.samples, tripping := __src.tripping, diff25 := __src.diff25, diff30 := __src.diff30, islands := List.map (fun x => (x.snd, x.fst)) mv.zipIdx, apart := __src.apart, clamp := __src.clamp, sampleAt := __src.sampleAt, islandAt := max s.chip.now (s.chip.supply.islandAt + us 10), energyAt := __src.energyAt, smart := __src.smart }) ∧ s.chip.supply.clamp = none) ∧
    (∃ (s : State) (a : Nat) (b : Nat) (t0 : Nat), s.chip.supplied ∧ s.chip.supply.clamp = some (a, b, t0) ∧ s.chip.supply.islandDiff (a, b) > 120) ∧
    (∃ (s : State) (a : Nat) (b : Nat) (t0 : Nat), s.chip.supply.clamp = some (a, b, t0) ∧ s.chip.supply.islandDiff (a, b) ≤ 120) :=
  ⟨⟨A {L0 with timers := true}, 35, by decide +kernel⟩,
   ⟨s1, 35, by decide +kernel⟩,
   ⟨[600, 601, -160, -161, 0, 1, 2, 3], by decide +kernel⟩,
   ⟨on (base.modSup fun u => { u with apart := [(0, 1)] }), [1000, 900, 879, 870, 860, 850, 840], { base.supply with apart := [(0, 1)], islandAt := us 10, islands := [1000, 900, 879, 870, 860, 850, 840].zipIdx.map fun (x : Nat × Nat) => (x.2, x.1) }, by decide +kernel⟩,
   ⟨on (base.modSup fun u => { u with clamp := some (0, 1, 50), islands := [(0, 1000), (1, 800)] }), 0, 1, 50, by unfold Chip.supplied; decide +kernel, by decide +kernel⟩,
   ⟨on (base.modSup fun u => { u with clamp := some (0, 1, 50), islands := [(0, 1000), (1, 880)] }), 0, 1, 50, by decide +kernel⟩⟩

theorem witness_TemperaturesAndFan_2 :
    (∃ (s : State), s.chip.supply.clamp = none) :=
  ⟨s1, by decide +kernel⟩

theorem witness_CoreAccessReachesOrFaults :
    (∃ (s : State) (q : CoreReq), q.core < 16 ∧ 0 < q.width ∧ q.within 1099511627776 268435456 = true ∧ s.chip.domOn (domSb ((q.addr - 1099511627776) / 2 ^ 25)) = true ∧ s.chip.domOn (domSb ((q.addr + q.width - 1 - 1099511627776) / 2 ^ 25)) = true) ∧
    (∃ (q : CoreReq) (a : Nat), q.core < 16 ∧ 0 < q.width ∧ q.within 962072674304 2097152 = true ∧ q.tcm = none ∧ a = 966367641600 + q.core * 2097152 + (q.addr - 962072674304)) ∧
    (∃ (q : CoreReq), q.core < 16 ∧ 0 < q.width ∧ 1095216922624 ≤ q.addr ∧ q.addr + q.width ≤ 1099511627776) ∧
    (∃ (q : CoreReq) (d : Nat), q.core < 16 ∧ 0 < q.width ∧ q.within 1030792151040 52428800 = true ∧ blockDomain q.addr = some d ∧ (q.width ≠ 4 ∧ q.width ≠ 8 ∨ q.addr % q.width ≠ 0)) ∧
    (∃ (s : State) (q : CoreReq) (d : Nat), q.core < 16 ∧ 0 < q.width ∧ q.within 1030792151040 52428800 = true ∧ blockDomain q.addr = some d ∧ q.width = 8 ∧ q.addr % 8 = 0 ∧ blockPort q.addr = none ∧ s.chip.domOn d = false) ∧
    (∃ (s : State) (q : CoreReq), q.core < 16 ∧ 0 < q.width ∧ q.within 1099511627776 268435456 = true ∧ s.chip.domOn (domSb ((q.addr - 1099511627776) / 2 ^ 25)) = false) :=
  ⟨⟨s1, srm, by decide +kernel⟩,
   ⟨tcm, 966401196030, by decide +kernel⟩,
   ⟨⟨3, .load, 0xFF00040000, 8, 0, [], [], none, [], 0⟩, by decide +kernel⟩,
   ⟨⟨3, .store, 0xF000200001, 8, 0, [], [], none, [], 0⟩, 1, by decide +kernel⟩,
   ⟨on (base.setFld F.PWR_DOM_STATE 1 31), ⟨3, .store, 0xF001900000, 8, 0, [], [], none, [], 0⟩, 31, by decide +kernel⟩,
   ⟨on (base.setFld F.PWR_DOM_STATE 1 30), ⟨3, .store, 0x1000E000000, 8, 0, [], [], none, [], 0⟩, by decide +kernel⟩⟩

theorem witness_DramChannels_1 :
    (∃ (s : State) (ch : Nat) (q : DramReq) (b : List Byte), ChannelIdle s.chip ch ∧ s.chip.drcStopped ch = false ∧ (s.chip.drc ch).window = none ∧ s.chip.flag F.DRC_PAR_FAILED ch = false ∧ s.chip.poison = [] ∧ q.ce = [] ∧ q.ue = [] ∧ 0 < q.len ∧ q.addr / 8192 = (q.addr + q.len - 1) / 8192 ∧ chanOf q.addr = ch ∧ q.addr + q.len ≤ s.chip.dramBytes ∧ sbRange q.addr q.len = false ∧ q.data = some b) ∧
    (∃ (s : State) (ch : Nat) (q : DramReq) (n : Nat), ChannelIdle s.chip ch ∧ s.chip.drcStopped ch = false ∧ (s.chip.drc ch).window = none ∧ s.chip.flag F.DRC_PAR_FAILED ch = false ∧ s.chip.poison = [] ∧ q.ce = [] ∧ q.ue = [] ∧ 0 < q.len ∧ q.addr / 8192 = (q.addr + q.len - 1) / 8192 ∧ chanOf q.addr = ch ∧ q.addr + q.len ≤ s.chip.dramBytes ∧ sbRange q.addr q.len = false ∧ q.data = none ∧ q.master = DramMaster.core n) ∧
    (∃ (s : State) (ch : Nat) (q : DramReq) (n : Nat), ChannelIdle s.chip ch ∧ s.chip.dramBytes < q.addr + q.len ∧ sbRange q.addr q.len = false ∧ n < 16 ∧ q.master = DramMaster.core n) ∧
    (∃ (s : State) (ch : Nat) (q : DramReq), ChannelIdle s.chip ch ∧ s.chip.dramBytes < q.addr + q.len ∧ sbRange q.addr q.len = false ∧ q.master = DramMaster.keyTable) ∧
    (∃ (s : State) (ch : Nat) (rank : Nat) (sub : Nat) (set : Nat) (k : Nat), ChannelIdle s.chip ch ∧ k = (rank * 2 + sub % 2) * 4 + set % 4 ∧ s.chip.domOn (domDc ch) = true ∧ s.chip.drcStopped ch = false) ∧
    (∃ (s : State) (ch : Nat) (rank : Nat) (sub : Nat) (set : Nat) (k : Nat), ChannelIdle s.chip ch ∧ k = (rank * 2 + sub % 2) * 4 + set % 4 ∧ s.chip.domOn (domDc ch) = true ∧ s.chip.drcStopped ch = true) :=
  ⟨⟨on dC, chanOf 0x12345600, dq (.flush 3) 0x12345600 16 (some [1#8, 2#8]), [1#8, 2#8], ⟨by decide +kernel, by decide +kernel, by decide +kernel, by decide +kernel⟩, by decide +kernel⟩,
   ⟨on dC, chanOf 0x12345600, dq (.core 3) 0x12345600 16 none, 3, ⟨by decide +kernel, by decide +kernel, by decide +kernel, by decide +kernel⟩, by decide +kernel⟩,
   ⟨on dC, 0, dq (.core 3) 0x7FFFFFFFF8 16 none, 3, ⟨by decide +kernel, by decide +kernel, by decide +kernel, by decide +kernel⟩, by decide +kernel⟩,
   ⟨on dC, 0, dq .keyTable 0x7FFFFFFFF8 16 none, ⟨by decide +kernel, by decide +kernel, by decide +kernel, by decide +kernel⟩, by decide +kernel⟩,
   ⟨on dC, 7, 1, 1, 3, 15, ⟨by decide +kernel, by decide +kernel, by decide +kernel, by decide +kernel⟩, by decide +kernel⟩,
   ⟨on dsus, 7, 1, 1, 3, 15, ⟨by decide +kernel, by decide +kernel, by decide +kernel, by decide +kernel⟩, by decide +kernel⟩⟩

theorem witness_DramChannels_2 :
    (∃ (s : State) (ch : Nat) (bank : Nat) (r : Nat) (t0 : Nat), ChannelIdle s.chip ch ∧ pget (s.chip.drc ch).rows bank = some (r, t0)) ∧
    (∃ (s : State) (ch : Nat) (bank : Nat), ChannelIdle s.chip ch ∧ pget (s.chip.drc ch).rows bank = none) ∧
    (∃ (s : State) (ch : Nat) (b : Nat), ChannelIdle s.chip ch ∧ (s.chip.drc ch).alert = false ∧ s.chip.domOn (domDc ch) = true ∧ s.chip.flag F.DRC_PAR_FAILED ch = false ∧ (b = if s.chip.now < (s.chip.drc ch).replayTo then (s.chip.drc ch).broken + 1 else 0) ∧ b < 3) ∧
    (∃ (s : State) (ch : Nat) (b : Nat), ChannelIdle s.chip ch ∧ s.chip.supplied ∧ (s.chip.drc ch).alert = false ∧ s.chip.domOn (domDc ch) = true ∧ s.chip.flag F.DRC_PAR_FAILED ch = false ∧ (b = if s.chip.now < (s.chip.drc ch).replayTo then (s.chip.drc ch).broken + 1 else 0) ∧ 3 ≤ b) ∧
    (∃ (s : State) (ch : Nat), ChannelIdle s.chip ch ∧ (s.chip.drc ch).alert = true) :=
  ⟨⟨on rowsC, 7, 5, 77, 90, ⟨by decide +kernel, by decide +kernel, by decide +kernel, by decide +kernel⟩, by decide +kernel⟩,
   ⟨on rowsC, 7, 6, ⟨by decide +kernel, by decide +kernel, by decide +kernel, by decide +kernel⟩, by decide +kernel⟩,
   ⟨on rowsC, 7, 2, ⟨by decide +kernel, by decide +kernel, by decide +kernel, by decide +kernel⟩, by decide +kernel⟩,
   ⟨on {rowsC with drcs := [(7, { drcReset with replayTo := 700, broken := 2 })]}, 7, 3, ⟨by decide +kernel, by decide +kernel, by decide +kernel, by decide +kernel⟩, by unfold Chip.supplied; decide +kernel, by decide +kernel⟩,
   ⟨on {rowsC with drcs := [(7, { drcReset with alert := true, rows := [(5, (77, 90))], issued := [5, 400, 800, 300], replayTo := 700, broken := 2 })]}, 7, ⟨by decide +kernel, by decide +kernel, by decide +kernel, by decide +kernel⟩, by decide +kernel⟩⟩

theorem witness_BridgesAnswer_1 :
    (∃ (s : State) (p : Nat) (l : Link) (tag : Nat) (f : BFrame) (i : Nat) (o : Op) (cycles : Nat), p < 36 ∧ l = s.chip.link p ∧ s.chip.wr = [] ∧ (List.find? (fun f => f.tag == tag && f.ftype == 1) l.frames = some f) ∧ (List.find? (fun x => x.tag == tag) l.frames = some f) ∧ f.op = some i ∧ s.chip.op i = some o ∧ o.rt = Routine.read ∧ f.kind = FrameKind.sense ∧ cycles ≠ 0 ∧ l.sendQ = []) ∧
    (∃ (s : State) (p : Nat) (l : Link) (tag : Nat) (f : BFrame) (i : Nat) (o : Op), p < 36 ∧ l = s.chip.link p ∧ s.chip.wr = [] ∧ (List.find? (fun f => f.tag == tag && f.ftype == 1) l.frames = some f) ∧ (List.find? (fun x => x.tag == tag) l.frames = some f) ∧ f.op = some i ∧ s.chip.op i = some o ∧ o.rt = Routine.read) ∧
    (∃ (s : State) (p : Nat) (l : Link) (tag : Nat) (f : BFrame) (i : Nat) (o : Op) (desc : Nat) (flags : Nat) (a : Nat), p < 36 ∧ l = s.chip.link p ∧ s.chip.wr = [] ∧ (List.find? (fun f => f.tag == tag && (f.ftype == 3 || f.ftype == 4)) l.frames = some f) ∧ (List.find? (fun x => x.tag == tag) l.frames = some f) ∧ f.op = some i ∧ s.chip.op i = some o ∧ o.rt = Routine.bridgeReg ∧ o.param = 0 ∧ o.purpose = Purpose.firmware p desc flags ∧ memberOf o.die = p ∧ bitOf flags 0 = false ∧ l.sendQ = [] ∧ s.chip.z.ledger.opQ = [] ∧ s.chip.z.ledger.commitQ = [] ∧ s.chip.m.sluice.q1 = [] ∧ s.chip.m.sluice.qb = [] ∧ (s.chip.die o.die).queue = [] ∧ (s.chip.die o.die).susp = none ∧ a = s.chip.fld F.SEQ_FCQ_BASE p * 4096 + 32 * s.chip.fld F.SEQ_FCQ_PTR_TAIL p) ∧
    (∃ (s : State) (p : Nat) (l : Link) (status : Nat), p < 36 ∧ l = s.chip.link p ∧ s.chip.wr = [] ∧ s.chip.linkActive p = true ∧ bitOf status 10 = false) ∧
    (∃ (s : State) (p : Nat) (l : Link), p < 36 ∧ l = s.chip.link p ∧ s.chip.wr = [] ∧ s.chip.linkActive p = true ∧ l.timers = true ∧ l.parking = false ∧ l.sendQ = [] ∧ l.held.length + 1 ≤ 512) ∧
    (∃ (s : State) (p : Nat) (l : Link), p < 36 ∧ l = s.chip.link p ∧ s.chip.wr = [] ∧ l.timers = true ∧ s.chip.linkState p ≠ 7) :=
  ⟨⟨on (ops [(4, rdOp)] (A (brL .sense)).chip), 35, brL .sense, 9, fr .sense, 4, rdOp, 3, by decide +kernel⟩,
   ⟨on (ops [(4, rdOp)] (A (brL .out)).chip), 35, brL .out, 9, fr .out, 4, rdOp, by decide +kernel⟩,
   ⟨on (((ops [(4, rgOp)] (A brR).chip).setFld F.SEQ_FCQ_BASE 5 35).setFld F.SEQ_FCQ_PTR_TAIL 2 35), 35, brR, 9, frR, 4, rgOp, 0x12345678, 2, 5 * 4096 + 64, by decide +kernel⟩,
   ⟨A L0, 35, L0, 0, by decide +kernel⟩,
   ⟨A {L0 with timers := true, hbOut := 0xFFFFFFFF}, 35, {L0 with timers := true, hbOut := 0xFFFFFFFF}, by decide +kernel⟩,
   ⟨A {L0 with timers := true}, 35, {L0 with timers := true}, by decide +kernel⟩⟩

theorem witness_BridgesAnswer_2 :
    (∃ (s : State) (p : Nat) (l : Link), p < 36 ∧ l = s.chip.link p ∧ s.chip.wr = [] ∧ l.timers = false) :=
  ⟨A L0, 35, L0, by decide +kernel⟩

theorem witness_ZonedWritesTakePositions :
    (∃ (s : State) (tag : Nat) (g : Nat) (first : Nat) (x : Ctx) (n : NsRec), StartsAlone s.chip tag x n ∧ n.zoned = true ∧ s.chip.gate x n true = none ∧ g = n.zoneOf (sqeSlba x.sqe) ∧ first = (g - n.zbase) * 524288 + (s.chip.zone g).wpOff ∧ (s.chip.zone g).st.isOpen = true ∧ s.chip.sealKeyOk x.nsid = true ∧ (∀ (b : Nat × Nat × Bool × Nat), b ∈ s.chip.z.bindQ → b.snd.fst ≠ g) ∧ x.inRange n = true ∧ s.chip.zoneCheck g (sqeSlba x.sqe % 524288) (sqeNlb x.sqe) false = none) ∧
    (∃ (s : State) (tag : Nat) (g : Nat) (first : Nat) (x : Ctx) (n : NsRec), StartsAlone s.chip tag x n ∧ n.zoned = true ∧ s.chip.gate x n true = none ∧ g = n.zoneOf (sqeSlba x.sqe) ∧ first = (g - n.zbase) * 524288 + (s.chip.zone g).wpOff ∧ (s.chip.zone g).st.isOpen = true ∧ s.chip.sealKeyOk x.nsid = true ∧ (∀ (b : Nat × Nat × Bool × Nat), b ∈ s.chip.z.bindQ → b.snd.fst ≠ g) ∧ sqeSlba x.sqe < n.size ∧ sqeSlba x.sqe % 524288 = 0 ∧ s.chip.zoneCheck g 0 (sqeNlb x.sqe) true = none) ∧
    (∃ (s : State) (tag : Nat) (g : Nat) (first : Nat) (x : Ctx) (n : NsRec), StartsAlone s.chip tag x n ∧ n.zoned = true ∧ s.chip.gate x n true = none ∧ g = n.zoneOf (sqeSlba x.sqe) ∧ first = (g - n.zbase) * 524288 + (s.chip.zone g).wpOff ∧ (s.chip.zone g).st.isOpen = true ∧ s.chip.sealKeyOk x.nsid = true ∧ (∀ (b : Nat × Nat × Bool × Nat), b ∈ s.chip.z.bindQ → b.snd.fst ≠ g) ∧ x.inRange n = true ∧ sqeSlba x.sqe % 524288 ≠ (s.chip.zone g).wpOff) :=
  ⟨⟨ZK zw (zo .zseo 16), 9, 1, 0x80010, io zw, nsZ, ⟨by unfold Chip.starts; decide +kernel, by decide +kernel, fun _ => rfl, by decide +kernel, by decide +kernel, by decide +kernel⟩, by decide +kernel⟩,
   ⟨ZK za (zo .zsio 0x5FFF8), 9, 1, 0xDFFF8, io za, nsZ, ⟨by unfold Chip.starts; decide +kernel, by decide +kernel, fun _ => rfl, by decide +kernel, by decide +kernel, by decide +kernel⟩, by decide +kernel⟩,
   ⟨ZK zw (zo .zseo 24), 9, 1, 0x80018, io zw, nsZ, ⟨by unfold Chip.starts; decide +kernel, by decide +kernel, fun _ => rfl, by decide +kernel, by decide +kernel, by decide +kernel⟩, by decide +kernel⟩⟩

theorem witness_LinkFlits_1 :
    (∃ (s : State) (p : Nat) (l : Link), p < 36 ∧ l = s.chip.link p ∧ s.chip.linkActive p = false) ∧
    (∃ (s : State) (p : Nat) (l : Link) (fs : List (Nat × Nat × Nat)), p < 36 ∧ l = s.chip.link p ∧ s.chip.linkActive p = true ∧ l.hist = [] ∧ l.resync = false ∧ (∀ (f : Nat × Nat × Nat), f ∈ fs → bframeOk f.fst f.snd.fst = true) ∧ l.unacked + 1 < 16) ∧
    (∃ (s : State) (p : Nat) (l : Link) (h : HeldFlit) (rest : List HeldFlit), p < 36 ∧ l = s.chip.link p ∧ s.chip.linkActive p = true ∧ l.hist = [] ∧ l.held = h :: rest ∧ l.sendQ = []) ∧
    (∃ (s : State) (p : Nat) (l : Link), p < 36 ∧ l = s.chip.link p ∧ s.chip.linkActive p = true ∧ l.hist = [] ∧ s.chip.flag F.BINOR_STAT_TX_X1 p = false) ∧
    (∃ (s : State) (p : Nat) (l : Link), p < 36 ∧ l = s.chip.link p ∧ s.chip.linkActive p = true ∧ 0 < l.unacked) ∧
    (∃ (s : State) (p : Nat) (l : Link), p < 36 ∧ l = s.chip.link p ∧ s.chip.linkActive p = true ∧ l.discarding = true) :=
  ⟨⟨on (lk 35 L0 2 base), 35, L0, by decide +kernel⟩,
   ⟨A L0, 35, L0, [], by decide +kernel⟩,
   ⟨A L0, 35, L0, ⟨5, 2, 90⟩, [⟨6, 0, 95⟩], by decide +kernel⟩,
   ⟨A L0, 35, L0, by decide +kernel⟩,
   ⟨A L0, 35, L0, by decide +kernel⟩,
   ⟨A {L0 with discarding := true}, 35, {L0 with discarding := true}, by decide +kernel⟩⟩

theorem witness_LinkFlits_2 :
    (∃ (s : State) (p : Nat) (l : Link) (h : HeldFlit) (rest : List HeldFlit), p < 36 ∧ l = s.chip.link p ∧ s.chip.linkActive p = true ∧ l.held = h :: rest ∧ h.replays + 1 < 8) ∧
    (∃ (s : State) (p : Nat) (l : Link), p < 36 ∧ l = s.chip.link p ∧ s.chip.linkActive p = true ∧ l.held ≠ []) ∧
    (∃ (s : State) (p : Nat) (l : Link), p < 36 ∧ l = s.chip.link p ∧ s.chip.linkActive p = true ∧ l.notice = none ∧ s.chip.flag F.BINOR_STAT_RX_X1 p = false) ∧
    (∃ (s : State) (p : Nat) (l : Link) (d : Nat) (lane : Nat), p < 36 ∧ l = s.chip.link p ∧ s.chip.linkActive p = true ∧ l.notice = some d ∧ lane % 2 ≠ d) ∧
    (∃ (s : State) (p : Nat) (l : Link), p < 36 ∧ l = s.chip.link p ∧ l.corr0 ≤ max 1 (s.chip.fld F.BINOR_CTL_FEC_THR p) ∧ l.corr1 ≤ max 1 (s.chip.fld F.BINOR_CTL_FEC_THR p)) :=
  ⟨⟨A L0, 35, L0, ⟨5, 2, 90⟩, [⟨6, 0, 95⟩], by decide +kernel⟩,
   ⟨A L0, 35, L0, by decide +kernel⟩,
   ⟨A L0, 35, L0, by decide +kernel⟩,
   ⟨A {L0 with notice := some 1}, 35, {L0 with notice := some 1}, 1, 0, by decide +kernel⟩,
   ⟨A L0, 35, L0, by decide +kernel⟩⟩

theorem witness_ControllersEnableAndShutDown :
    (∃ (s : State) (fn : Nat) (cc : Nat) (r : FnRec), r = s.chip.fn fn ∧ s.chip.fnExists fn = true ∧ bitOf cc 0 = true ∧ (r.resetAt.isSome = true ∨ r.en = true)) ∧
    (∃ (s : State) (fn : Nat) (cc : Nat) (r : FnRec), r = s.chip.fn fn ∧ s.chip.fnExists fn = true ∧ bitOf cc 0 = true ∧ r.resetAt = none ∧ r.en = false ∧ (r.fence.isSome = true ∨ r.mstate ≠ MState.active)) ∧
    (∃ (s : State) (fn : Nat) (cc : Nat) (r : FnRec), r = s.chip.fn fn ∧ s.chip.fnExists fn = true ∧ bitOf cc 0 = true ∧ r.resetAt = none ∧ r.en = false ∧ r.fence = none ∧ r.mstate = MState.active) ∧
    (∃ (s : State) (fn : Nat), s.chip.quiet fn ∧ s.chip.fnExists fn = true ∧ (s.chip.fn fn).en = true) ∧
    (∃ (s : State) (fn : Nat), (s.chip.fn fn).shst = 1 ∧ s.chip.drained fn = true ∧ s.chip.z.passSegs = [] ∧ ((List.any s.chip.z.segs fun e => e.snd.changed) = false)) :=
  ⟨⟨on (base.modFn 0 fun _ => {idle0 with cc := 1}), 0, 1, {idle0 with cc := 1}, by decide +kernel⟩,
   ⟨on (base.modFn 0 fun _ => {idle0 with fence := some 4}), 0, 1, {idle0 with fence := some 4}, by decide +kernel⟩,
   ⟨on (base.modFn 0 fun _ => idle0), 0, 0x460001, idle0, by decide +kernel⟩,
   ⟨on f1, 0, by unfold Chip.quiet; decide +kernel, by decide +kernel⟩,
   ⟨on (base.modFn 0 fun r => {r with shst := 1, cc := 0x4001, rdy := true, shutdown := true}), 0, by decide +kernel⟩⟩

theorem witness_Doorbells_1 :
    (∃ (s : State) (fn : Nat), s.chip.fnExists fn = true ∧ (s.chip.fn fn).fence.isSome = true) ∧
    (∃ (s : State) (fn : Nat) (qid : Nat) (v : Nat) (q : SqRec), s.chip.fnExists fn = true ∧ (s.chip.fn fn).fence = none ∧ s.chip.domOn domMx = true ∧ pget (s.chip.fn fn).sqs qid = some q ∧ v < q.size) ∧
    (∃ (s : State) (fn : Nat) (qid : Nat) (v : Nat) (q : CqRec), s.chip.fnExists fn = true ∧ (s.chip.fn fn).fence = none ∧ s.chip.domOn domMx = true ∧ pget (s.chip.fn fn).cqs qid = some q ∧ v < q.size ∧ q.held = [] ∧ q.stalled = false) ∧
    (∃ (s : State) (fn : Nat) (qid : Nat) (v : Nat), s.chip.fnExists fn = true ∧ (s.chip.fn fn).fence = none ∧ s.chip.domOn domMx = true ∧ (∀ (q : SqRec), pget (s.chip.fn fn).sqs qid = some q → q.size ≤ v) ∧ (s.chip.fn fn).aers = []) ∧
    (∃ (s : State) (fn : Nat) (qid : Nat) (v : Nat), s.chip.fnExists fn = true ∧ (s.chip.fn fn).fence = none ∧ s.chip.domOn domMx = true ∧ (∀ (q : CqRec), pget (s.chip.fn fn).cqs qid = some q → q.size ≤ v) ∧ (s.chip.fn fn).aers = []) ∧
    (∃ (s : State) (pf : Nat), pf < 4 ∧ s.chip.flag F.BAR2_MBX_DB_TO_HOST pf = true) :=
  ⟨⟨on fenced, 0, by decide +kernel⟩,
   ⟨on (queues base), 0, 1, 15, ⟨0x20000, 16, 0, 0, 1, 0⟩, by decide +kernel⟩,
   ⟨on (queues base), 0, 1, 15, ⟨0x40000, 16, 0, 15, true, false, 1, [], false⟩, by decide +kernel⟩,
   ⟨on (queues base), 0, 1, 16, by decide +kernel⟩,
   ⟨on (queues base), 0, 9, 0, by decide +kernel⟩,
   ⟨on (base.setFld F.BAR2_MBX_DB_TO_HOST 1 3), 3, by decide +kernel⟩⟩

theorem witness_Doorbells_2 :
    (∃ (s : State) (pf : Nat), pf < 4 ∧ s.chip.flag F.BAR2_MBX_DB_TO_HOST pf = false ∧ (s.chip.fn (pf * 256)).silent = false) :=
  ⟨s1, 3, by decide +kernel⟩

theorem witness_SealsAndTheirCommands_1 :
    (∃ (s : State) (g : Nat) (u : Nat) (ch : SealChain), ch = (pget s.chip.z.chains g).getD chainReset ∧ s.chip.z.lanes.length < 48 ∧ s.chip.sealKeyOk (s.chip.zone g).nsid = true ∧ (s.chip.unitIn g u).isSome = true ∧ (¬(g, u) ∈ s.chip.z.lanes) ∧ ch.next ≤ u ∧ pget ch.hs u = none) ∧
    (∃ (s : State) (g : Nat) (u : Nat) (ch : SealChain), ch = (pget s.chip.z.chains g).getD chainReset ∧ (48 ≤ s.chip.z.lanes.length ∨ s.chip.unitIn g u = none)) ∧
    (∃ (s : State) (g : Nat) (u : Nat) (ch : SealChain) (b : List Byte) (h : List Byte), h = unitHash b ∧ ch = (pget s.chip.z.chains g).getD chainReset ∧ pget s.chip.z.sealJobs g = none ∧ (g, u) ∈ s.chip.z.lanes ∧ s.chip.unitIn g u = some b ∧ ch.next = u ∧ ch.hs = [] ∧ 0 < u ∧ (∀ (r : Nat × RowRec), r ∈ s.chip.z.rows → r.snd.zone ≠ some g) ∧ pget s.chip.z.zPairs g = none ∧ ((s.chip.zone g).st ≠ ZState.zsf ∨ (s.chip.zone g).wpOff ≠ u + 1)) ∧
    (∃ (s : State) (g : Nat) (u : Nat) (ch : SealChain) (b : List Byte) (h : List Byte), h = unitHash b ∧ ch = (pget s.chip.z.chains g).getD chainReset ∧ pget s.chip.z.sealJobs g = none ∧ (g, u) ∈ s.chip.z.lanes ∧ s.chip.unitIn g u = some b ∧ ch.next = u ∧ ch.hs = [] ∧ 0 < u ∧ (∀ (r : Nat × RowRec), r ∈ s.chip.z.rows → r.snd.zone ≠ some g) ∧ pget s.chip.z.zPairs g = none ∧ (s.chip.zone g).st = ZState.zsf ∧ (s.chip.zone g).wpOff = u + 1 ∧ s.chip.sealKeyOk (s.chip.zone g).nsid = true ∧ (s.chip.zone g).sealState ≤ 1 ∧ (s.chip.zone g).finishTag = none) ∧
    (∃ (s : State) (g : Nat) (ch : SealChain), ch = (pget s.chip.z.chains g).getD chainReset ∧ (¬g ∈ s.chip.z.rebuilds)) ∧
    (∃ (s : State) (g : Nat) (ch : SealChain), ch = (pget s.chip.z.chains g).getD chainReset ∧ g ∈ s.chip.z.rebuilds ∧ s.chip.sealKeyOk (s.chip.zone g).nsid = true ∧ pget s.chip.z.sealJobs g = none ∧ 0 < (s.chip.zone g).wpOff ∧ s.chip.lookZone (s.chip.zone g).nsid g 0 ≠ Source.lost) :=
  ⟨⟨on sealS, 1, 5, chainReset, by decide +kernel⟩,
   ⟨on sealS, 1, 3, chainReset, by decide +kernel⟩,
   ⟨on (laneS (zo .zsio 24)), 1, 4, ch4, [1#8], unitHash [1#8], rfl, by decide +kernel⟩,
   ⟨on (laneS (zo .zsf 5)), 1, 4, ch4, [1#8], unitHash [1#8], rfl, by decide +kernel⟩,
   ⟨s1, 1, chainReset, by decide +kernel⟩,
   ⟨on rbz, 1, chainReset, by decide +kernel⟩⟩

theorem witness_SealsAndTheirCommands_2 :
    (∃ (s : State) (tag : Nat) (x : Ctx) (n : NsRec) (first : Nat) (nz : Nat), s.chip.starts tag x ∧ s.chip.ns x.nsid = some n ∧ n.zoned = true ∧ first = x.dw 10 ∧ nz = bitsOf (x.dw 11) 15 0 ∧ bitsOf (x.dw 11) 19 16 = 0 ∧ 1 ≤ nz ∧ nz ≤ 1024 ∧ first + nz ≤ n.zoneCount) ∧
    (∃ (s : State) (tag : Nat) (x : Ctx) (n : NsRec) (first : Nat) (nz : Nat), s.chip.starts tag x ∧ s.chip.ns x.nsid = some n ∧ n.zoned = true ∧ first = x.dw 10 ∧ nz = bitsOf (x.dw 11) 15 0 ∧ (bitsOf (x.dw 11) 19 16 > 1 ∨ nz < 1 ∨ first + nz > n.zoneCount)) ∧
    (∃ (s : State) (tag : Nat) (x : Ctx) (n : NsRec) (ne : Nat), s.chip.starts tag x ∧ s.chip.ns x.nsid = some n ∧ n.zoned = true ∧ bitsOf (x.dw 10) 3 0 = 0 ∧ ne = bitsOf (x.dw 11) 15 0 ∧ (ne < 1 ∨ ne > 1024)) ∧
    (∃ (s : State) (tag : Nat) (x : Ctx) (n : NsRec) (ne : Nat) (data : List Byte), s.chip.starts tag x ∧ (∀ (i : Nat) (z : ZoneRec), i < ne → z = s.chip.zone (n.zoneOf (numAt data (64 * i) 8)) → numAt data (64 * i) 8 % 524288 = 0 ∧ numAt data (64 * i) 8 < n.size ∧ z.st = ZState.zsf ∧ 2 ≤ z.sealState ∧ z.sealState ≠ 4 ∧ z.wpOff = numAt data (64 * i + 8) 8 ∧ z.label = numAt data (64 * i + 48) 16 ∧ padTo 32 z.sealVal = padTo 32 (List.take 32 (List.drop (64 * i + 16) data))) ∧ s.chip.ns x.nsid = some n ∧ n.zoned = true ∧ bitsOf (x.dw 10) 3 0 = 0 ∧ ne = bitsOf (x.dw 11) 15 0 ∧ 1 ≤ ne ∧ ne ≤ 1024 ∧ s.chip.resvConflict x.fn x.nsid true = false) ∧
    (∃ (s : State) (tag : Nat) (x : Ctx) (n : NsRec), s.chip.starts tag x ∧ s.chip.ns x.nsid = some n ∧ bitsOf (x.dw 10) 3 0 = 1 ∧ n.zoned = false) ∧
    (∃ (s : State) (tag : Nat) (x : Ctx) (n : NsRec) (slot : Nat), s.chip.starts tag x ∧ (∀ (i : Nat), 64 ≤ i → i < slot → (pget s.chip.keys i).isSome = true) ∧ s.chip.ns x.nsid = some n ∧ bitsOf (x.dw 10) 3 0 = 1 ∧ n.zoned = true ∧ bitsOf (x.dw 11) 15 0 = 0 ∧ s.chip.resvConflict x.fn x.nsid true = false ∧ (∀ (z : Nat × ZoneRec), z ∈ s.chip.z.zones → z.snd.nsid = x.nsid → z.snd.st = ZState.zse) ∧ n.sealSlot < 64 ∧ 64 ≤ slot ∧ slot < 512 ∧ pget s.chip.keys slot = none) :=
  ⟨⟨on (tag 9 (sq 0 2) (nsd nsZ base)), 9, sq 0 2, nsZ, 0, 2, by unfold Chip.starts; decide +kernel, by decide +kernel⟩,
   ⟨on (tag 9 (sq 1 0) (nsd nsZ base)), 9, sq 1 0, nsZ, 1, 0, by unfold Chip.starts; decide +kernel, by decide +kernel⟩,
   ⟨on (tag 9 (sq 0 0) (nsd nsZ base)), 9, sq 0 0, nsZ, 0, by unfold Chip.starts; decide +kernel, by decide +kernel⟩,
   ⟨on (tag 9 (sq 0 1) (zone 1 sealedZ (nsd nsZ base))), 9, sq 0 1, nsZ, 1, imp, by unfold Chip.starts; decide +kernel, by intro i z hi hz; have e : i = 0 := (by omega); subst e; subst hz; decide +kernel, by decide +kernel⟩,
   ⟨on (tag 9 (sq 1 0) (nsd nsC base)), 9, sq 1 0, nsC, by unfold Chip.starts; decide +kernel, by decide +kernel⟩,
   ⟨on (tag 9 (sq 1 0) (zone 1 (zoneReset 1 1) (nsd nsZ base))), 9, sq 1 0, nsZ, 64, by unfold Chip.starts; decide +kernel, fun i a b => absurd (Nat.lt_of_le_of_lt a b) (by decide), by decide +kernel⟩⟩

end Sys2Proof.Tests
end

namespace Sys2Proof.Machine

/-! What reset leaves (R9). -/

/-- With no register listed, each reads its reset value. -/
theorem reg_of_regs_nil {c : Chip} (h : c.regs = []) (r : RegId) (i : Nat) : c.reg r i = regReset r i := by
  simp [Chip.reg, h]

/-- A field holds no more than its width. -/
theorem fld_mod_width (c : Chip) (f : Fld) (i : Nat) : c.fld f i % 2 ^ (f.hi + 1 - f.lo) = c.fld f i :=
  Nat.mod_eq_of_lt (bitsOf_lt _ _ _)

theorem regKey_ne_of_pair_ne {r r' : RegId} {i i' : Nat} (hi : i < 65536) (hi' : i' < 65536) (h : (r, i) ≠ (r', i')) :
    regKey r i ≠ regKey r' i' :=
  regKey_ne hi hi' (by rwa [Ne, Prod.mk.injEq, Classical.not_and_iff_not_or_not] at h)

/-- A POR leaves every register at its reset value but PWR_PINS, which follows the balls. -/
theorem reg_powerOnReset (c : Chip) {r : RegId} {i : Nat} (hi : i < 65536) (h : (r, i) ≠ (.pwrPins, 0)) :
    c.powerOnReset.reg r i = regReset r i := by
  unfold Chip.powerOnReset
  rw [reg_setFld_ne _ _ _ _ (regKey_ne_of_pair_ne hi (by decide) h)]
  exact reg_of_regs_nil rfl r i

theorem perst_powerOnReset (c : Chip) : c.powerOnReset.fld F.PWR_PINS_PERST_L = c.fld F.PWR_PINS_PERST_L := by
  unfold Chip.powerOnReset
  rw [fld_setFld_same _ _ _ _ (by decide) (by decide)]
  exact fld_mod_width c _ 0

/-- Settles O5: nothing is listed in the part after reset, so each register reads its reset value. -/
theorem resetState : Obligations.ResetState := by
  unfold Obligations.ResetState
  exact ⟨reset_memory, rfl, rfl, rfl, reg_of_regs_nil rfl, rfl, rfl, rfl, rfl⟩

/-- Settles O6: a POR builds the part anew with no register listed, and then only the field of the PERST_L balls is written. -/
theorem powerOnResetResetsAll : Obligations.PowerOnResetResetsAll := by
  unfold Obligations.PowerOnResetResetsAll
  intro s
  refine ⟨_, rfl, rfl, rfl, ?_, ?_, fun r i => reg_powerOnReset s.chip, perst_powerOnReset s.chip, ?_⟩
  all_goals simp [Chip.powerOnReset, chipPor, sysReset, supplyReset]

/-! Writes and reads of one register: the frame. -/

/-- The copies of every register have keys of their own. -/
theorem regCount_le (r : RegId) : regCount r ≤ 65536 := by
  cases r <;> decide

theorem only_setReg (s : State) (r : RegId) (i v : Nat) : Only [.regs] s { s with chip := s.chip.setReg r i v } := by
  refine ⟨⟨rfl, rfl⟩, fun p hp => ?_⟩
  cases p <;> simp [Area.same] at hp ⊢

theorem regsBut_setReg (s : State) (r : RegId) {i : Nat} (v : Nat) (hi : i < 65536) :
    RegsBut [(r, i)] s { s with chip := s.chip.setReg r i v } := fun _ _ hj hne =>
  reg_setReg_ne _ _ (regKey_ne_of_pair_ne hj hi (by simpa using hne))

/-- A write under R8 stores one register. -/
theorem writeFields_eq_setReg (c : Chip) (r : RegId) (i v mask : Nat) : ∃ w, c.writeFields r i v mask = c.setReg r i w := ⟨_, rfl⟩

/-- A read under R8 stores one register, and returns what it reads as. -/
theorem readClear_eq_setReg (c : Chip) (r : RegId) (i mask : Nat) : ∃ w, c.readClear r i mask = (c.regRead r i, c.setReg r i w) := ⟨_, rfl⟩

/-! The field rules of a 64-bit write (R8). -/

/-- The mask of a whole field leaves its bits. -/
theorem and_fieldMask {x w : Nat} (h : x < 2 ^ w) : x &&& (2 ^ w - 1) = x := by
  rw [Nat.and_two_pow_sub_one_eq_mod, Nat.mod_eq_of_lt h]

/-- A write that reaches every bit of a field follows the field's type. -/
theorem fieldWrite_fullMask {ty : FieldType} (hty : ty ≠ .wo) (locked : Bool) {o n w : Nat} (ho : o < 2 ^ w) (hn : n < 2 ^ w) :
    fieldWrite ty locked o n (2 ^ w - 1) = afterWrite ty locked o n := by
  cases ty with
  | wo => exact absurd rfl hty
  | ro | rc | rw | rw1c | rw1s | rwl => simp [fieldWrite, afterWrite, and_fieldMask ho, and_fieldMask hn]

theorem afterWrite_lt (ty : FieldType) (locked : Bool) {o n w : Nat} (ho : o < 2 ^ w) (hn : n < 2 ^ w) :
    afterWrite ty locked o n < 2 ^ w := by
  cases ty with
  | ro | rc | wo => exact ho
  | rw => exact hn
  | rw1c => exact Nat.lt_of_le_of_lt (Nat.sub_le _ _) ho
  | rw1s => exact Nat.or_lt_two_pow ho hn
  | rwl => cases locked with
    | false => exact hn
    | true => exact ho

/-- A 64-bit write leaves each field of a register as the field's type says. -/
theorem writeFields_field (c : Chip) {r : RegId} (i v : Nat) (hk : r ≠ .keysStage) (ht : r ≠ .pwrTimer) (f : FieldSpec) (hf : f ∈ regFields r) :
    bitsOf ((c.writeFields r i v wholeMask).reg r i) f.hi f.lo =
      afterWrite f.ty (c.locked r i) (bitsOf (c.reg r i) f.hi f.lo) (bitsOf v f.hi f.lo) := by
  obtain ⟨hle, hword⟩ := regFields_in_word r f hf
  have hfold := bitsOf_foldl_same (regFields r)
    (fun _ f => fieldWrite f.ty (c.locked r i) (bitsOf (c.reg r i) f.hi f.lo) (bitsOf v f.hi f.lo) (bitsOf wholeMask f.hi f.lo))
    (fun f => f.ty = .wo && r != .keysStage) (c.reg r i) f hf (fun g hg => (regFields_in_word r g hg).1) (regFields_disjoint r)
    (fun _ _ _ _ => rfl)
  unfold Chip.writeFields
  rw [if_neg ht, reg_setReg_same, bitsOf_mod_word _ _ _ hword]
  refine hfold.trans ?_
  by_cases hwo : f.ty = .wo
  · simp [hwo, hk, afterWrite]
  · have ho := bitsOf_lt (c.reg r i) f.hi f.lo
    have hn := bitsOf_lt v f.hi f.lo
    simp only [hwo, decide_false, Bool.false_and, Bool.false_eq_true, if_false]
    rw [bitsOf_wholeMask _ _ hle hword, fieldWrite_fullMask hwo _ ho hn, Nat.mod_eq_of_lt (afterWrite_lt _ _ ho hn)]

/-- Bits above the word are not written. -/
theorem writeFields_mod_word (c : Chip) {r : RegId} (i v : Nat) (hk : r ≠ .keysStage) (ht : r ≠ .pwrTimer) (f : FieldSpec)
    (hf : f ∈ regFields r) :
    bitsOf ((c.writeFields r i (v % 2 ^ 64) wholeMask).reg r i) f.hi f.lo =
      afterWrite f.ty (c.locked r i) (bitsOf (c.reg r i) f.hi f.lo) (bitsOf v f.hi f.lo) := by
  rw [writeFields_field c i _ hk ht f hf, bitsOf_mod_word _ _ _ (regFields_in_word r f hf).2]

/-! Registers whose write starts nothing. -/

/-- No write of a register starts an operation. -/
def StartsNothing (r : RegId) : Prop :=
  ∀ w u, effectE r w (effectD r w (effectC r w (effectB r w (effectA r w u)))) = u

/-- The part after reset with host ports 0 and 1 merged (R40): port 1 is then not the lead of its link. -/
def mergedReset : State := { State.reset with chip := { chipReset with fuses := { fusesReset with mrg0 := true } } }

/-- LINK_DIS written to HP1_CTL disables the link (R73), which shows in the register. -/
theorem not_startsNothing_hpCtl : ¬ StartsNothing .hpCtl := by
  intro h
  have e := congrArg (fun t : State => t.chip.flag F.HP_CTL_LINK_DIS 1) (h ⟨0, 1, 2 ^ 9, wholeMask, 0, [], 0⟩ mergedReset)
  exact absurd e (by decide +kernel)

/-- DRAIN_REQ written to INTAKE_FWACT starts a drain (R116), which shows in the register. -/
theorem not_startsNothing_intakeFwact : ¬ StartsNothing .intakeFwact := by
  intro h
  have e := congrArg (fun t : State => t.chip.flag F.INTAKE_FWACT_DRAIN_REQ) (h ⟨0, 0, 2 ^ 63, wholeMask, 0, [], 0⟩ State.reset)
  exact absurd e (by decide +kernel)

/-- Only INTAKE_FWACT and the mailbox doorbell have a bit that the plain write leaves to an operation. -/
theorem storeMask_eq {r : RegId} (mask : Nat) (hi : r ≠ .intakeFwact) (hm : r ≠ .bar2MbxDb) : storeMask r mask = mask := by
  unfold storeMask
  split
  · exact absurd rfl hi
  · exact absurd rfl hm
  · rfl

/-- A register whose write starts nothing is written under R8, and no more. -/
theorem regStore_of_startsNothing {r : RegId} (hs : StartsNothing r) (ho : ownStore r = false) (hm : r ≠ .bar2MbxDb)
    (i core v mask : Nat) (ext : List Byte) (dur : Nat) (s : State) :
    regStore r i core v mask ext dur s = { s with chip := s.chip.writeFields r i v mask } := by
  have hi : r ≠ .intakeFwact := fun h => not_startsNothing_intakeFwact (h ▸ hs)
  unfold regStore
  simp only [ho, storeMask_eq mask hi hm]
  exact hs _ _

/-! A core's way to a register. -/

/-- A register of the CSR space that a core reaches: its copy is there and its domain is On (R33, R502). -/
structure CoreReaches (c : Chip) (core : Nat) (r : RegId) (i : Nat) : Prop where
  valid : core < 16
  shown : (regPlace r).hostOnly = false
  copy : bankOf core r i < regCount r
  here : c.regAbsent r i = false
  bank : c.regAbsent r (bankOf core r i) = false
  on : c.domOn (regDomain r i) = true

section
variable {s : State} {core i : Nat} {r : RegId} (h : CoreReaches s.chip core r i)
include h

theorem CoreReaches.bank_lt : bankOf core r i < 65536 := Nat.lt_of_lt_of_le h.copy (regCount_le r)

theorem CoreReaches.not_mailbox : r ≠ .bar2MbxDb := by
  rintro rfl
  exact absurd h.shown (by decide)

theorem CoreReaches.coreMay : coreMay r i = true := by simp [Machine.coreMay, h.shown]

/-- The access is neither ignored nor answered with a fault. -/
theorem exec_registerWrite_csr (v : Nat) (ext : List Byte) (dur : Nat) :
    exec (.registerWrite (.csr core r i) v ext dur) s = .next (coreStore core r i (v % 2 ^ 64) wholeMask ext dur s) := by
  simp [exec, execRegisterWrite, onState, Nat.not_le.mpr h.valid, h.coreMay, h.on]

theorem exec_registerReadClear_csr (hl : r ≠ .hpLstat) :
    exec (.registerReadClear (.csr core r i)) s =
      let read := s.chip.readClear r (bankOf core r i) wholeMask
      .next { s with chip := read.2.emit (.coreData core read.1) } := by
  simp [exec, execRegisterReadClear, onChip, Chip.coreLoad, Nat.not_le.mpr h.valid, h.coreMay, h.on, Nat.not_le.mpr h.copy, h.bank, hl]

theorem coreStore_of_startsNothing (hs : StartsNothing r) (ho : ownStore r = false) (v mask : Nat) (ext : List Byte) (dur : Nat) :
    coreStore core r i v mask ext dur s = { s with chip := s.chip.writeFields r (bankOf core r i) v mask } := by
  have hp : r ≠ .hpCtl := fun e => not_startsNothing_hpCtl (e ▸ hs)
  simp [coreStore, Nat.not_le.mpr h.copy, h.bank, hp, h.not_mailbox, regStore_of_startsNothing hs ho h.not_mailbox]

end

/-- A core's write of a register that starts nothing. -/
theorem registerWrite_follows_types (s : State) {core i : Nat} {r : RegId} (v dur : Nat) (ext : List Byte) (h : CoreReaches s.chip core r i)
    (hs : StartsNothing r) (ho : ownStore r = false) (hk : r ≠ .keysStage) (ht : r ≠ .pwrTimer) :
    Gives (.registerWrite (.csr core r i) v ext dur) s fun t =>
      (∀ f ∈ regFields r, bitsOf (t.chip.reg r (bankOf core r i)) f.hi f.lo =
        afterWrite f.ty (s.chip.locked r (bankOf core r i)) (bitsOf (s.chip.reg r (bankOf core r i)) f.hi f.lo) (bitsOf v f.hi f.lo)) ∧
      RegsBut [(r, bankOf core r i)] s t ∧ Only [.regs] s t := by
  refine ⟨_, exec_registerWrite_csr h v ext dur, ?_⟩
  rw [coreStore_of_startsNothing h hs ho]
  refine ⟨fun f hf => writeFields_mod_word s.chip _ v hk ht f hf, ?_⟩
  obtain ⟨w, hw⟩ := writeFields_eq_setReg s.chip r (bankOf core r i) (v % 2 ^ 64) wholeMask
  rw [hw]
  exact ⟨regsBut_setReg s r w h.bank_lt, only_setReg s r _ w⟩

/-- A core's read of a register. -/
theorem registerReadClear_follows_types (s : State) {core i : Nat} {r : RegId} (h : CoreReaches s.chip core r i) (hl : r ≠ .hpLstat) :
    Gives (.registerReadClear (.csr core r i)) s fun t =>
      Sends [.coreData core (s.chip.regRead r (bankOf core r i))] s t ∧
      (∀ f ∈ regFields r, bitsOf (t.chip.reg r (bankOf core r i)) f.hi f.lo =
        if f.ty = .rc then 0 else bitsOf (s.chip.reg r (bankOf core r i)) f.hi f.lo) ∧
      RegsBut [(r, bankOf core r i)] s t ∧ Only [.regs, .out] s t := by
  refine ⟨_, exec_registerReadClear_csr h hl, ?_⟩
  have hfields := readClear_field s.chip r (bankOf core r i)
  obtain ⟨w, hw⟩ := readClear_eq_setReg s.chip r (bankOf core r i) wholeMask
  rw [hw] at hfields ⊢
  refine ⟨by simp [Sends], hfields, regsBut_setReg s r w h.bank_lt, ⟨rfl, rfl⟩, fun p hp => ?_⟩
  cases p <;> simp [Area.same] at hp ⊢

/-- Settles O8: a core that reaches a register stores or reads it under R8, and the write starts nothing else. -/
theorem registersFollowFieldTypes : Obligations.RegistersFollowFieldTypes := by
  unfold Obligations.RegistersFollowFieldTypes
  refine ⟨fun s core i v dur r ext hs ho hk ht hcore hshown hcopy hhere hbank hon => ?_,
    fun s core i r hcore hshown hl hcopy hhere hbank hon => ?_⟩
  · exact registerWrite_follows_types s v dur ext ⟨hcore, hshown, hcopy, hhere, hbank, hon⟩ hs ho hk ht
  · exact registerReadClear_follows_types s ⟨hcore, hshown, hcopy, hhere, hbank, hon⟩ hl

end Sys2Proof.Machine

/-! Frames: what a command leaves alone, composed from what each of its updates leaves alone. -/

namespace Sys2Proof.Machine

section
variable {ps : List Area} {s : State} {c : Chip}

theorem Only.refl (ps : List Area) (s : State) : Only ps s s := ⟨⟨rfl, rfl⟩, fun p _ => by cases p <;> rfl⟩

theorem Area.same_trans {p : Area} {a b c : Chip} (h : p.same a b) (h' : p.same b c) : p.same a c := by
  cases p <;> exact Eq.trans h' h

/-- A further update of the chip keeps a frame whose areas hold all that it changes. -/
theorem Only.update {c' : Chip} (h : Only ps s { s with chip := c }) (hc : ∀ p ∉ ps, p.same c c') : Only ps s { s with chip := c' } := by
  obtain ⟨hstill, hsame⟩ := h
  exact ⟨hstill, fun p hp => Area.same_trans (hsame p hp) (hc p hp)⟩

theorem Only.modM (h : Only ps s { s with chip := c }) (hm : .m ∈ ps) (g : Media → Media) : Only ps s { s with chip := c.modM g } :=
  h.update fun p hp => by
    cases p with
    | m => exact absurd hm hp
    | _ => rfl

theorem Only.advanceTo (h : Only ps s { s with chip := c }) (hnow : .now ∈ ps) (t : Nat) :
    Only ps s { s with chip := c.advanceTo t } :=
  h.update fun p hp => by
    cases p with
    | now => exact absurd hnow hp
    | _ => rfl

theorem Only.setFld (h : Only ps s { s with chip := c }) (hregs : .regs ∈ ps) (f : Fld) (v i : Nat) :
    Only ps s { s with chip := c.setFld f v i } :=
  h.update fun p hp => by
    cases p with
    | regs => exact absurd hregs hp
    | _ => simp [Area.same]

theorem Only.post (h : Only ps s { s with chip := c }) (hregs : .regs ∈ ps) (hev : .ev ∈ ps) (src id : Nat) (items : List Nat) :
    Only ps s { s with chip := c.post src id items } :=
  h.update fun p hp => by
    cases p with
    | regs => exact absurd hregs hp
    | ev => exact absurd hev hp
    | _ => simp [Area.same]

theorem Only.modDie (h : Only ps s { s with chip := c }) (hm : .m ∈ ps) (d : Nat) (g : Die → Die) :
    Only ps s { s with chip := c.modDie d g } := h.modM hm _

theorem Only.modOp (h : Only ps s { s with chip := c }) (hm : .m ∈ ps) (i : Nat) (g : Op → Op) :
    Only ps s { s with chip := c.modOp i g } := h.modM hm _

theorem Only.modRd (h : Only ps s { s with chip := c }) (hm : .m ∈ ps) (i : Nat) (g : Rd → Rd) :
    Only ps s { s with chip := c.modRd i g } := h.modM hm _

theorem Only.postOp (h : Only ps s { s with chip := c }) (hm : .m ∈ ps) (o : Op) : Only ps s { s with chip := c.postOp o } :=
  (h.modM hm _).modDie hm _ _

theorem RegsBut.refl (rs : List (RegId × Nat)) (s : State) : RegsBut rs s s := fun _ _ _ _ => rfl

theorem RegsBut.setFld {rs : List (RegId × Nat)} (h : RegsBut rs s { s with chip := c }) {f : Fld} {i : Nat} (hmem : (f.reg, i) ∈ rs)
    (hi : i < 65536) (v : Nat) : RegsBut rs s { s with chip := c.setFld f v i } := fun r j hj hr =>
  (reg_setFld_ne c f v i (regKey_ne_of_pair_ne hj hi fun e => hr (e ▸ hmem))).trans (h r j hj hr)

theorem RegsBut.modM {rs : List (RegId × Nat)} (h : RegsBut rs s { s with chip := c }) (g : Media → Media) :
    RegsBut rs s { s with chip := c.modM g } := h

theorem RegsBut.advanceTo {rs : List (RegId × Nat)} (h : RegsBut rs s { s with chip := c }) (t : Nat) :
    RegsBut rs s { s with chip := c.advanceTo t } := h

theorem RegsBut.post {rs : List (RegId × Nat)} (h : RegsBut rs s { s with chip := c }) (hmem : (.evrecStat, 0) ∈ rs)
    (src id : Nat) (items : List Nat) : RegsBut rs s { s with chip := c.post src id items } := fun r j hj hr =>
  (reg_post c src id items (regKey_ne_of_pair_ne hj (by decide) fun e => hr (e ▸ hmem))).trans (h r j hj hr)

end

/-! Dies, operations and reads of the media side (R206): what each reads after an update. -/

@[simp] theorem Chip.die_modDie_same (c : Chip) (d : Nat) (g : Die → Die) : (c.modDie d g).die d = g (c.die d) := by
  simp [Chip.modDie, Chip.die]

theorem Chip.die_modDie_ne (c : Chip) {d e : Nat} (g : Die → Die) (h : e ≠ d) : (c.modDie d g).die e = c.die e := by
  simp [Chip.modDie, Chip.die, pget_pset_ne _ _ h]

@[simp] theorem Chip.modDie_nextOp (c : Chip) (d : Nat) (g : Die → Die) : (c.modDie d g).m.nextOp = c.m.nextOp := rfl
@[simp] theorem Chip.modDie_now (c : Chip) (d : Nat) (g : Die → Die) : (c.modDie d g).now = c.now := rfl

@[simp] theorem Chip.op_modOp_same (c : Chip) (i : Nat) (g : Op → Op) : (c.modOp i g).op i = (c.op i).map g := pget_pmod_same _ _ _
@[simp] theorem Chip.die_modOp (c : Chip) (i d : Nat) (g : Op → Op) : (c.modOp i g).die d = c.die d := rfl

@[simp] theorem Chip.rd_modRd_same (c : Chip) (i : Nat) (g : Rd → Rd) : (c.modRd i g).rd i = (c.rd i).map g := pget_pmod_same _ _ _
@[simp] theorem Chip.die_modRd (c : Chip) (i d : Nat) (g : Rd → Rd) : (c.modRd i g).die d = c.die d := rfl
@[simp] theorem Chip.domOn_modRd (c : Chip) (i d : Nat) (g : Rd → Rd) : (c.modRd i g).domOn d = c.domOn d := rfl

@[simp] theorem Chip.die_advanceTo (c : Chip) (t d : Nat) : (c.advanceTo t).die d = c.die d := rfl
@[simp] theorem Chip.advanceTo_now (c : Chip) (t : Nat) : (c.advanceTo t).now = max c.now t := rfl

@[simp] theorem Chip.die_post (c : Chip) (src id : Nat) (items : List Nat) (d : Nat) : (c.post src id items).die d = c.die d := by
  simp [Chip.die]

/-! Operations posted straight to a sequencer: SUSPEND and RESUME (R206, R272). -/

theorem Chip.die_postOp_same (c : Chip) (o : Op) :
    (c.postOp o).die o.die = { c.die o.die with posted := (c.die o.die).posted ++ [c.m.nextOp] } :=
  Chip.die_modDie_same _ _ _

theorem Chip.die_postOp_ne (c : Chip) (o : Op) {d : Nat} (h : d ≠ o.die) : (c.postOp o).die d = c.die d :=
  Chip.die_modDie_ne _ _ h

theorem Chip.op_postOp_new (c : Chip) (o : Op) : (c.postOp o).op c.m.nextOp = some { o with arrived := c.now, stage := .posted } :=
  pget_pset_same _ _ _

@[simp] theorem Chip.postOp_now (c : Chip) (o : Op) : (c.postOp o).now = c.now := rfl

/-! Suspends (R210, R211). -/

/-- The state of a die whose operation `i` has been asked to suspend at a time. -/
def Die.suspending (i now : Nat) (d : Die) : Die :=
  { d with st := .suspending, susp := some i, suspAt := now, confAt := none, served := 0 }

/-- The SUSPEND and the RESUME of an operation of a die. -/
def suspendOp (die i : Nat) (o : Op) : Op := mkOp .suspend die o.block o.wl o.pslc o.cls (.suspendOf i)
def resumeOp (die i : Nat) (o : Op) : Op := mkOp .resume die o.block o.wl o.pslc o.cls (.resumeOf i)

/-- A die that may pause its program does so with SUSPEND_REQUEST. -/
theorem suspCheck_of_canPause {c : Chip} {die i : Nat} (h : c.canPause die i) :
    ∃ o, c.suspCheck die = (c.modDie die fun d => d.suspending i c.now).postOp (suspendOp die i o) := by
  obtain ⟨hst, hfind, ⟨o, hop, hsusp⟩, j, hj, r, hr, hread, hent⟩ := h
  have hwaits : (((c.die die).queue.filterMap c.op).filter fun (r : Op) => r.rt.isRead && c.entitled r.cls (c.now - r.arrived)).isEmpty =
      false :=
    List.isEmpty_eq_false_iff_exists_mem.mpr
      ⟨r, List.mem_filter.mpr ⟨List.mem_filterMap.mpr ⟨j, hj, hr⟩, by simp [hread, hent]⟩⟩
  refine ⟨o, ?_⟩
  have hprogram : ((c.die die).st != .program && (c.die die).st != .erase) = false := by simp [hst]
  simp only [Chip.suspCheck, hprogram, hfind, hop, hwaits, hsusp, Bool.false_eq_true, if_false, if_true, Die.suspending, suspendOp]

/-- A die whose array runs no program and no erase has nothing to suspend. -/
theorem suspCheck_of_reading {c : Chip} {die : Nat} (h : (c.die die).st = .read) : c.suspCheck die = c := by
  simp [Chip.suspCheck, h]

/-- A timer at whose end a die may pause pauses it, at that end or later. -/
theorem paused_suspCheck {s : State} {die i t : Nat} (h : (s.chip.advanceTo t).canPause die i) :
    Paused die i s { s with chip := (s.chip.advanceTo t).suspCheck die } ∧
      ((s.chip.advanceTo t).suspCheck die).now = max s.chip.now t := by
  obtain ⟨o, ho⟩ := suspCheck_of_canPause h
  rw [ho]
  refine ⟨⟨?_, ⟨_, Chip.op_postOp_new _ _, rfl, rfl, rfl, rfl⟩, fun d hd => ?_, ?_⟩, rfl⟩
  · refine (Chip.die_postOp_same _ (suspendOp die i o)).trans ?_
    simp [suspendOp, mkOp, Die.suspending]
  · exact (Chip.die_postOp_ne _ (suspendOp die i o) hd).trans (Chip.die_modDie_ne _ _ hd)
  · exact (((Only.refl _ s).advanceTo (by decide) t).modDie (by decide) _ _).postOp (by decide) _

/-- R211: a queued D1 read reaches the age at which it may suspend. -/
theorem exec_d1SuspendAgeExpiry {s : State} {i : Nat} {o : Op} (hop : s.chip.op i = some o) (hcls : o.cls = .d1) (hst : o.stage = .queued) :
    exec (.d1SuspendAgeExpiry i) s =
      .next { s with chip := (s.chip.advanceTo (o.arrived + us (s.chip.fld F.SCHED_DL_D1_SUSP_AGE_US))).suspCheck o.die } := by
  simp [exec, execD1SuspendAgeExpiry, onChip, hop, hcls, hst]

/-- R210: a QLC program reaches its minimum run. -/
theorem exec_minRunExpiry {s : State} {i : Nat} {o : Op} (hop : s.chip.op i = some o) (hstart : o.started = true)
    (hst : o.stage = .running) (hrt : o.rt = .programQlc) :
    exec (.minRunExpiry i) s = .next { s with chip := (s.chip.advanceTo (o.runAt + s.chip.minRun o)).suspCheck o.die } := by
  simp [exec, execMinRunExpiry, onChip, hop, hstart, hst, hrt, Routine.isProgram]

/-! Resumes (R212). -/

/-- The state of a die whose program is being resumed. -/
def Die.resumingProgram (d : Die) : Die := { d with st := .program, susp := none, confAt := none }

/-- A die with a suspended program, confirmed at `t0` and its array free: what the end of the hold finds. -/
structure HoldsProgram (c : Chip) (die i t0 : Nat) (o : Op) : Prop where
  susp : (c.die die).susp = some i
  op : c.op i = some o
  stage : o.stage = .suspended
  confirmed : (c.die die).confAt = some t0
  program : o.rt = .programQlc
  state : (c.die die).st = .prgSusp
  free : (c.die die).posted.length ≤ 1

/-- RESUME_ISSUE once the hold is over. -/
theorem dieNext_of_holdOver {c : Chip} {die i t0 : Nat} {o : Op} (h : HoldsProgram c die i t0 o) (hover : t0 + c.hold o ≤ c.now) :
    c.dieNext die = (c.modDie die fun d => d.resumingProgram).postOp (resumeOp die i o) := by
  simp [Chip.dieNext, h.susp, h.op, h.stage, h.confirmed, h.program, h.state, h.free, hover, Die.resumingProgram, resumeOp]

theorem exec_suspendHoldExpiry {s : State} {die i t0 : Nat} {o : Op} (h : HoldsProgram s.chip die i t0 o) :
    exec (.suspendHoldExpiry die) s = .next { s with
      chip := ((s.chip.advanceTo (t0 + s.chip.hold o)).modDie die fun d => d.resumingProgram).postOp (resumeOp die i o) } := by
  have hnext : (s.chip.advanceTo (t0 + s.chip.hold o)).dieNext die = _ :=
    dieNext_of_holdOver ⟨h.susp, h.op, h.stage, h.confirmed, h.program, h.state, h.free⟩ (Nat.le_max_right _ _)
  simp [exec, execSuspendHoldExpiry, onChip, h.susp, h.op, h.confirmed, h.stage, hnext]

theorem suspendHoldExpiry_resumes {s : State} {die i t0 : Nat} {o : Op} (h : HoldsProgram s.chip die i t0 o) :
    Gives (.suspendHoldExpiry die) s fun t =>
      t.chip.die die = { s.chip.die die with
        st := .program, susp := none, confAt := none, posted := (s.chip.die die).posted ++ [s.chip.m.nextOp] } ∧
      (∃ x, t.chip.op s.chip.m.nextOp = some x ∧ x.rt = .resume ∧ x.die = die ∧ x.purpose = .resumeOf i) ∧
      t.chip.now = max s.chip.now (t0 + s.chip.hold o) ∧ Only [.m, .now] s t := by
  refine ⟨_, exec_suspendHoldExpiry h, ?_, ⟨_, Chip.op_postOp_new _ _, rfl, rfl, rfl⟩, rfl, ?_⟩
  · refine (Chip.die_postOp_same _ (resumeOp die i o)).trans ?_
    simp [resumeOp, mkOp, Die.resumingProgram]
  · exact (((Only.refl _ s).advanceTo (by decide) _).modDie (by decide) _ _).postOp (by decide) _

/-! Stalled suspends (R215). -/

/-- Where no read waits on a die that becomes BLOCKED, none is spilled, replaced or handed over. -/
theorem dieBlocked_of_queue_nil {c : Chip} {die : Nat} (h : (c.die die).queue = []) :
    c.dieBlocked die = c.modDie die fun d => { d with st := .blocked } := by
  simp [Chip.dieBlocked, Chip.blockDie, Chip.reconsider, h]

theorem exec_suspendStallExpiry {s : State} {die i : Nat} (hsusp : (s.chip.die die).susp = some i)
    (hst : (s.chip.die die).st = .suspending) (hq : (s.chip.die die).queue = []) :
    exec (.suspendStallExpiry die) s = .next { s with
      chip := ((s.chip.advanceTo ((s.chip.die die).suspAt + us (max 30 (s.chip.fld F.SCHED_SPILL_STALL_US)))).post srcSched 0x3403
        [die, i]).modDie die fun d => { d with st := .blocked } } := by
  simp only [exec, execSuspendStallExpiry, onChip, hsusp, hst, if_true]
  rw [dieBlocked_of_queue_nil (by simpa using hq)]

theorem suspendStallExpiry_blocks {s : State} {die i : Nat} (hsusp : (s.chip.die die).susp = some i)
    (hst : (s.chip.die die).st = .suspending) (hq : (s.chip.die die).queue = []) :
    Gives (.suspendStallExpiry die) s fun t =>
      t.chip.die die = { s.chip.die die with st := .blocked } ∧ Posts srcSched 0x3403 [die, i] s t ∧
      t.chip.now = max s.chip.now ((s.chip.die die).suspAt + us (max 30 (s.chip.fld F.SCHED_SPILL_STALL_US))) ∧
      RegsBut [(.evrecStat, 0)] s t ∧ Only [.m, .regs, .ev, .now] s t := by
  refine ⟨_, exec_suspendStallExpiry hsusp hst hq, by simp, post_queue (s.chip.advanceTo _) _ _ _, by simp, ?_, ?_⟩
  · exact (((RegsBut.refl _ s).advanceTo _).post (by decide) _ _ _).modM _
  · exact (((Only.refl _ s).advanceTo (by decide) _).post (by decide) (by decide) _ _ _).modDie (by decide) _ _

/-! Arrival of a background read (R203, R205, R206). -/

/-- A die that reads picks nothing. -/
theorem diePick_of_reading {c : Chip} {d : Nat} (h : (c.die d).st = .read) : c.diePick d = c := by
  simp [Chip.diePick, Die.canStart, h]

/-- A demand on a domain that is On asks for nothing (R503). -/
theorem demand_of_domOn {c : Chip} {d : Nat} (h : c.domOn d = true) : c.demand d = c := by
  simp [Chip.demand, h]

/-- An operation listed with the next number. -/
def Chip.listOp (c : Chip) (o : Op) : Chip := c.modM fun m => { m with ops := pset m.ops c.m.nextOp o, nextOp := c.m.nextOp + 1 }

@[simp] theorem Chip.op_listOp (c : Chip) (o : Op) : (c.listOp o).op c.m.nextOp = some o := pget_pset_same _ _ _
@[simp] theorem Chip.die_listOp (c : Chip) (o : Op) (d : Nat) : (c.listOp o).die d = c.die d := rfl
@[simp] theorem Chip.rd_listOp (c : Chip) (o : Op) (i : Nat) : (c.listOp o).rd i = c.rd i := rfl
@[simp] theorem Chip.domOn_listOp (c : Chip) (o : Op) (d : Nat) : (c.listOp o).domOn d = c.domOn d := rfl

/-- An operation waits at the end of its die's queue. -/
def Chip.enqueue (c : Chip) (i die : Nat) : Chip :=
  (c.modOp i fun o => { o with stage := .queued }).modDie die fun d => { d with queue := d.queue ++ [i] }

@[simp] theorem Chip.die_enqueue_same (c : Chip) (i d : Nat) :
    (c.enqueue i d).die d = { c.die d with queue := (c.die d).queue ++ [i] } := Chip.die_modDie_same _ _ _
theorem Chip.die_enqueue_ne (c : Chip) (i : Nat) {d e : Nat} (h : e ≠ d) : (c.enqueue i d).die e = c.die e := Chip.die_modDie_ne _ _ h
@[simp] theorem Chip.op_enqueue_same (c : Chip) (i d : Nat) :
    (c.enqueue i d).op i = (c.op i).map fun o => { o with stage := .queued } := Chip.op_modOp_same _ _ _
@[simp] theorem Chip.rd_enqueue (c : Chip) (i d j : Nat) : (c.enqueue i d).rd j = c.rd j := rfl
@[simp] theorem Chip.domOn_enqueue (c : Chip) (i d e : Nat) : (c.enqueue i d).domOn e = c.domOn e := rfl

/-- An operation that reaches a die that reads waits there. -/
theorem queueOp_of_reading {c : Chip} {i : Nat} {o : Op} (hop : c.op i = some o) (h : (c.die o.die).st = .read) :
    c.queueOp i = c.enqueue i o.die := by
  simp only [Chip.queueOp, hop]
  exact diePick_of_reading (by simp [h])

/-- A new READ passes neither ledger nor sluice (R192). -/
theorem newOp_of_read {c : Chip} {o : Op} (hrt : o.rt = .read) (h : (c.die o.die).st = .read) :
    c.newOp o = ((c.listOp { o with arrived := c.now }).enqueue c.m.nextOp o.die, c.m.nextOp) := by
  have hqueue := queueOp_of_reading (c.op_listOp { o with arrived := c.now }) h
  have hfree : o.rt.charged = false ∧ o.rt ≠ .softRead := by simp [hrt, Routine.charged, Routine.isProgram]
  simp only [Chip.newOp, hfree.1, hfree.2, Bool.false_eq_true, if_false, ite_self]
  exact congrArg (·, c.m.nextOp) hqueue

/-- A read queued on a die that reads, of a member whose domain is On: its operation waits there, and nothing is suspended or woken for it. -/
theorem queueRead_of_reading {c : Chip} {i : Nat} {r : Rd} (hrd : c.rd i = some r)
    (hon : c.domOn (domFg (memberOf r.at_.die / 6)) = true) (hst : (c.die r.at_.die).st = .read) :
    c.queueRead i = ((c.listOp (c.directOp i r)).enqueue c.m.nextOp r.at_.die).modRd i fun r => { r with op := some c.m.nextOp } := by
  have hnew : c.newOp (c.directOp i r) = ((c.listOp (c.directOp i r)).enqueue c.m.nextOp r.at_.die, c.m.nextOp) := newOp_of_read rfl hst
  simp only [Chip.queueRead, hrd, hnew]
  rw [demand_of_domOn (by simpa using hon), suspCheck_of_reading (by simp [hst])]

/-- A read as it reaches SCHED in class B. -/
def Rd.arriveB (now : Nat) (r : Rd) : Rd := { r with here := true, cls := .b, deadline := none, arrived := now }

/-- A read of the patrol that no row, no other copy and no reconstruction serves. -/
structure PatrolRead (c : Chip) (i : Nat) (r : Rd) : Prop where
  rd : c.rd i = some r
  new : r.here = false
  patrol : ∃ p, r.for_ = .patrol p
  noRow : r.place = none
  noCopy : r.other = none
  direct : r.degraded = false

/-- The chip once such a read has its class, and the side of a basin has been chosen for it. -/
def Chip.takeB (c : Chip) (i : Nat) : Chip := (c.modRd i (Rd.arriveB c.now)).modRd i (c.modRd i (Rd.arriveB c.now)).basinSide

@[simp] theorem Chip.die_takeB (c : Chip) (i d : Nat) : (c.takeB i).die d = c.die d := rfl

theorem PatrolRead.rd_takeB {c : Chip} {i : Nat} {r : Rd} (h : PatrolRead c i r) : (c.takeB i).rd i = some (r.arriveB c.now) := by
  simp [Chip.takeB, h.rd, Chip.basinSide, Rd.arriveB, h.noCopy]

/-- It goes to its die: class B has no deadline and is not spilled (R203, R217). -/
theorem readArrives_of_patrol {c : Chip} {i : Nat} {r : Rd} (h : PatrolRead c i r) : c.readArrives i = (c.takeB i).queueRead i := by
  obtain ⟨p, hp⟩ := h.patrol
  have hcls : c.classOf r = .b := by simp [Chip.classOf, hp]
  have htaken : (c.modRd i fun r => { r with here := true, cls := .b, deadline := none, arrived := c.now }).modRd i
      (c.modRd i fun r => { r with here := true, cls := .b, deadline := none, arrived := c.now }).basinSide = c.takeB i := rfl
  have hdirect : (r.arriveB c.now).place = none ∧ (r.arriveB c.now).degraded = false := ⟨h.noRow, h.direct⟩
  simp [Chip.readArrives, h.rd, h.new, hcls, Chip.deadlineOf, hp, htaken, h.rd_takeB, hdirect, Chip.spillClass]

theorem exec_schedReadArrival_of_patrol {s : State} {i : Nat} {r : Rd} (h : PatrolRead s.chip i r)
    (hon : s.chip.domOn (domFg (memberOf r.at_.die / 6)) = true) (hst : (s.chip.die r.at_.die).st = .read) :
    exec (.schedReadArrival i) s = .next { s with
      chip := (((s.chip.takeB i).listOp ((s.chip.takeB i).directOp i (r.arriveB s.chip.now))).enqueue s.chip.m.nextOp r.at_.die).modRd i
        fun r => { r with op := some s.chip.m.nextOp } } := by
  simp only [exec, execSchedReadArrival, onChip, readArrives_of_patrol h]
  rw [queueRead_of_reading h.rd_takeB hon hst]
  rfl

theorem schedReadArrival_queues {s : State} {i : Nat} {r : Rd} (h : PatrolRead s.chip i r)
    (hon : s.chip.domOn (domFg (memberOf r.at_.die / 6)) = true) (hst : (s.chip.die r.at_.die).st = .read) :
    Gives (.schedReadArrival i) s fun t =>
      t.chip.rd i = some { r with here := true, cls := .b, deadline := none, arrived := s.chip.now, op := some s.chip.m.nextOp } ∧
      t.chip.die r.at_.die = { s.chip.die r.at_.die with queue := (s.chip.die r.at_.die).queue ++ [s.chip.m.nextOp] } ∧
      (∃ o, t.chip.op s.chip.m.nextOp = some o ∧ o.rt = .read ∧ o.die = r.at_.die ∧ o.purpose = .read i ∧ o.cls = .b ∧ o.stage = .queued) ∧
      (∀ d, d ≠ r.at_.die → t.chip.die d = s.chip.die d) ∧ Only [.m] s t := by
  refine ⟨_, exec_schedReadArrival_of_patrol h hon hst, ?_, by simp, ?_, fun d hd => ?_, ?_⟩
  · simp [h.rd_takeB, Rd.arriveB]
  · exact ⟨_, (Chip.op_enqueue_same _ _ r.at_.die).trans (congrArg _ (Chip.op_listOp (s.chip.takeB i) _)), rfl, rfl, rfl, rfl, rfl⟩
  · exact Chip.die_enqueue_ne _ _ hd
  · have htake : Only [.m] s { s with chip := s.chip.takeB i } := ((Only.refl _ s).modRd (by decide) _ _).modRd (by decide) _ _
    exact (((htake.modM (by decide) _).modOp (by decide) _ _).modDie (by decide) _ _).modRd (by decide) _ _

/-! The histograms of latency (R227). -/

/-- A live bin, copied to its register; the first `n` of them. -/
def Chip.copyBin (c : Chip) (i : Nat) : Chip := c.setFld F.SCHED_LATBIN_COUNT (mget 0 c.m.hist i) i
def Chip.copyHist (c : Chip) (n : Nat) : Chip := (List.range n).foldl (fun c i => c.copyBin i) c

theorem Chip.copyHist_succ (c : Chip) (n : Nat) :
    c.copyHist (n + 1) = (c.copyHist n).setFld F.SCHED_LATBIN_COUNT (mget 0 (c.copyHist n).m.hist n) n := by
  rw [Chip.copyHist, List.range_succ, List.foldl_append, List.foldl_cons, List.foldl_nil, Chip.copyBin, Chip.copyHist]

@[simp] theorem Chip.copyHist_m (c : Chip) (n : Nat) : (c.copyHist n).m = c.m := by
  induction n with
  | zero => rfl
  | succ n ih => simp [Chip.copyHist_succ, ih]

theorem only_copyHist (s : State) (n : Nat) {ps : List Area} (hregs : .regs ∈ ps) : Only ps s { s with chip := s.chip.copyHist n } := by
  induction n with
  | zero => exact Only.refl _ s
  | succ n ih => exact Chip.copyHist_succ _ _ ▸ ih.setFld hregs _ _ _

theorem regsBut_copyHist (s : State) {n : Nat} (hn : n ≤ 65536) {rs : List (RegId × Nat)} (hrs : ∀ i < n, (.schedLatbin, i) ∈ rs) :
    RegsBut rs s { s with chip := s.chip.copyHist n } := by
  induction n with
  | zero => exact RegsBut.refl _ s
  | succ n ih =>
    rw [Chip.copyHist_succ]
    exact (ih (by omega) fun i hi => hrs i (by omega)).setFld (hrs n (by omega)) (by omega) _

/-- Each copied bin reads its live count, cut to the field. -/
theorem latbin_copyHist (c : Chip) {n i : Nat} (hn : n ≤ 65536) (hi : i < n) :
    (c.copyHist n).fld F.SCHED_LATBIN_COUNT i = mget 0 c.m.hist i % 2 ^ 48 := by
  induction n with
  | zero => omega
  | succ n ih =>
    rw [Chip.copyHist_succ, Chip.copyHist_m]
    rcases Nat.lt_succ_iff_lt_or_eq.mp hi with hlt | rfl
    · rw [fld_setFld_ne _ _ _ _ (regKey_ne (by omega) (by omega) (.inr (Nat.ne_of_lt hlt)))]
      exact ih (by omega) hlt
    · exact fld_setFld_same _ _ _ _ (by decide) (by decide)

theorem exec_latencySnapshot (s : State) : exec .latencySnapshot s = .next { s with
    chip := ((s.chip.copyHist 192).modM fun m => { m with hist := [] }).setFld F.SCHED_LATCTL_SNAP 0 } := by
  simp only [exec, execLatencySnapshot, onChip, Chip.copyHist, Chip.copyBin]

theorem latencySnapshot_copies (s : State) :
    Gives .latencySnapshot s fun t =>
      (∀ i, i < 192 → t.chip.fld F.SCHED_LATBIN_COUNT i = mget 0 s.chip.m.hist i % 2 ^ 48) ∧ t.chip.m = { s.chip.m with hist := [] } ∧
      t.chip.fld F.SCHED_LATCTL_SNAP = 0 ∧
      RegsBut ((.schedLatctl, 0) :: (List.range 192).map fun i => (.schedLatbin, i)) s t ∧ Only [.m, .regs] s t := by
  refine ⟨_, exec_latencySnapshot s, fun i hi => ?_, by simp, fld_setFld_same _ _ _ _ (by decide) (by decide), ?_, ?_⟩
  · rw [fld_setFld_ne _ _ _ _ (regKey_ne (by omega) (by decide) (.inl (by decide))), Chip.modM_fld]
    exact latbin_copyHist s.chip (by decide) hi
  · have hcopy := regsBut_copyHist s (n := 192) (by decide) (rs := (.schedLatctl, 0) :: (List.range 192).map fun i => (.schedLatbin, i))
      fun i hi => by simp [hi]
    exact (hcopy.modM _).setFld List.mem_cons_self (by decide) _
  · exact ((only_copyHist s 192 (by decide)).modM (by decide) _).setFld (by decide) _ _ _

/-! The window of the spillway's cap (R223). -/

/-- The counts of a new window. -/
def Media.newWindow (m : Media) : Media := { m with spillStarted := 0, spillNoted := 0, prevReads := m.winReads, winReads := 0 }

theorem exec_spillWindowRollover_of_none {s : State} (h : s.chip.m.spillNoted = 0) :
    exec .spillWindowRollover s = .next { s with chip := s.chip.modM fun m => m.newWindow } := by
  simp [exec, execSpillWindowRollover, onChip, h, Media.newWindow]

theorem exec_spillWindowRollover_of_some {s : State} (h : s.chip.m.spillNoted ≠ 0) :
    exec .spillWindowRollover s =
      .next { s with chip := (s.chip.post srcSched 0x3402 [s.chip.m.spillNoted]).modM fun m => m.newWindow } := by
  simp [exec, execSpillWindowRollover, onChip, Nat.pos_of_ne_zero h, Media.newWindow]

theorem spillWindowRollover_opens_window (s : State) :
    Gives .spillWindowRollover s fun t =>
      t.chip.m = { s.chip.m with spillStarted := 0, spillNoted := 0, prevReads := s.chip.m.winReads, winReads := 0 } ∧
      (s.chip.m.spillNoted = 0 → Only [.m] s t) ∧
      (s.chip.m.spillNoted ≠ 0 → Posts srcSched 0x3402 [s.chip.m.spillNoted] s t ∧ RegsBut [(.evrecStat, 0)] s t ∧ Only [.m, .regs, .ev] s t) := by
  by_cases h : s.chip.m.spillNoted = 0
  · exact ⟨_, exec_spillWindowRollover_of_none h, rfl, fun _ => (Only.refl _ s).modM (by decide) _, fun hne => absurd h hne⟩
  · refine ⟨_, exec_spillWindowRollover_of_some h, by simp [Media.newWindow], fun h0 => absurd h0 h, fun _ => ⟨post_queue _ _ _ _, ?_, ?_⟩⟩
    · exact (RegsBut.refl _ s).post (by decide) _ _ _
    · exact ((Only.refl _ s).post (by decide) (by decide) _ _ _).modM (by decide) _

/-- Settles O36: a read's arrival, the timers of suspend and resume, the snapshot and the rollover, each by the lemma about it. -/
theorem diesAreScheduled : Obligations.DiesAreScheduled := by
  unfold Obligations.DiesAreScheduled
  intro s
  refine ⟨fun i r p hrd hhere hfor hplace hother hdeg => schedReadArrival_queues ⟨hrd, hhere, ⟨p, hfor⟩, hplace, hother, hdeg⟩,
    fun i o k hop hcls hst hpause => ⟨_, exec_d1SuspendAgeExpiry hop hcls hst, paused_suspCheck hpause⟩,
    fun i o hop hstart hst hrt hpause => ⟨_, exec_minRunExpiry hop hstart hst hrt, paused_suspCheck hpause⟩,
    fun die i o t0 hsusp hop hstage hconf hrt hst hposted => suspendHoldExpiry_resumes ⟨hsusp, hop, hstage, hconf, hrt, hst, hposted⟩,
    fun die i hsusp hst hq => suspendStallExpiry_blocks hsusp hst hq, latencySnapshot_copies s, spillWindowRollover_opens_window s⟩

end Sys2Proof.Machine
